-- ==== Sys2Proof/Word.lean ====
section
/-! DEFINITION. The words of the machine: 32-bit registers and scalars, bytes, 16-bit lanes and duty codes. -/

namespace Sys2Proof

/-- A 32-bit register word or Molia scalar. -/
abbrev Word := BitVec 32

/-- A byte. Multi-byte values are little-endian (R16). -/
abbrev Byte := BitVec 8

/-- A 16-bit vector lane, intensity, duty or duty code (R77, R173). -/
abbrev Half := BitVec 16

end Sys2Proof
end

