-- ==== Sys2Proof/Syntax.lean ====
section
/-! DEFINITION. The commands the block takes: one constructor of `Instr` per row of spec/opcode_table.json.
A command from a host carries its context and payload; a step of the device itself carries what the
environment brings to it (levels, readings, received packets), as its operands. -/

namespace Sys2Proof

/-- Engine side (R297): A holds BE-A, B holds BE-B. -/
inductive Side where
  | a | b
  deriving DecidableEq, Repr

abbrev Ctx := Fin 4          -- context C0 to C3 (R18)
abbrev Zone := Fin 16        -- zone Z0 to Z15 (R37)
abbrev Cluster := Fin 8      -- cluster of one engine (R145)
abbrev Port := Fin 2         -- Ranfer port A, B (R234)
abbrev BerthNo := Fin 64     -- berth B0 to B63 (R20)
abbrev StringNo := Fin 262144 -- string s (R37)

/-- Host interfaces, in the numbering of event 12 (R441). -/
inductive Iface where
  | portA | portB | spi | can
  deriving DecidableEq, Repr

/-- Units of the beacon monitor (R300), in its numbering. -/
inductive UnitNo where
  | beA | beB | hmA | hmB
  deriving DecidableEq, Repr

/-- What of one sector fails (R413): its erase, its programming, or the comparison of what was read back. -/
inductive FlashStep where
  | erase | program | compare
  deriving DecidableEq, Repr

/-- One sector of the program store that fails while a command writes it (R413): sectors count from the first one
written, and the commit record's follows the last; `again`: the retry fails too. -/
structure FlashFail where
  sector : Nat
  step : FlashStep
  again : Bool
  deriving DecidableEq, Repr

/-- One SEC-DED finding in a memory word met by a reader (R124): byte offset of the 64-bit word, and whether
the error is uncorrectable. -/
structure EccHit where
  off : Nat
  uncorr : Bool
  deriving DecidableEq, Repr

/-- What the environment brings to the commands of a manifest: store sectors that fail (R413), berth words found in
error while berths are read (R124), and control addresses in the windows of an engine whose word is found with a
single-bit error while it is read (R152, R164). -/
structure HostEnv where
  flash : List FlashFail := []
  ecc : List EccHit := []
  win : List Nat := []
  deriving DecidableEq, Repr

/-- What stands around one host command (R260, R261): context, queue (`m` is the Q bit), MSEQ and ACK_ALL of
its manifest. -/
structure HostHdr where
  ctx : Ctx
  m : Bool
  mseq : Word
  ackAll : Bool
  env : HostEnv
  deriving DecidableEq, Repr

/-- One 66-bit block of a Ranfer lane after lock, descrambling and deskew (R236, R237): control or data, and its eight
payload bytes. -/
structure Block where
  ctrl : Bool
  bytes : List Byte
  deriving DecidableEq, Repr

/-- An error the CAN FD controller counts (R277): an error seen as receiver, a dominant bit after its own error flag
as receiver, an error as transmitter. -/
inductive CanErr where
  | rx | rxDominant | tx
  deriving DecidableEq, Repr

/-- A received CAN FD frame (R277, R278), and the errors counted since the controller last sent or received one. -/
structure CanFrame where
  id : Nat
  ext : Bool      -- 29-bit identifier
  fd : Bool       -- FD frame format
  brs : Bool      -- bit rate switch
  remote : Bool
  data : List Byte
  errs : List CanErr := []
  deriving DecidableEq, Repr

/-- What training finds on one forward lane (R239, R241): lock, FOM, CTLE setting, DFE taps. -/
structure LaneQuality where
  lock : Bool
  fom : Byte
  ctle : BitVec 4
  taps : BitVec 30
  deriving DecidableEq, Repr

/-- Faults of the two-copy or two-channel comparisons made at a tick (R330, R345). -/
structure TickEnv where
  selfCheckDiffers : Bool   -- Breakwater's two copies differ (R345)
  coreFlips : BitVec 21     -- verdict bits in which the safety core's channel differs from Breakwater's (R330)
  deriving DecidableEq, Repr

/-- What the environment brings to the guard window: display signatures that do not read as the front buffer's
own (R363: `none` unreadable), lanes without lock in time (R293, R294), and PRBS31 bit errors counted on lanes in
this window (R293; a lane not listed had none). -/
structure GuardEnv where
  dsig : List (Nat × Option Word)
  noLock : List (Side × Zone)
  prbs : List (Side × Zone × Nat)
  deriving DecidableEq, Repr

/-- One tile's in-service test as measured (R359): compliance trip, overvoltage sense of the tested pixel, its
voltage in mV, the source current in nA, the reference deviation in 0.01 %. -/
structure IstReading where
  tile : Fin 512
  trip : Bool
  sense : Bool
  mv : Nat
  na : Nat
  refDev : Int
  deriving DecidableEq, Repr

/-- One switch element whose sensed state a tile test controller reports (R362). -/
structure ReadbackSense where
  str : StringNo
  source : Bool     -- the string's source, else the shunt of position k
  k : Fin 8
  on : Bool         -- source on, or shunt open
  deriving DecidableEq, Repr

/-- The read-back of one off pulse (R342, R343). -/
structure OffPulseReading where
  before : Nat         -- zone current before the pulse, in µA
  least : Nat          -- smallest zone current within 2 µs of the deassertion, in µA
  enableOff : Bool     -- the stack's read-back showed the enable off within 2 µs
  zenHigh : Bool       -- ZEN_N read high within 1 µs
  onRead : Bool        -- the path read back on within 4 µs after the pulse
  realCut : Bool       -- a real cut demand arrived during the pulse
  reEnable : Bool      -- a real re-enable fell within 4 µs before the pulse or during it
  deriving DecidableEq, Repr

/-- Hardware exceptions of an engine (R164). -/
inductive HwCause where
  | pmEcc | scrEcc | handoff
  deriving DecidableEq, Repr

/-- A TILE packet as received (R284, R285). `framed`: its framing is unbroken. -/
structure TilePkt where
  framed : Bool
  kind : Byte
  tz : Byte
  frm : Word
  icode : Byte
  rsv : Byte
  codes : List Half
  crc : Word
  deriving DecidableEq, Repr

/-- A ZEND packet as received (R284). -/
structure ZendPkt where
  framed : Bool
  kind : Byte
  frm : Word
  rsv : BitVec 24
  zcrc : Word
  crc : Word
  deriving DecidableEq, Repr

/-- A ZCMD packet as received (R284, R287). -/
structure ZcmdPkt where
  framed : Bool
  kind : Byte
  cmd : Byte
  start : Half
  count : Half
  rsv : Half
  data : List Byte
  crc : Word
  deriving DecidableEq, Repr

/-- An ORDER block as received, bytes 1 to 7 (R283). -/
structure OrderBlock where
  b1 : Byte
  darkmask : Half
  frm : Half
  rsv : Byte
  crc8 : Byte
  deriving DecidableEq, Repr

/-- A tile's reference conversion: deviation from nominal in 0.01 % (R369). -/
structure RefReading where
  dev : Int
  deriving DecidableEq, Repr

/-- One string as a calibrating tile finds it (R371, R372, R375): currents in nA (`iOff` with the source off,
`meas` the conversions at trim codes 0 to 63, code = TRIM + 32, `verify` the verify conversion), a compliance
trip without sense, and for each pixel its voltage in mV with compliance trip and sense, and the shunt check. -/
structure CalPixel where
  mv : Nat
  trip : Bool
  stuckClosed : Bool
  stuckOpen : Bool
  deriving DecidableEq, Repr

structure CalString where
  iOff : Nat
  meas : List Nat
  verify : Nat
  tripNoSense : Bool
  pixels : List CalPixel
  deriving DecidableEq, Repr

/-- What one tile measures in CALRUN: string-within-tile index and findings; a string not listed is nominal. -/
structure CalReading where
  strings : List (Nat × CalString)
  nominalMv : Nat
  deriving DecidableEq, Repr

/-- Return lanes RTN0 and RTN1 (R291). -/
inductive RtnLane where
  | rtn0 | rtn1
  deriving DecidableEq, Repr

/-- A record of the return lanes (R291), with the CRC it carries. -/
structure Record where
  kind : Byte
  zone : Byte
  frm : Half
  arg : Half
  data : List Byte
  crc : Word
  deriving DecidableEq, Repr

/-- A tile-link lane: a side's forward lane of a zone, or a return lane (R293). -/
inductive TlLane where
  | fwd (e : Side) (z : Zone)
  | rtn (l : RtnLane)
  deriving DecidableEq, Repr

/-- The end of one PMBus attempt (R109): acknowledged with a valid PEC and the word read (0 for a write), or
failed (NAK, PEC mismatch, clock stretch, bus held low), or failed in the PAGE that precedes it (R107). -/
inductive PmResult where
  | ok (v : Half)
  | failed
  | pageFailed
  deriving DecidableEq, Repr

/-- The regulator a PMBus transaction addresses: a zone's, or logic rail i of R120 (0 to 7). -/
inductive PmTarget where
  | zone (z : Zone)
  | logic (i : Fin 8)
  deriving DecidableEq, Repr

/-- A beacon as received (R300): the bus path's 8 bytes, or a toggle of the wire `sinceUs` after the last. -/
inductive BeaconRx where
  | bus (bytes : List Byte)
  | wire (sinceUs : Nat)
  deriving DecidableEq, Repr

/-- Safety core faults (R346). -/
inductive CoreFault where
  | lockstep | ram | heartbeat
  deriving DecidableEq, Repr

/-- The loops of R419, numbered as the LOCK bits of CLK_STAT. -/
inductive Pll where
  | sysA | sysB | lane | tlA | tlB | slot | safe
  deriving DecidableEq, Repr

/-- Clock multiplexers of R426. -/
inductive ClockMux where
  | common | seqclk | slotRef | clkout | wakeBypass
  deriving DecidableEq, Repr

/-- What BOOT meets (R406, R407): strap word, temperatures in 0.1 °C, BIST results. -/
structure BootEnv where
  straps : Half
  pad : Int
  die : Int
  hmAOk : Bool
  hmBOk : Bool
  berthOk : Bool
  beAOk : Bool
  beBOk : Bool
  deriving DecidableEq, Repr

/-- The specials that SGET reads (R186). -/
inductive SgetSel where
  | tile | frm | cluster | rowY0 | colX0
  deriving DecidableEq, Repr

/-- Single-bit errors corrected while an instruction was fetched from program memory and read scratch (R152, R164). -/
structure EngEcc where
  pm : Nat
  scr : Nat
  deriving DecidableEq, Repr

/-! Fields of the Molia formats (R180), the reserved bits `rsv` among them. `ext` is the extension word of
R181, read only where the instruction has one; `ecc` are the errors corrected while it was fetched and ran. -/

structure FC where
  imm8 : BitVec 8
  rsv : BitVec 12      -- [25:16] and [7:6]
  ecc : EngEcc := ⟨0, 0⟩
  deriving DecidableEq, Repr

structure FG where
  sd : BitVec 4
  rsv : BitVec 18      -- [21:4]
  ecc : EngEcc := ⟨0, 0⟩
  deriving DecidableEq, Repr

structure FB where
  sa : BitVec 4        -- BANY and BNONE: bit 3 reserved, [2:0] the predicate register
  rsv : BitVec 4       -- [18:15]
  target : BitVec 15
  ecc : EngEcc := ⟨0, 0⟩
  deriving DecidableEq, Repr

structure FJ where
  sd : BitVec 4
  sa : BitVec 4
  rsv : BitVec 3       -- [17:15]
  target : BitVec 15
  ecc : EngEcc := ⟨0, 0⟩
  deriving DecidableEq, Repr

structure FS where
  sd : BitVec 4
  sa : BitVec 4
  sb : BitVec 4
  xi : Bool
  rsv : BitVec 7       -- [12:6]
  ext : Word
  ecc : EngEcc := ⟨0, 0⟩
  deriving DecidableEq, Repr

structure FSI where
  sd : BitVec 4
  sa : BitVec 4
  rsv : BitVec 2       -- [17:16]
  imm16 : BitVec 16
  ecc : EngEcc := ⟨0, 0⟩
  deriving DecidableEq, Repr

structure FSM where
  sr : BitVec 4
  sb : BitVec 4
  rsv : BitVec 1       -- [17]
  imm17 : BitVec 17
  ecc : EngEcc := ⟨0, 0⟩
  deriving DecidableEq, Repr

structure FT where
  sd : BitVec 4
  sa : BitVec 4
  sl : BitVec 4
  layer : BitVec 4
  rsv : BitVec 8       -- [7:0]
  ecc : EngEcc := ⟨0, 0⟩
  deriving DecidableEq, Repr

structure FV where
  bcast : Bool         -- VS form, major opcode 0x19
  vd : BitVec 5
  va : BitVec 5
  vb : BitVec 5        -- vb, or bsel in the VS form
  pred : BitVec 5
  ext : Word
  ecc : EngEcc := ⟨0, 0⟩
  deriving DecidableEq, Repr

structure FP where
  pd : BitVec 3
  pa : BitVec 3
  pb : BitVec 3
  rsv : BitVec 11      -- [16:6]
  ecc : EngEcc := ⟨0, 0⟩
  deriving DecidableEq, Repr

structure FPR where
  pd : BitVec 3
  sa : BitVec 4
  sb : BitVec 4
  rsv : BitVec 9       -- [14:6]
  ecc : EngEcc := ⟨0, 0⟩
  deriving DecidableEq, Repr

structure FVM where
  vr : BitVec 5
  sb : BitVec 4
  pred : BitVec 5
  imm12 : BitVec 12
  ecc : EngEcc := ⟨0, 0⟩
  deriving DecidableEq, Repr

structure FL where
  vd : BitVec 5
  va : BitVec 5
  sb : BitVec 4
  sh : BitVec 4
  pred : BitVec 5
  rsv : BitVec 2       -- [1:0]
  ecc : EngEcc := ⟨0, 0⟩
  deriving DecidableEq, Repr

structure FRS where
  vd : BitVec 5
  g : BitVec 2
  pred : BitVec 5
  lin : Bool
  rsv : BitVec 13      -- [12:0]
  ecc : EngEcc := ⟨0, 0⟩
  deriving DecidableEq, Repr

structure FO where
  vs : BitVec 5
  sr : BitVec 4
  pred : BitVec 5
  rsv : BitVec 6       -- [11:6]
  row : BitVec 6
  ecc : EngEcc := ⟨0, 0⟩
  deriving DecidableEq, Repr

/-- The commands, one constructor per row of spec/opcode_table.json, in the table's order.
DESIGN CHOICE: log 1, 9, 139. -/
inductive Instr where
  /-- REG_RD (R274). -/
  | regRd (h : HostHdr) (p : List Byte)
  /-- REG_WR (R274). -/
  | regWr (h : HostHdr) (p : List Byte)
  /-- REG_SNAP (R274). -/
  | regSnap (h : HostHdr) (p : List Byte)
  /-- BERTH_ALLOC (R128). -/
  | berthAlloc (h : HostHdr) (p : List Byte)
  /-- BERTH_FREE (R133). -/
  | berthFree (h : HostHdr) (p : List Byte)
  /-- BERTH_WRITE (R133). -/
  | berthWrite (h : HostHdr) (p : List Byte)
  /-- BERTH_READY (R133). -/
  | berthReady (h : HostHdr) (p : List Byte)
  /-- OBJ_LIST (R23). -/
  | objList (h : HostHdr) (p : List Byte)
  /-- LAYER_SET (R139). -/
  | layerSet (h : HostHdr) (p : List Byte)
  /-- COMMIT (R54). -/
  | commit (h : HostHdr) (p : List Byte)
  /-- FADE (R225). -/
  | fade (h : HostHdr) (p : List Byte)
  /-- PITCH_YAW (R216). -/
  | pitchYaw (h : HostHdr) (p : List Byte)
  /-- MODE_REQ (R396). -/
  | modeReq (h : HostHdr) (p : List Byte)
  /-- PROG_LOAD (R209). -/
  | progLoad (h : HostHdr) (p : List Byte)
  /-- HOT_SWAP (R212). -/
  | hotSwap (h : HostHdr) (p : List Byte)
  /-- STORE_WRITE (R413). -/
  | storeWrite (h : HostHdr) (p : List Byte)
  /-- STORE_READ (R414). -/
  | storeRead (h : HostHdr) (p : List Byte)
  /-- CAL_ZONE (R381). -/
  | calZone (h : HostHdr) (p : List Byte)
  /-- UNLOCK (R348). -/
  | unlock (h : HostHdr) (p : List Byte)
  /-- SAFE_STATUS (R349). -/
  | safeStatus (h : HostHdr) (p : List Byte)
  /-- EVT_MASK (R438). -/
  | evtMask (h : HostHdr) (p : List Byte)
  /-- EVT_ACK (R438). -/
  | evtAck (h : HostHdr) (p : List Byte)
  /-- PING (R274). -/
  | ping (h : HostHdr) (p : List Byte)
  /-- LONG_COMPLETION (R268). -/
  | longCompletion
  /-- MANIFEST (R262). -/
  | manifest (port : Port) (wire : List Block) (env : HostEnv)
  /-- DO (R434). -/
  | swReset (ctx : Ctx) (v : Word)
  /-- OPEN (R95). -/
  | xoverOpen (ctx : Ctx) (v : Word)
  /-- SWAP_REQ (R306). -/
  | swapReq (ctx : Ctx) (v : Word)
  /-- RECOV (R312). -/
  | recov (ctx : Ctx) (v : Word)
  /-- REL (R405). -/
  | rel (ctx : Ctx) (v : Word)
  /-- CNT_CLR (R443). -/
  | cntClr (ctx : Ctx) (addr : Nat) (v : Word)
  /-- FOM_CLR (R241). -/
  | fomClr (ctx : Ctx) (port : Port) (lane : Fin 2) (v : Word)
  /-- LINK_PCFG (R257). -/
  | linkPcfg (ctx : Ctx) (port : Port) (v : Word)
  /-- CAN_TIMING_APPLY (R282). -/
  | canTimingApply
  /-- SPI_WRITE (R275). -/
  | spiWrite (bytes : List Byte) (env : HostEnv)
  /-- SPI_READ (R275). -/
  | spiRead (clocked : Nat)
  /-- SPI_STATUS (R275). -/
  | spiStatus
  /-- CAN_FRAME (R279). -/
  | canFrame (f : CanFrame) (env : HostEnv)
  /-- SEGMENT_GAP (R279). -/
  | segmentGap
  /-- CAN_TRANSMIT (R280). -/
  | canTransmit (errs : List CanErr)
  /-- BUS_OFF (R277). -/
  | busOff
  /-- BUS_OFF_RECOVERY (R277). -/
  | busOffRecovery
  /-- MOORING_WRITE (R404). -/
  | mooringWrite (addr off : Byte) (v : Word) (crc : Byte)
  /-- MOORING_READ (R404). -/
  | mooringRead (addr off : Byte)
  /-- PORT_TRAINING (R239). -/
  | portTraining (port : Port) (q0 q1 : LaneQuality)
  /-- BLOCK_LOCK (R238). -/
  | blockLock (port : Port) (lane : Fin 2)
  /-- TRAINING_FAILURE (R240). -/
  | trainingFailure (port : Port) (lane : Fin 2) (q0 : LaneQuality)
  /-- TRAINING_WAIT_EXPIRY (R240). -/
  | trainingWaitExpiry (port : Port)
  /-- LOCK_LOSS (R255). -/
  | lockLoss (port : Port) (lane : Fin 2)
  /-- HOST_RETRAIN_REQUEST (R256). -/
  | hostRetrainRequest (port : Port)
  /-- EI (R243). -/
  | ei (port : Port)
  /-- TRAINING_BURST (R244). -/
  | trainingBurst (port : Port)
  /-- IDLE_EXIT_FAILURE (R245). -/
  | idleExitFailure (port : Port) (lane : Fin 2)
  /-- RETURN_IDLE (R246). -/
  | returnIdle (port : Port)
  /-- FOM (R242). -/
  | fom (port : Port) (lane : Fin 2) (ewMicroUi ehMicroV : Nat) (ctle : BitVec 4) (taps : BitVec 30)
  /-- STATUS (R251). -/
  | statusBlk (port : Port)
  /-- RETURN_PACKET (R252). -/
  | returnPacket (port : Port)
  /-- TICK (R39). -/
  | tick (env : TickEnv)
  /-- FSYNC_IN_EDGE (R47). -/
  | fsyncInEdge (high : Bool) (atTime widthNs : Nat)
  /-- COMPOSITION_DEADLINE (R60). -/
  | compositionDeadline
  /-- GUARD_WINDOW (R288). -/
  | guardWindow (env : GuardEnv)
  /-- IN_SERVICE_TEST (R359). -/
  | inServiceTest (results : List IstReading)
  /-- IST_VERDICT (R359). -/
  | istVerdict
  /-- READBACK_SAMPLE (R362). -/
  | readbackSample (samples : List ReadbackSense)
  /-- OFF_PULSE_TEST (R342). -/
  | offPulseTest (z : Zone) (pathB : Bool) (r : OffPulseReading)
  /-- COMPLIANCE_TRIP (R352). -/
  | complianceTrip (str : StringNo) (senses : Byte)
  /-- ZONE_EVALUATION (R333). -/
  | zoneEvaluation
  /-- YIELD (R186). -/
  | yield (e : Side) (c : Cluster) (f : FC)
  /-- TICKWAIT (R186). -/
  | tickwait (e : Side) (c : Cluster) (f : FC)
  /-- NOP (R186). -/
  | nop (e : Side) (c : Cluster) (f : FC)
  /-- BAR (R186). -/
  | bar (e : Side) (c : Cluster) (f : FC)
  /-- TUGWAIT (R186). -/
  | tugwait (e : Side) (c : Cluster) (f : FC)
  /-- SGET (R186). -/
  | sget (e : Side) (c : Cluster) (sel : SgetSel) (f : FG)
  /-- PROF (R162). -/
  | prof (e : Side) (c : Cluster) (stall : Bool) (f : FG)
  /-- BR (R187). -/
  | br (e : Side) (c : Cluster) (f : FB)
  /-- BZ (R187). -/
  | bz (e : Side) (c : Cluster) (f : FB)
  /-- BNZ (R187). -/
  | bnz (e : Side) (c : Cluster) (f : FB)
  /-- BLTZ (R187). -/
  | bltz (e : Side) (c : Cluster) (f : FB)
  /-- BGEZ (R187). -/
  | bgez (e : Side) (c : Cluster) (f : FB)
  /-- BDEC (R187). -/
  | bdec (e : Side) (c : Cluster) (f : FB)
  /-- BANY (R187). -/
  | bany (e : Side) (c : Cluster) (f : FB)
  /-- BNONE (R187). -/
  | bnone (e : Side) (c : Cluster) (f : FB)
  /-- CALL (R187). -/
  | call (e : Side) (c : Cluster) (f : FJ)
  /-- JR (R187). -/
  | jr (e : Side) (c : Cluster) (f : FJ)
  /-- SADD (R188). -/
  | sadd (e : Side) (c : Cluster) (f : FS)
  /-- SSUB (R188). -/
  | ssub (e : Side) (c : Cluster) (f : FS)
  /-- SAND (R188). -/
  | sand (e : Side) (c : Cluster) (f : FS)
  /-- SOR (R188). -/
  | sor (e : Side) (c : Cluster) (f : FS)
  /-- SXOR (R188). -/
  | sxor (e : Side) (c : Cluster) (f : FS)
  /-- SSHL (R188). -/
  | sshl (e : Side) (c : Cluster) (f : FS)
  /-- SSHRU (R188). -/
  | sshru (e : Side) (c : Cluster) (f : FS)
  /-- SSHRS (R188). -/
  | sshrs (e : Side) (c : Cluster) (f : FS)
  /-- SMUL (R188). -/
  | smul (e : Side) (c : Cluster) (f : FS)
  /-- SMULHU (R188). -/
  | smulhu (e : Side) (c : Cluster) (f : FS)
  /-- SMULHS (R188). -/
  | smulhs (e : Side) (c : Cluster) (f : FS)
  /-- SMIN (R188). -/
  | smin (e : Side) (c : Cluster) (f : FS)
  /-- SMAX (R188). -/
  | smax (e : Side) (c : Cluster) (f : FS)
  /-- SMINU (R188). -/
  | sminu (e : Side) (c : Cluster) (f : FS)
  /-- SMAXU (R188). -/
  | smaxu (e : Side) (c : Cluster) (f : FS)
  /-- SSLT (R188). -/
  | sslt (e : Side) (c : Cluster) (f : FS)
  /-- SSLTU (R188). -/
  | ssltu (e : Side) (c : Cluster) (f : FS)
  /-- SSEQ (R188). -/
  | sseq (e : Side) (c : Cluster) (f : FS)
  /-- SSNE (R188). -/
  | ssne (e : Side) (c : Cluster) (f : FS)
  /-- SADDI (R189). -/
  | saddi (e : Side) (c : Cluster) (f : FSI)
  /-- SLUI (R189). -/
  | slui (e : Side) (c : Cluster) (f : FSI)
  /-- SLD (R190). -/
  | sld (e : Side) (c : Cluster) (f : FSM)
  /-- SLDH (R190). -/
  | sldh (e : Side) (c : Cluster) (f : FSM)
  /-- SLDB (R190). -/
  | sldb (e : Side) (c : Cluster) (f : FSM)
  /-- SST (R190). -/
  | sst (e : Side) (c : Cluster) (f : FSM)
  /-- SSTH (R190). -/
  | ssth (e : Side) (c : Cluster) (f : FSM)
  /-- SSTB (R190). -/
  | sstb (e : Side) (c : Cluster) (f : FSM)
  /-- TUGL (R199). -/
  | tugl (e : Side) (c : Cluster) (f : FT)
  /-- TUGS (R199). -/
  | tugs (e : Side) (c : Cluster) (f : FT)
  /-- TUG_TRANSFER (R157). -/
  | tugTransfer (e : Side) (c : Cluster) (ecc : List EccHit) (scr : Nat)
  /-- VADD (R191). -/
  | vadd (e : Side) (c : Cluster) (f : FV)
  /-- VADDUS (R191). -/
  | vaddus (e : Side) (c : Cluster) (f : FV)
  /-- VADDSS (R191). -/
  | vaddss (e : Side) (c : Cluster) (f : FV)
  /-- VSUB (R191). -/
  | vsub (e : Side) (c : Cluster) (f : FV)
  /-- VSUBUS (R191). -/
  | vsubus (e : Side) (c : Cluster) (f : FV)
  /-- VSUBSS (R191). -/
  | vsubss (e : Side) (c : Cluster) (f : FV)
  /-- VMINU (R191). -/
  | vminu (e : Side) (c : Cluster) (f : FV)
  /-- VMAXU (R191). -/
  | vmaxu (e : Side) (c : Cluster) (f : FV)
  /-- VMINS (R191). -/
  | vmins (e : Side) (c : Cluster) (f : FV)
  /-- VMAXS (R191). -/
  | vmaxs (e : Side) (c : Cluster) (f : FV)
  /-- VAND (R191). -/
  | vand (e : Side) (c : Cluster) (f : FV)
  /-- VOR (R191). -/
  | vor (e : Side) (c : Cluster) (f : FV)
  /-- VXOR (R191). -/
  | vxor (e : Side) (c : Cluster) (f : FV)
  /-- VANDN (R191). -/
  | vandn (e : Side) (c : Cluster) (f : FV)
  /-- VMULLO (R191). -/
  | vmullo (e : Side) (c : Cluster) (f : FV)
  /-- VMULHU (R191). -/
  | vmulhu (e : Side) (c : Cluster) (f : FV)
  /-- VMULHS (R191). -/
  | vmulhs (e : Side) (c : Cluster) (f : FV)
  /-- VMULN (R191). -/
  | vmuln (e : Side) (c : Cluster) (f : FV)
  /-- VMULG (R191). -/
  | vmulg (e : Side) (c : Cluster) (f : FV)
  /-- VSHL (R191). -/
  | vshl (e : Side) (c : Cluster) (f : FV)
  /-- VSHRU (R191). -/
  | vshru (e : Side) (c : Cluster) (f : FV)
  /-- VSHRS (R191). -/
  | vshrs (e : Side) (c : Cluster) (f : FV)
  /-- VABSDU (R191). -/
  | vabsdu (e : Side) (c : Cluster) (f : FV)
  /-- VAVGU (R191). -/
  | vavgu (e : Side) (c : Cluster) (f : FV)
  /-- VMOV (R191). -/
  | vmov (e : Side) (c : Cluster) (f : FV)
  /-- VIDX (R191). -/
  | vidx (e : Side) (c : Cluster) (f : FV)
  /-- VSEL (R191). -/
  | vsel (e : Side) (c : Cluster) (f : FV)
  /-- VLERP (R191). -/
  | vlerp (e : Side) (c : Cluster) (f : FV)
  /-- VCMPEQ (R192). -/
  | vcmpeq (e : Side) (c : Cluster) (f : FV)
  /-- VCMPNE (R192). -/
  | vcmpne (e : Side) (c : Cluster) (f : FV)
  /-- VCMPLTU (R192). -/
  | vcmpltu (e : Side) (c : Cluster) (f : FV)
  /-- VCMPLEU (R192). -/
  | vcmpleu (e : Side) (c : Cluster) (f : FV)
  /-- VCMPLTS (R192). -/
  | vcmplts (e : Side) (c : Cluster) (f : FV)
  /-- VCMPLES (R192). -/
  | vcmples (e : Side) (c : Cluster) (f : FV)
  /-- VRMAXU (R193). -/
  | vrmaxu (e : Side) (c : Cluster) (f : FV)
  /-- VRMINU (R193). -/
  | vrminu (e : Side) (c : Cluster) (f : FV)
  /-- VRSUM (R193). -/
  | vrsum (e : Side) (c : Cluster) (f : FV)
  /-- PAND (R194). -/
  | pand (e : Side) (c : Cluster) (f : FP)
  /-- POR (R194). -/
  | por (e : Side) (c : Cluster) (f : FP)
  /-- PXOR (R194). -/
  | pxor (e : Side) (c : Cluster) (f : FP)
  /-- PANDN (R194). -/
  | pandn (e : Side) (c : Cluster) (f : FP)
  /-- PNOT (R194). -/
  | pnot (e : Side) (c : Cluster) (f : FP)
  /-- PSET (R194). -/
  | pset (e : Side) (c : Cluster) (f : FP)
  /-- PCLR (R194). -/
  | pclr (e : Side) (c : Cluster) (f : FP)
  /-- PRANGE (R194). -/
  | prange (e : Side) (c : Cluster) (f : FPR)
  /-- VLDW (R195). -/
  | vldw (e : Side) (c : Cluster) (f : FVM)
  /-- VLDB (R195). -/
  | vldb (e : Side) (c : Cluster) (f : FVM)
  /-- VSTW (R195). -/
  | vstw (e : Side) (c : Cluster) (f : FVM)
  /-- VSTB (R195). -/
  | vstb (e : Side) (c : Cluster) (f : FVM)
  /-- VLUT (R196). -/
  | vlut (e : Side) (c : Cluster) (f : FL)
  /-- VLUTI (R196). -/
  | vluti (e : Side) (c : Cluster) (f : FL)
  /-- VRS (R197). -/
  | vrs (e : Side) (c : Cluster) (f : FRS)
  /-- VOUT (R198). -/
  | vout (e : Side) (c : Cluster) (f : FO)
  /-- BUDGET_OVERRUN (R159). -/
  | budgetOverrun (e : Side) (c : Cluster)
  /-- HARDWARE_EXCEPTION (R166). -/
  | hardwareException (e : Side) (c : Cluster) (cause : HwCause)
  /-- FIXED_FUNCTION_TILE (R25). -/
  | fixedFunctionTile (e : Side) (ecc : List EccHit)
  /-- TILE (R285). -/
  | tilePkt (e : Side) (z : Zone) (k : TilePkt)
  /-- ZEND (R286). -/
  | zendPkt (e : Side) (z : Zone) (k : ZendPkt)
  /-- ORDER (R289). -/
  | orderBlk (e : Side) (z : Zone) (k : OrderBlock)
  /-- TRIM (R287). -/
  | trimCmd (e : Side) (z : Zone) (k : ZcmdPkt)
  /-- BYPASS (R287). -/
  | bypassCmd (e : Side) (z : Zone) (k : ZcmdPkt)
  /-- REF (R369). -/
  | refReq (e : Side) (z : Zone) (k : ZcmdPkt) (m : RefReading)
  /-- CALRUN (R369). -/
  | calrun (e : Side) (z : Zone) (k : ZcmdPkt) (m : CalReading)
  /-- ISTLAST (R369). -/
  | istlast (e : Side) (z : Zone) (k : ZcmdPkt)
  /-- ACK (R26). -/
  | ack (lane : RtnLane) (r : Record)
  /-- NAK (R286). -/
  | nak (lane : RtnLane) (r : Record)
  /-- LIGHT (R333). -/
  | lightRec (lane : RtnLane) (r : Record)
  /-- FAULT (R367). -/
  | faultRec (lane : RtnLane) (r : Record)
  /-- ZCRC (R307). -/
  | zcrc (lane : RtnLane) (r : Record)
  /-- LSTAT (R293). -/
  | lstat (lane : RtnLane) (r : Record)
  /-- ADC_RECORD (R369). -/
  | adcRecord (lane : RtnLane) (r : Record)
  /-- TILE_LANE_RECOVERY (R294). -/
  | tileLaneRecovery (l : TlLane)
  /-- HOLD_LAST (R85). -/
  | holdLast
  /-- BACKSTOP (R86). -/
  | backstop
  /-- SCLK_HOLDOVER (R87): the slot clock has stopped, or is back. DESIGN CHOICE: log 150. -/
  | sclkHoldover (back : Bool)
  /-- VOUT_COMMAND (R101). -/
  | voutCommand (t : PmTarget) (r : PmResult)
  /-- READ_VOUT (R101). -/
  | readVout (t : PmTarget) (r : PmResult)
  /-- STATUS_WORD (R112). -/
  | statusWord (t : PmTarget) (r : PmResult)
  /-- STATUS_VOUT (R107). -/
  | statusVout (t : PmTarget) (r : PmResult)
  /-- READ_IOUT (R383). -/
  | readIout (z : Zone) (r : PmResult)
  /-- CLEAR_FAULTS (R107). -/
  | clearFaults (z : Zone) (r : PmResult)
  /-- CAPABILITY (R108). -/
  | capability (z : Zone) (r : PmResult)
  /-- VOUT_MODE (R108). -/
  | voutMode (t : PmTarget) (r : PmResult)
  /-- ON_OFF_CONFIG (R107). -/
  | onOffConfig (z : Zone) (r : PmResult)
  /-- VOUT_MAX (R107). -/
  | voutMax (z : Zone) (r : PmResult)
  /-- TOFF_DELAY (R107). -/
  | toffDelay (z : Zone) (r : PmResult)
  /-- OPERATION (R120). -/
  | operation (i : Fin 8) (on : Bool) (r : PmResult)
  /-- SETTLE_FAILURE (R101). -/
  | settleFailure (z : Zone)
  /-- PMB_ALERT (R107). -/
  | pmbAlert (bus : Fin 3)
  /-- RAIL_UNDERVOLTAGE (R112). -/
  | railUndervoltage (z : Zone) (mv : Nat)
  /-- RAIL_OVERVOLTAGE (R117). -/
  | railOvervoltage (z : Zone) (mv : Nat)
  /-- STRANDED_RETRY (R116). -/
  | strandedRetry (z : Zone)
  /-- BRINGUP_TIMEOUT (R119). -/
  | bringupTimeout (z : Zone)
  /-- LOGIC_RAIL_TIMEOUT (R120). -/
  | logicRailTimeout (i : Fin 8)
  /-- LOGIC_SUPPLY_FAULT (R121). -/
  | logicSupplyFault (i : Fin 8)
  /-- ZERO_FILL_DONE (R129). -/
  | zeroFillDone (b : BerthNo)
  /-- SCRUB (R126). -/
  | scrub (off : Nat) (ecc : List EccHit)
  /-- UNI_RELOAD (R125). -/
  | uniReload (granule : Fin 512)
  /-- BEACON (R300). -/
  | beacon (u : UnitNo) (k : BeaconRx)
  /-- BEACON_PATH_MISSING (R301). -/
  | beaconPathMissing (u : UnitNo) (wire both : Bool)
  /-- SELF_TEST_DONE (R309). -/
  | selfTestDone (u : UnitNo) (pass : Bool)
  /-- COLD_START_DONE (R169). -/
  | coldStartDone (u : UnitNo)
  /-- RESYNC_BULK_DONE (R310). -/
  | resyncBulkDone
  /-- RESYNC_FINAL_PHASE (R310). -/
  | resyncFinalPhase
  /-- RESYNC_ABORT (R311). -/
  | resyncAbort (final : Bool)
  /-- RESYNC_RESTART (R311). -/
  | resyncRestart
  /-- MISMATCH_WINDOW_END (R307). -/
  | mismatchWindowEnd
  /-- HOLD_LIMIT (R315). -/
  | holdLimit
  /-- INHIBIT_SAMPLE (R340). -/
  | inhibitSample (a b : Bool)
  /-- STRAP_CHECK (R327). -/
  | strapCheck (w1 w2 : Half)
  /-- SAFE_RST_N (R347). -/
  | safeRstN (lowUs : Nat)
  /-- UNLOCK_WINDOW_EXPIRY (R347). -/
  | unlockWindowExpiry
  /-- SAFETY_CORE_FAULT (R346). -/
  | safetyCoreFault (k : CoreFault)
  /-- SAFETY_CORE_RESTART (R346). -/
  | safetyCoreRestart (good : Bool)
  /-- WATCHDOG_TIMEOUT (R331). -/
  | watchdogTimeout
  /-- SAFE_OK_TOGGLE (R345). -/
  | safeOkToggle
  /-- SAFEOSC_STOP (R428). -/
  | safeoscStop
  /-- CLOCK_MONITOR (R428). -/
  | clockMonitor (dev : Int)
  /-- XTAL_AMPLITUDE_CHECK (R422). -/
  | xtalAmplitudeCheck (amp : Byte)
  /-- XTAL_GOOD (R421). -/
  | xtalGood
  /-- XTAL_TIMEOUT (R421). -/
  | xtalTimeout
  /-- PLL_LOCK (R421). -/
  | pllLock (locked : BitVec 7)
  /-- XTAL_STOPPED (R427). -/
  | xtalStopped
  /-- PLL_UNLOCK (R427). -/
  | pllUnlock (pll : Pll)
  /-- RELOCK_ATTEMPT (R427). -/
  | relockAttempt (pll : Pll) (ok : Bool)
  /-- CLOCK_SWITCH (R426). -/
  | clockSwitch (mux : ClockMux) (oldEdges : Bool)
  /-- SENSOR_READ (R386). -/
  | sensorRead (pad die : Int)
  /-- THERMAL_ADVANCE (R384). -/
  | thermalAdvance
  /-- CALIBRATION_DONE (R371). -/
  | calibrationDone
  /-- WAKE_N (R401). -/
  | wakeN (lowNs : Nat)
  /-- BOOT (R406). -/
  | boot (env : BootEnv)
  /-- PAD_RELEASE_TIMEOUT (R405). -/
  | padReleaseTimeout
  /-- RESET_N (R430). -/
  | resetN (lowNs : Nat)
  /-- TRST_N (R430). -/
  | trstN
  /-- POWER_ON (R430). -/
  | powerOn
  /-- BROWN_OUT (R403). -/
  | brownOut (lowUs : Nat)
  /-- AON_RECOVERY (R403). -/
  | aonRecovery
  /-- SUPPLY_LOSS (R395). -/
  | supplyLoss
  /-- CFG_RECOVER_WRITE (R415). -/
  | cfgRecoverWrite (v : Word)
  /-- CFG_RECOVER_COMMIT (R415). -/
  | cfgRecoverCommit
  /-- CFG_RECOVER_STATUS (R415). -/
  | cfgRecoverStatus
  /-- TILE_LINK_LOCK_LOSS (R293). -/
  | tileLinkLockLoss (l : TlLane)
  /-- RETURN_RECORD_CRC_ERROR (R293). -/
  | returnRecordCrcError (lane : RtnLane)
  /-- HM_CORE_CHECK_ERROR (R302). -/
  | hmCoreCheckError (b : Bool)
  /-- XTAL_JUDGED_GOOD_AGAIN (R427). -/
  | xtalJudgedGoodAgain
  /-- RESET_END (R430). -/
  | resetEnd
  deriving DecidableEq, Repr

end Sys2Proof
end

