-- ==== Sys2Proof/Decode.lean ====
section
/-! DEFINITION. The opcode table gives no row any bits, so `decodeTableWord` reads none. Beside it stand the Molia
decoder and encoder (R180, R181): the beam engines' own instruction words. -/

namespace Sys2Proof

/-- The command a word of spec/opcode_table.json spells: the table gives bits to no row. DEDUCED: log 6. -/
def decodeTableWord (_nbits _w : Nat) : Option Instr := none

namespace Molia

/-- Field [lo + n - 1 : lo] of an instruction word. -/
abbrev fieldAt (lo n : Nat) (w : Word) : BitVec n := w.extractLsb' lo n

/-! The fields of one word, by format (R180). -/

def readC (w : Word) : FC := { imm8 := fieldAt 8 8 w, rsv := fieldAt 16 10 w ++ fieldAt 6 2 w }
def readG (w : Word) : FG := { sd := fieldAt 22 4 w, rsv := fieldAt 4 18 w }
def readB (w : Word) : FB := { sa := fieldAt 22 4 w, rsv := fieldAt 15 4 w, target := fieldAt 0 15 w }
def readJ (w : Word) : FJ := { sd := fieldAt 22 4 w, sa := fieldAt 18 4 w, rsv := fieldAt 15 3 w, target := fieldAt 0 15 w }
def readS (w ext : Word) : FS :=
  { sd := fieldAt 22 4 w, sa := fieldAt 18 4 w, sb := fieldAt 14 4 w, xi := w.getLsbD 13, rsv := fieldAt 6 7 w
    ext := if w.getLsbD 13 then ext else 0 }
def readSI (w : Word) : FSI := { sd := fieldAt 22 4 w, sa := fieldAt 18 4 w, rsv := fieldAt 16 2 w, imm16 := fieldAt 0 16 w }
def readSM (w : Word) : FSM := { sr := fieldAt 22 4 w, sb := fieldAt 18 4 w, rsv := fieldAt 17 1 w, imm17 := fieldAt 0 17 w }
def readT (w : Word) : FT :=
  { sd := fieldAt 22 4 w, sa := fieldAt 18 4 w, sl := fieldAt 14 4 w, layer := fieldAt 8 4 w, rsv := fieldAt 0 8 w }
def readV (bcast : Bool) (w ext : Word) : FV :=
  { bcast := bcast, vd := fieldAt 21 5 w, va := fieldAt 16 5 w, vb := fieldAt 11 5 w, pred := fieldAt 6 5 w
    ext := if bcast && fieldAt 11 5 w == 0b10000#5 then ext else 0 }
def readP (w : Word) : FP := { pd := fieldAt 23 3 w, pa := fieldAt 20 3 w, pb := fieldAt 17 3 w, rsv := fieldAt 6 11 w }
def readPR (w : Word) : FPR := { pd := fieldAt 23 3 w, sa := fieldAt 19 4 w, sb := fieldAt 15 4 w, rsv := fieldAt 6 9 w }
def readVM (w : Word) : FVM := { vr := fieldAt 21 5 w, sb := fieldAt 17 4 w, pred := fieldAt 12 5 w, imm12 := fieldAt 0 12 w }
def readL (w : Word) : FL :=
  { vd := fieldAt 21 5 w, va := fieldAt 16 5 w, sb := fieldAt 12 4 w, sh := fieldAt 8 4 w, pred := fieldAt 3 5 w
    rsv := fieldAt 0 2 w }
def readRS (w : Word) : FRS :=
  { vd := fieldAt 21 5 w, g := fieldAt 19 2 w, pred := fieldAt 14 5 w, lin := w.getLsbD 13, rsv := fieldAt 0 13 w }
def readO (w : Word) : FO :=
  { vs := fieldAt 21 5 w, sr := fieldAt 17 4 w, pred := fieldAt 12 5 w, rsv := fieldAt 6 6 w, row := fieldAt 0 6 w }

/-- Major opcode 0x01 by fn (R186). -/
def decodeC (e : Side) (c : Cluster) (w : Word) : Option Instr :=
  match (fieldAt 0 6 w).toNat with
  | 0 => some (.nop e c (readC w))
  | 1 => some (.yield e c (readC w))
  | 2 => some (.tickwait e c (readC w))
  | 3 => some (.bar e c (readC w))
  | 4 => some (.tugwait e c (readC w))
  | _ => none

/-- Major opcode 0x02 by sel (R186). -/
def decodeG (e : Side) (c : Cluster) (w : Word) : Option Instr :=
  match (fieldAt 0 4 w).toNat with
  | 0 => some (.sget e c .tile (readG w))
  | 1 => some (.sget e c .frm (readG w))
  | 2 => some (.sget e c .cluster (readG w))
  | 3 => some (.sget e c .rowY0 (readG w))
  | 4 => some (.sget e c .colX0 (readG w))
  | 8 => some (.prof e c false (readG w))
  | 9 => some (.prof e c true (readG w))
  | _ => none

/-- Major opcode 0x04 by cond (R187). -/
def decodeB (e : Side) (c : Cluster) (w : Word) : Option Instr :=
  match (fieldAt 19 3 w).toNat with
  | 0 => some (.br e c (readB w))
  | 1 => some (.bz e c (readB w))
  | 2 => some (.bnz e c (readB w))
  | 3 => some (.bltz e c (readB w))
  | 4 => some (.bgez e c (readB w))
  | 5 => some (.bdec e c (readB w))
  | 6 => some (.bany e c (readB w))
  | 7 => some (.bnone e c (readB w))
  | _ => none

/-- Major opcode 0x08 by fn (R188). -/
def decodeS (e : Side) (c : Cluster) (w ext : Word) : Option Instr :=
  match (fieldAt 0 6 w).toNat with
  | 0 => some (.sadd e c (readS w ext))
  | 1 => some (.ssub e c (readS w ext))
  | 2 => some (.sand e c (readS w ext))
  | 3 => some (.sor e c (readS w ext))
  | 4 => some (.sxor e c (readS w ext))
  | 5 => some (.sshl e c (readS w ext))
  | 6 => some (.sshru e c (readS w ext))
  | 7 => some (.sshrs e c (readS w ext))
  | 8 => some (.smul e c (readS w ext))
  | 9 => some (.smulhu e c (readS w ext))
  | 10 => some (.smulhs e c (readS w ext))
  | 11 => some (.smin e c (readS w ext))
  | 12 => some (.smax e c (readS w ext))
  | 13 => some (.sminu e c (readS w ext))
  | 14 => some (.smaxu e c (readS w ext))
  | 15 => some (.sslt e c (readS w ext))
  | 16 => some (.ssltu e c (readS w ext))
  | 17 => some (.sseq e c (readS w ext))
  | 18 => some (.ssne e c (readS w ext))
  | _ => none

/-- Major opcode 0x14 by kind (R199). -/
def decodeT (e : Side) (c : Cluster) (w : Word) : Option Instr :=
  match (fieldAt 12 2 w).toNat with
  | 0 => some (.tugl e c (readT w))
  | 1 => some (.tugs e c (readT w))
  | _ => none

/-- Major opcodes 0x18 and 0x19 by fn (R191 to R193). -/
def decodeV (e : Side) (c : Cluster) (bcast : Bool) (w ext : Word) : Option Instr :=
  match (fieldAt 0 6 w).toNat with
  | 0 => some (.vadd e c (readV bcast w ext))
  | 1 => some (.vaddus e c (readV bcast w ext))
  | 2 => some (.vaddss e c (readV bcast w ext))
  | 3 => some (.vsub e c (readV bcast w ext))
  | 4 => some (.vsubus e c (readV bcast w ext))
  | 5 => some (.vsubss e c (readV bcast w ext))
  | 6 => some (.vminu e c (readV bcast w ext))
  | 7 => some (.vmaxu e c (readV bcast w ext))
  | 8 => some (.vmins e c (readV bcast w ext))
  | 9 => some (.vmaxs e c (readV bcast w ext))
  | 10 => some (.vand e c (readV bcast w ext))
  | 11 => some (.vor e c (readV bcast w ext))
  | 12 => some (.vxor e c (readV bcast w ext))
  | 13 => some (.vandn e c (readV bcast w ext))
  | 14 => some (.vmullo e c (readV bcast w ext))
  | 15 => some (.vmulhu e c (readV bcast w ext))
  | 16 => some (.vmulhs e c (readV bcast w ext))
  | 17 => some (.vmuln e c (readV bcast w ext))
  | 18 => some (.vmulg e c (readV bcast w ext))
  | 19 => some (.vshl e c (readV bcast w ext))
  | 20 => some (.vshru e c (readV bcast w ext))
  | 21 => some (.vshrs e c (readV bcast w ext))
  | 22 => some (.vabsdu e c (readV bcast w ext))
  | 23 => some (.vavgu e c (readV bcast w ext))
  | 24 => some (.vmov e c (readV bcast w ext))
  | 25 => some (.vidx e c (readV bcast w ext))
  | 26 => some (.vsel e c (readV bcast w ext))
  | 27 => some (.vlerp e c (readV bcast w ext))
  | 32 => some (.vcmpeq e c (readV bcast w ext))
  | 33 => some (.vcmpne e c (readV bcast w ext))
  | 34 => some (.vcmpltu e c (readV bcast w ext))
  | 35 => some (.vcmpleu e c (readV bcast w ext))
  | 36 => some (.vcmplts e c (readV bcast w ext))
  | 37 => some (.vcmples e c (readV bcast w ext))
  | 48 => some (.vrmaxu e c (readV bcast w ext))
  | 49 => some (.vrminu e c (readV bcast w ext))
  | 50 => some (.vrsum e c (readV bcast w ext))
  | _ => none

/-- Major opcode 0x1A by fn (R194). -/
def decodeP (e : Side) (c : Cluster) (w : Word) : Option Instr :=
  match (fieldAt 0 6 w).toNat with
  | 0 => some (.pand e c (readP w))
  | 1 => some (.por e c (readP w))
  | 2 => some (.pxor e c (readP w))
  | 3 => some (.pandn e c (readP w))
  | 4 => some (.pnot e c (readP w))
  | 5 => some (.pset e c (readP w))
  | 6 => some (.pclr e c (readP w))
  | 8 => some (.prange e c (readPR w))
  | _ => none

/-- The instruction of word `w` at cluster `c` of engine `e`; `ext` is the word after it, read only where the
instruction has an extension word (R181). None: unassigned major opcode, fn, sel, cond or kind (R180).
DESIGN CHOICE: log 117. -/
def decode (e : Side) (c : Cluster) (w ext : Word) : Option Instr :=
  match (fieldAt 26 6 w).toNat with
  | 0x01 => decodeC e c w
  | 0x02 => decodeG e c w
  | 0x04 => decodeB e c w
  | 0x05 => some (.call e c (readJ w))
  | 0x06 => some (.jr e c (readJ w))
  | 0x08 => decodeS e c w ext
  | 0x09 => some (.saddi e c (readSI w))
  | 0x0A => some (.slui e c (readSI w))
  | 0x0C => some (.sld e c (readSM w))
  | 0x0D => some (.sldh e c (readSM w))
  | 0x0E => some (.sldb e c (readSM w))
  | 0x0F => some (.sst e c (readSM w))
  | 0x10 => some (.ssth e c (readSM w))
  | 0x11 => some (.sstb e c (readSM w))
  | 0x14 => decodeT e c w
  | 0x18 => decodeV e c false w ext
  | 0x19 => decodeV e c true w ext
  | 0x1A => decodeP e c w
  | 0x1C => some (.vldw e c (readVM w))
  | 0x1D => some (.vldb e c (readVM w))
  | 0x1E => some (.vstw e c (readVM w))
  | 0x1F => some (.vstb e c (readVM w))
  | 0x20 => some (if w.getLsbD 2 then .vluti e c (readL w) else .vlut e c (readL w))
  | 0x21 => some (.vrs e c (readRS w))
  | 0x22 => some (.vout e c (readO w))
  | _ => none

/-! The encoder, from the same tables. -/

def bit1 (b : Bool) : BitVec 1 := BitVec.ofBool b

def wordC (fn : BitVec 6) (f : FC) : Word :=
  (0x01#6 ++ f.rsv.extractLsb' 2 10 ++ f.imm8 ++ f.rsv.extractLsb' 0 2 ++ fn : BitVec 32)
def wordG (sel : BitVec 4) (f : FG) : Word := (0x02#6 ++ f.sd ++ f.rsv ++ sel : BitVec 32)
def wordB (cond : BitVec 3) (f : FB) : Word := (0x04#6 ++ f.sa ++ cond ++ f.rsv ++ f.target : BitVec 32)
def wordJ (op : BitVec 6) (f : FJ) : Word := (op ++ f.sd ++ f.sa ++ f.rsv ++ f.target : BitVec 32)
def wordS (fn : BitVec 6) (f : FS) : Word := (0x08#6 ++ f.sd ++ f.sa ++ f.sb ++ bit1 f.xi ++ f.rsv ++ fn : BitVec 32)
def wordSI (op : BitVec 6) (f : FSI) : Word := (op ++ f.sd ++ f.sa ++ f.rsv ++ f.imm16 : BitVec 32)
def wordSM (op : BitVec 6) (f : FSM) : Word := (op ++ f.sr ++ f.sb ++ f.rsv ++ f.imm17 : BitVec 32)
def wordT (kind : BitVec 2) (f : FT) : Word := (0x14#6 ++ f.sd ++ f.sa ++ f.sl ++ kind ++ f.layer ++ f.rsv : BitVec 32)
def wordV (fn : BitVec 6) (f : FV) : Word :=
  ((if f.bcast then 0x19#6 else 0x18#6) ++ f.vd ++ f.va ++ f.vb ++ f.pred ++ fn : BitVec 32)
def wordP (fn : BitVec 6) (f : FP) : Word := (0x1A#6 ++ f.pd ++ f.pa ++ f.pb ++ f.rsv ++ fn : BitVec 32)
def wordPR (fn : BitVec 6) (f : FPR) : Word := (0x1A#6 ++ f.pd ++ f.sa ++ f.sb ++ f.rsv ++ fn : BitVec 32)
def wordVM (op : BitVec 6) (f : FVM) : Word := (op ++ f.vr ++ f.sb ++ f.pred ++ f.imm12 : BitVec 32)
def wordL (interp : Bool) (f : FL) : Word :=
  (0x20#6 ++ f.vd ++ f.va ++ f.sb ++ f.sh ++ f.pred ++ bit1 interp ++ f.rsv : BitVec 32)
def wordRS (f : FRS) : Word := (0x21#6 ++ f.vd ++ f.g ++ f.pred ++ bit1 f.lin ++ f.rsv : BitVec 32)
def wordO (f : FO) : Word := (0x22#6 ++ f.vs ++ f.sr ++ f.pred ++ f.rsv ++ f.row : BitVec 32)

/-- Selector codes of SGET (R186). -/
def selCode : SgetSel → BitVec 4
  | .tile => 0 | .frm => 1 | .cluster => 2 | .rowY0 => 3 | .colX0 => 4

/-- The word of a Molia instruction; none for a command that is no Molia instruction. -/
def encode : Instr → Option Word
  | .nop _ _ f => some (wordC 0x00 f)
  | .yield _ _ f => some (wordC 0x01 f)
  | .tickwait _ _ f => some (wordC 0x02 f)
  | .bar _ _ f => some (wordC 0x03 f)
  | .tugwait _ _ f => some (wordC 0x04 f)
  | .sget _ _ sel f => some (wordG (selCode sel) f)
  | .prof _ _ stall f => some (wordG (if stall then 9 else 8) f)
  | .br _ _ f => some (wordB 0 f)
  | .bz _ _ f => some (wordB 1 f)
  | .bnz _ _ f => some (wordB 2 f)
  | .bltz _ _ f => some (wordB 3 f)
  | .bgez _ _ f => some (wordB 4 f)
  | .bdec _ _ f => some (wordB 5 f)
  | .bany _ _ f => some (wordB 6 f)
  | .bnone _ _ f => some (wordB 7 f)
  | .call _ _ f => some (wordJ 0x05 f)
  | .jr _ _ f => some (wordJ 0x06 f)
  | .sadd _ _ f => some (wordS 0x00 f)
  | .ssub _ _ f => some (wordS 0x01 f)
  | .sand _ _ f => some (wordS 0x02 f)
  | .sor _ _ f => some (wordS 0x03 f)
  | .sxor _ _ f => some (wordS 0x04 f)
  | .sshl _ _ f => some (wordS 0x05 f)
  | .sshru _ _ f => some (wordS 0x06 f)
  | .sshrs _ _ f => some (wordS 0x07 f)
  | .smul _ _ f => some (wordS 0x08 f)
  | .smulhu _ _ f => some (wordS 0x09 f)
  | .smulhs _ _ f => some (wordS 0x0A f)
  | .smin _ _ f => some (wordS 0x0B f)
  | .smax _ _ f => some (wordS 0x0C f)
  | .sminu _ _ f => some (wordS 0x0D f)
  | .smaxu _ _ f => some (wordS 0x0E f)
  | .sslt _ _ f => some (wordS 0x0F f)
  | .ssltu _ _ f => some (wordS 0x10 f)
  | .sseq _ _ f => some (wordS 0x11 f)
  | .ssne _ _ f => some (wordS 0x12 f)
  | .saddi _ _ f => some (wordSI 0x09 f)
  | .slui _ _ f => some (wordSI 0x0A f)
  | .sld _ _ f => some (wordSM 0x0C f)
  | .sldh _ _ f => some (wordSM 0x0D f)
  | .sldb _ _ f => some (wordSM 0x0E f)
  | .sst _ _ f => some (wordSM 0x0F f)
  | .ssth _ _ f => some (wordSM 0x10 f)
  | .sstb _ _ f => some (wordSM 0x11 f)
  | .tugl _ _ f => some (wordT 0 f)
  | .tugs _ _ f => some (wordT 1 f)
  | .vadd _ _ f => some (wordV 0x00 f)
  | .vaddus _ _ f => some (wordV 0x01 f)
  | .vaddss _ _ f => some (wordV 0x02 f)
  | .vsub _ _ f => some (wordV 0x03 f)
  | .vsubus _ _ f => some (wordV 0x04 f)
  | .vsubss _ _ f => some (wordV 0x05 f)
  | .vminu _ _ f => some (wordV 0x06 f)
  | .vmaxu _ _ f => some (wordV 0x07 f)
  | .vmins _ _ f => some (wordV 0x08 f)
  | .vmaxs _ _ f => some (wordV 0x09 f)
  | .vand _ _ f => some (wordV 0x0A f)
  | .vor _ _ f => some (wordV 0x0B f)
  | .vxor _ _ f => some (wordV 0x0C f)
  | .vandn _ _ f => some (wordV 0x0D f)
  | .vmullo _ _ f => some (wordV 0x0E f)
  | .vmulhu _ _ f => some (wordV 0x0F f)
  | .vmulhs _ _ f => some (wordV 0x10 f)
  | .vmuln _ _ f => some (wordV 0x11 f)
  | .vmulg _ _ f => some (wordV 0x12 f)
  | .vshl _ _ f => some (wordV 0x13 f)
  | .vshru _ _ f => some (wordV 0x14 f)
  | .vshrs _ _ f => some (wordV 0x15 f)
  | .vabsdu _ _ f => some (wordV 0x16 f)
  | .vavgu _ _ f => some (wordV 0x17 f)
  | .vmov _ _ f => some (wordV 0x18 f)
  | .vidx _ _ f => some (wordV 0x19 f)
  | .vsel _ _ f => some (wordV 0x1A f)
  | .vlerp _ _ f => some (wordV 0x1B f)
  | .vcmpeq _ _ f => some (wordV 0x20 f)
  | .vcmpne _ _ f => some (wordV 0x21 f)
  | .vcmpltu _ _ f => some (wordV 0x22 f)
  | .vcmpleu _ _ f => some (wordV 0x23 f)
  | .vcmplts _ _ f => some (wordV 0x24 f)
  | .vcmples _ _ f => some (wordV 0x25 f)
  | .vrmaxu _ _ f => some (wordV 0x30 f)
  | .vrminu _ _ f => some (wordV 0x31 f)
  | .vrsum _ _ f => some (wordV 0x32 f)
  | .pand _ _ f => some (wordP 0x00 f)
  | .por _ _ f => some (wordP 0x01 f)
  | .pxor _ _ f => some (wordP 0x02 f)
  | .pandn _ _ f => some (wordP 0x03 f)
  | .pnot _ _ f => some (wordP 0x04 f)
  | .pset _ _ f => some (wordP 0x05 f)
  | .pclr _ _ f => some (wordP 0x06 f)
  | .prange _ _ f => some (wordPR 0x08 f)
  | .vldw _ _ f => some (wordVM 0x1C f)
  | .vldb _ _ f => some (wordVM 0x1D f)
  | .vstw _ _ f => some (wordVM 0x1E f)
  | .vstb _ _ f => some (wordVM 0x1F f)
  | .vlut _ _ f => some (wordL false f)
  | .vluti _ _ f => some (wordL true f)
  | .vrs _ _ f => some (wordRS f)
  | .vout _ _ f => some (wordO f)
  | _ => none

/-- The extension word an instruction carries; 0 where it has none (R181). -/
def extOf : Instr → Word
  | .sadd _ _ f => f.ext
  | .ssub _ _ f => f.ext
  | .sand _ _ f => f.ext
  | .sor _ _ f => f.ext
  | .sxor _ _ f => f.ext
  | .sshl _ _ f => f.ext
  | .sshru _ _ f => f.ext
  | .sshrs _ _ f => f.ext
  | .smul _ _ f => f.ext
  | .smulhu _ _ f => f.ext
  | .smulhs _ _ f => f.ext
  | .smin _ _ f => f.ext
  | .smax _ _ f => f.ext
  | .sminu _ _ f => f.ext
  | .smaxu _ _ f => f.ext
  | .sslt _ _ f => f.ext
  | .ssltu _ _ f => f.ext
  | .sseq _ _ f => f.ext
  | .ssne _ _ f => f.ext
  | .vadd _ _ f => f.ext
  | .vaddus _ _ f => f.ext
  | .vaddss _ _ f => f.ext
  | .vsub _ _ f => f.ext
  | .vsubus _ _ f => f.ext
  | .vsubss _ _ f => f.ext
  | .vminu _ _ f => f.ext
  | .vmaxu _ _ f => f.ext
  | .vmins _ _ f => f.ext
  | .vmaxs _ _ f => f.ext
  | .vand _ _ f => f.ext
  | .vor _ _ f => f.ext
  | .vxor _ _ f => f.ext
  | .vandn _ _ f => f.ext
  | .vmullo _ _ f => f.ext
  | .vmulhu _ _ f => f.ext
  | .vmulhs _ _ f => f.ext
  | .vmuln _ _ f => f.ext
  | .vmulg _ _ f => f.ext
  | .vshl _ _ f => f.ext
  | .vshru _ _ f => f.ext
  | .vshrs _ _ f => f.ext
  | .vabsdu _ _ f => f.ext
  | .vavgu _ _ f => f.ext
  | .vmov _ _ f => f.ext
  | .vidx _ _ f => f.ext
  | .vsel _ _ f => f.ext
  | .vlerp _ _ f => f.ext
  | .vcmpeq _ _ f => f.ext
  | .vcmpne _ _ f => f.ext
  | .vcmpltu _ _ f => f.ext
  | .vcmpleu _ _ f => f.ext
  | .vcmplts _ _ f => f.ext
  | .vcmples _ _ f => f.ext
  | .vrmaxu _ _ f => f.ext
  | .vrminu _ _ f => f.ext
  | .vrsum _ _ f => f.ext
  | _ => 0

/-- Engine and cluster a Molia instruction runs on. -/
def moliaPlace : Instr → Option (Side × Cluster)
  | .nop e c _ => some (e, c)
  | .yield e c _ => some (e, c)
  | .tickwait e c _ => some (e, c)
  | .bar e c _ => some (e, c)
  | .tugwait e c _ => some (e, c)
  | .br e c _ => some (e, c)
  | .bz e c _ => some (e, c)
  | .bnz e c _ => some (e, c)
  | .bltz e c _ => some (e, c)
  | .bgez e c _ => some (e, c)
  | .bdec e c _ => some (e, c)
  | .bany e c _ => some (e, c)
  | .bnone e c _ => some (e, c)
  | .call e c _ => some (e, c)
  | .jr e c _ => some (e, c)
  | .sadd e c _ => some (e, c)
  | .ssub e c _ => some (e, c)
  | .sand e c _ => some (e, c)
  | .sor e c _ => some (e, c)
  | .sxor e c _ => some (e, c)
  | .sshl e c _ => some (e, c)
  | .sshru e c _ => some (e, c)
  | .sshrs e c _ => some (e, c)
  | .smul e c _ => some (e, c)
  | .smulhu e c _ => some (e, c)
  | .smulhs e c _ => some (e, c)
  | .smin e c _ => some (e, c)
  | .smax e c _ => some (e, c)
  | .sminu e c _ => some (e, c)
  | .smaxu e c _ => some (e, c)
  | .sslt e c _ => some (e, c)
  | .ssltu e c _ => some (e, c)
  | .sseq e c _ => some (e, c)
  | .ssne e c _ => some (e, c)
  | .saddi e c _ => some (e, c)
  | .slui e c _ => some (e, c)
  | .sld e c _ => some (e, c)
  | .sldh e c _ => some (e, c)
  | .sldb e c _ => some (e, c)
  | .sst e c _ => some (e, c)
  | .ssth e c _ => some (e, c)
  | .sstb e c _ => some (e, c)
  | .tugl e c _ => some (e, c)
  | .tugs e c _ => some (e, c)
  | .vadd e c _ => some (e, c)
  | .vaddus e c _ => some (e, c)
  | .vaddss e c _ => some (e, c)
  | .vsub e c _ => some (e, c)
  | .vsubus e c _ => some (e, c)
  | .vsubss e c _ => some (e, c)
  | .vminu e c _ => some (e, c)
  | .vmaxu e c _ => some (e, c)
  | .vmins e c _ => some (e, c)
  | .vmaxs e c _ => some (e, c)
  | .vand e c _ => some (e, c)
  | .vor e c _ => some (e, c)
  | .vxor e c _ => some (e, c)
  | .vandn e c _ => some (e, c)
  | .vmullo e c _ => some (e, c)
  | .vmulhu e c _ => some (e, c)
  | .vmulhs e c _ => some (e, c)
  | .vmuln e c _ => some (e, c)
  | .vmulg e c _ => some (e, c)
  | .vshl e c _ => some (e, c)
  | .vshru e c _ => some (e, c)
  | .vshrs e c _ => some (e, c)
  | .vabsdu e c _ => some (e, c)
  | .vavgu e c _ => some (e, c)
  | .vmov e c _ => some (e, c)
  | .vidx e c _ => some (e, c)
  | .vsel e c _ => some (e, c)
  | .vlerp e c _ => some (e, c)
  | .vcmpeq e c _ => some (e, c)
  | .vcmpne e c _ => some (e, c)
  | .vcmpltu e c _ => some (e, c)
  | .vcmpleu e c _ => some (e, c)
  | .vcmplts e c _ => some (e, c)
  | .vcmples e c _ => some (e, c)
  | .vrmaxu e c _ => some (e, c)
  | .vrminu e c _ => some (e, c)
  | .vrsum e c _ => some (e, c)
  | .pand e c _ => some (e, c)
  | .por e c _ => some (e, c)
  | .pxor e c _ => some (e, c)
  | .pandn e c _ => some (e, c)
  | .pnot e c _ => some (e, c)
  | .pset e c _ => some (e, c)
  | .pclr e c _ => some (e, c)
  | .prange e c _ => some (e, c)
  | .vldw e c _ => some (e, c)
  | .vldb e c _ => some (e, c)
  | .vstw e c _ => some (e, c)
  | .vstb e c _ => some (e, c)
  | .vlut e c _ => some (e, c)
  | .vluti e c _ => some (e, c)
  | .vrs e c _ => some (e, c)
  | .vout e c _ => some (e, c)
  | .sget e c _ _ => some (e, c)
  | .prof e c _ _ => some (e, c)
  | _ => none

end Molia

end Sys2Proof
end

