-- ==== Sys2Proof/Machine/Sparse.lean ====
section
/-! DEFINITION. A store by number: a list of (key, value) pairs in one canonical form. It holds every memory,
window and register file of the model. -/

namespace Sys2Proof.Machine

/-- A store whose unlisted keys hold what the store's default function gives. Memories of bytes are lists of
the host's cells (address, byte). -/
abbrev Sparse (α : Type) := List (Nat × α)

namespace Sparse

variable {α : Type}

/-- The value at key `k`; `d` is what unlisted keys hold. -/
def get (d : Nat → α) (m : Sparse α) (k : Nat) : α :=
  match m.find? (fun c => c.1 == k) with
  | some c => c.2
  | none => d k

/-- Write key `k`: the canonical form is kept by dropping an entry equal to what `k` reads unlisted. -/
def put [DecidableEq α] (d : Nat → α) (m : Sparse α) (k : Nat) (v : α) : Sparse α :=
  m.filter (fun c => c.1 < k) ++ (if v = d k then [] else [(k, v)]) ++ m.filter (fun c => k < c.1)

/-- Canonical form: keys strictly rising, no entry equal to its unlisted value. -/
abbrev wf [DecidableEq α] (d : Nat → α) (m : Sparse α) : Prop :=
  (m.map (·.1)).Pairwise (· < ·) ∧ ∀ c ∈ m, c.2 ≠ d c.1

/-- The constant default. -/
abbrev all (a : α) : Nat → α := fun _ => a

end Sparse

/-- Write the bytes `bs` from address `a` upwards. -/
def putBytes (m : Sparse Byte) (a : Nat) : List Byte → Sparse Byte
  | [] => m
  | b :: bs => putBytes (Sparse.put (Sparse.all 0) m a b) (a + 1) bs

/-- The `n` bytes from address `a` upwards. DESIGN CHOICE: log 29. -/
def getBytes (m : Sparse Byte) (a n : Nat) : List Byte :=
  (List.range n).map fun i => Sparse.get (Sparse.all 0) m (a + i)

/-- A little-endian number from bytes (R16). -/
def leNat : List Byte → Nat
  | [] => 0
  | b :: bs => b.toNat + 256 * leNat bs

/-- The `n` little-endian bytes of a number (R16). -/
def toLe : Nat → Nat → List Byte
  | 0, _ => []
  | n + 1, v => BitVec.ofNat 8 v :: toLe n (v / 256)

/-- `n` bytes of `bs` from offset `o`, as a little-endian number; absent bytes read 0. -/
def leAt (bs : List Byte) (o n : Nat) : Nat := leNat ((bs.drop o).take n)

/-- Byte `o` of `bs`; absent bytes read 0. -/
def byteAt (bs : List Byte) (o : Nat) : Byte := bs.getD o 0

/-- Bits [hi:lo] of a number. -/
def bitsOf (v hi lo : Nat) : Nat := (v / 2 ^ lo) % 2 ^ (hi + 1 - lo)

/-- `v` read as a `w`-bit two's-complement number. -/
def signed (w v : Nat) : Int :=
  let u := v % 2 ^ w
  if u < 2 ^ (w - 1) then (u : Int) else (u : Int) - 2 ^ w

end Sys2Proof.Machine
end

