-- ==== Sys2Proof/Machine/Crc.lean ====
section
/-! DEFINITION. The checks the spec names: CRC-32 (R204), CRC-32C (R232), CRC-16 (R248), CRC-8 (R107). -/

namespace Sys2Proof.Machine

/-- One bit of a reflected 32-bit CRC. -/
def crcBit (poly c : Word) : Word := if c.getLsbD 0 then (c >>> 1) ^^^ poly else c >>> 1

/-- One byte of a reflected 32-bit CRC register. -/
def crcByte (poly c : Word) (b : Byte) : Word :=
  (List.range 8).foldl (fun c _ => crcBit poly c) (c ^^^ b.setWidth 32)

/-- The CRC register after the bytes, from register `c`. -/
def crcRun (poly c : Word) (bs : List Byte) : Word := bs.foldl (crcByte poly) c

def polyCrc32 : Word := 0xEDB88320
def polyCrc32c : Word := 0x82F63B78

/-- CRC-32 of IEEE 802.3 (R204). -/
def crc32 (bs : List Byte) : Word := ~~~ crcRun polyCrc32 0xFFFFFFFF bs

/-- CRC-32C (R232). -/
def crc32c (bs : List Byte) : Word := ~~~ crcRun polyCrc32c 0xFFFFFFFF bs

/-- One bit of the CRC-16. -/
def crc16Bit (c : Half) : Half := if c.getLsbD 15 then (c <<< 1) ^^^ 0x1021 else c <<< 1

/-- CRC-16 of R248: polynomial 0x1021, initial 0xFFFF, no reflection. -/
def crc16 (bs : List Byte) : Half :=
  bs.foldl (fun c b => (List.range 8).foldl (fun c _ => crc16Bit c) (c ^^^ BitVec.ofNat 16 (256 * b.toNat))) 0xFFFF

/-- One bit of the CRC-8. -/
def crc8Bit (c : Byte) : Byte := if c.getLsbD 7 then (c <<< 1) ^^^ 0x07 else c <<< 1

/-- CRC-8 of R107: x^8 + x^2 + x + 1, initial 0. -/
def crc8 (bs : List Byte) : Byte :=
  bs.foldl (fun c b => (List.range 8).foldl (fun c _ => crc8Bit c) (c ^^^ b)) 0

end Sys2Proof.Machine
end

