-- ==== Sys2Proof/Config.lean ====
section
/-! DEFINITION. What an implementation fixes, and the free values the spec leaves open. None has a body, so no
proof can see a value: a statement about them holds for every value. -/

namespace Sys2Proof.Config

/-- The free values: `free n` is the n-th value the spec leaves open, counted by the field `free` of State
(assumption 3). It serves the random source (R263, R339, R331), mixed reads (R15) and the choices inside a
stated bound (R48, R226). DESIGN CHOICE: log 3. -/
opaque free : Nat → Word

/-- The key of each context, installed at production; `none` where none is installed (R263). -/
opaque contextKey : Nat → Option (Vector Byte 32)

/-- The configuration key of R474: the x and y of a P-256 public key. -/
opaque configKey : Nat × Nat

/-- The firmware key of R474. -/
opaque firmwareKey : Nat × Nat

end Sys2Proof.Config
end

