-- ==== Sys2Proof/Machine/RegMap.lean ====
section
/-! DEFINITION. The register map (R443): one row per register of the control address space with its reset value
(R14) and the bits of each field type (R12), and one name per field. -/

namespace Sys2Proof.Machine

/-- One register or array of registers of the map. Entry (i, j) lies at `addr + s1 * i + s2 * j`. The masks give
the bits of each writable type; `snap` marks bits read coherently only through REG_SNAP (R15). -/
structure RegRow where
  addr : Nat
  s1 : Nat
  n1 : Nat
  s2 : Nat
  n2 : Nat
  reset : Word
  rw : Word
  rws : Word
  w1c : Word
  wo : Word
  snap : Word
  deriving DecidableEq, Repr

/-- Does `row` hold the register at address `a`? -/
def RegRow.holds (r : RegRow) (a : Nat) : Bool :=
  (List.range r.n1).any fun i => (List.range r.n2).any fun j => r.addr + r.s1 * i + r.s2 * j == a

/-- Registers of the SYS block: address, strides and counts, reset, RW, RWS, W1C, WO and REG_SNAP masks. -/
def rowsSYS : List RegRow := [
  ⟨0x0, 4, 1, 4, 1, 0x21000100, 0x0, 0x0, 0x0, 0x0, 0x0⟩,
  ⟨0x4, 4, 1, 4, 1, 0x30000000, 0x0, 0x0, 0x0, 0x0, 0x0⟩,
  ⟨0x8, 4, 1, 4, 1, 0x0, 0x0, 0x0, 0x0, 0xFF01, 0x0⟩,
  ⟨0xC, 4, 1, 4, 1, 0x0, 0x0, 0x0, 0x0, 0x0, 0x0⟩ ]

/-- Registers of the CLK block: address, strides and counts, reset, RW, RWS, W1C, WO and REG_SNAP masks. -/
def rowsCLK : List RegRow := [
  ⟨0x10000, 4, 1, 4, 1, 0x0, 0x0, 0x0, 0x0, 0x0, 0x0⟩,
  ⟨0x10004, 4, 1, 4, 1, 0x5, 0x8F, 0x0, 0x0, 0x0, 0x0⟩,
  ⟨0x10008, 4, 1, 4, 1, 0x0, 0xFF07, 0x0, 0x0, 0x0, 0x0⟩,
  ⟨0x1000C, 4, 1, 4, 1, 0x2D0000, 0xFF0000, 0x0, 0x0, 0x0, 0x0⟩,
  ⟨0x10010, 4, 1, 4, 1, 0x0, 0x0, 0x0, 0x0, 0x1, 0x0⟩ ]

/-- Registers of the PWR block: address, strides and counts, reset, RW, RWS, W1C, WO and REG_SNAP masks. -/
def rowsPWR : List RegRow := [
  ⟨0x20000, 4, 1, 4, 1, 0x32100000, 0x0, 0x0, 0x0, 0x0, 0x0⟩,
  ⟨0x20004, 4, 1, 4, 1, 0x0, 0x0, 0x0, 0x0, 0x0, 0x0⟩,
  ⟨0x20008, 4, 1, 4, 1, 0x0, 0x0, 0x0, 0x0, 0x0, 0x0⟩,
  ⟨0x2000C, 4, 1, 4, 1, 0x0, 0xFFFF, 0x0, 0x0, 0x0, 0x0⟩ ]

/-- Registers of the AON block: address, strides and counts, reset, RW, RWS, W1C, WO and REG_SNAP masks. -/
def rowsAON : List RegRow := [
  ⟨0x20100, 4, 1, 4, 1, 0x21000100, 0x0, 0x0, 0x0, 0x0, 0x0⟩,
  ⟨0x20104, 4, 1, 4, 1, 0x10000000, 0x0, 0x0, 0x0, 0x0, 0x0⟩,
  ⟨0x20108, 4, 1, 4, 1, 0x3, 0x3, 0x0, 0x0, 0x0, 0x0⟩,
  ⟨0x2010C, 4, 1, 4, 1, 0x0, 0x1F, 0x0, 0x0, 0x1F00, 0x0⟩,
  ⟨0x20110, 4, 1, 4, 1, 0x0, 0x0, 0x0, 0x0, 0x0, 0xFFFFFFFF⟩,
  ⟨0x20114, 4, 1, 4, 1, 0x0, 0x0, 0x0, 0xF00FF, 0x0, 0x0⟩ ]

/-- Registers of the EVT block: address, strides and counts, reset, RW, RWS, W1C, WO and REG_SNAP masks. -/
def rowsEVT : List RegRow := [
  ⟨0x30000, 4, 1, 4, 1, 0x0, 0x0, 0x0, 0x0, 0x0, 0x0⟩,
  ⟨0x30004, 4, 1, 4, 1, 0x0, 0x0, 0x0, 0x0, 0x80000000, 0x0⟩,
  ⟨0x30040, 16, 4, 4, 1, 0x0, 0x0, 0x0, 0xFFFFFFFF, 0x0, 0x0⟩,
  ⟨0x30044, 16, 4, 4, 1, 0x0, 0x0, 0x0, 0xFFFFFFFF, 0x0, 0x0⟩,
  ⟨0x30048, 16, 4, 4, 1, 0xFFFFFFFE, 0x0, 0x0, 0x0, 0x0, 0x0⟩,
  ⟨0x3004C, 16, 4, 4, 1, 0xFFFFFFFF, 0x0, 0x0, 0x0, 0x0, 0x0⟩,
  ⟨0x30100, 4, 64, 4, 1, 0x0, 0x0, 0x0, 0x0, 0x0, 0x0⟩,
  ⟨0x30200, 4, 64, 4, 1, 0x0, 0x0, 0x0, 0x0, 0x0, 0x0⟩ ]

/-- Registers of the HCTX block: address, strides and counts, reset, RW, RWS, W1C, WO and REG_SNAP masks. -/
def rowsHCTX : List RegRow := [
  ⟨0x40000, 4, 1, 4, 1, 0x0, 0x0, 0x0, 0x0, 0x0, 0x0⟩,
  ⟨0x40004, 4, 1, 4, 1, 0x0, 0x0, 0x0, 0x0, 0x0, 0x0⟩,
  ⟨0x40008, 4, 1, 4, 1, 0x0, 0x0, 0x0, 0x0, 0x0, 0x0⟩,
  ⟨0x4000C, 4, 1, 4, 1, 0x0, 0x0, 0x0, 0x0, 0x0, 0x0⟩,
  ⟨0x40010, 4, 1, 4, 1, 0x0, 0x0, 0x0, 0xFFFFFFFF, 0x0, 0x0⟩,
  ⟨0x40014, 4, 1, 4, 1, 0x40001000, 0x0, 0x0, 0x0, 0x0, 0x0⟩,
  ⟨0x40040, 32, 4, 4, 1, 0x0, 0x0, 0x0, 0x0, 0x0, 0x0⟩,
  ⟨0x40044, 32, 4, 4, 1, 0x0, 0x0, 0x0, 0x0, 0x0, 0x0⟩,
  ⟨0x40048, 32, 4, 4, 1, 0x0, 0x1, 0x0, 0x0, 0x0, 0x0⟩,
  ⟨0x4004C, 32, 4, 4, 1, 0x0, 0x0, 0x0, 0x0, 0x0, 0x0⟩,
  ⟨0x40050, 32, 4, 4, 1, 0x0, 0x0, 0x0, 0x0, 0x0, 0x0⟩,
  ⟨0x40054, 32, 4, 4, 1, 0x0, 0x0, 0x0, 0xFFFFFFFF, 0x0, 0x0⟩ ]

/-- Registers of the LINK block: address, strides and counts, reset, RW, RWS, W1C, WO and REG_SNAP masks. -/
def rowsLINK : List RegRow := [
  ⟨0x50000, 256, 2, 4, 1, 0x30000000, 0xFFFF00FF, 0x0, 0x0, 0x0, 0x0⟩,
  ⟨0x50004, 256, 2, 4, 1, 0x0, 0x0, 0x0, 0x0, 0x0, 0x0⟩,
  ⟨0x50008, 256, 2, 4, 1, 0x1000040, 0x0, 0x0, 0x0, 0x0, 0x0⟩,
  ⟨0x5000C, 256, 2, 4, 1, 0x0, 0x0, 0x0, 0x0, 0x0, 0x0⟩,
  ⟨0x50010, 256, 2, 4, 1, 0x0, 0x0, 0x0, 0x0, 0x80000000, 0x0⟩,
  ⟨0x50014, 256, 2, 4, 1, 0x0, 0x0, 0x0, 0x0, 0x0, 0x0⟩,
  ⟨0x50020, 256, 2, 4, 2, 0xFF0002, 0x0, 0x0, 0x0, 0x100, 0x0⟩,
  ⟨0x50028, 256, 2, 4, 2, 0x0, 0x0, 0x0, 0x0, 0x0, 0x3FFFFFFF⟩ ]

/-- Registers of the CANF block: address, strides and counts, reset, RW, RWS, W1C, WO and REG_SNAP masks. -/
def rowsCANF : List RegRow := [
  ⟨0x60000, 4, 1, 4, 1, 0x18, 0x3D, 0x0, 0x0, 0x0, 0x0⟩,
  ⟨0x60004, 4, 1, 4, 1, 0x23F1010, 0xFFFFFFFF, 0x0, 0x0, 0x0, 0x0⟩,
  ⟨0x60008, 4, 1, 4, 1, 0x17D089F0, 0xFFFFFFF0, 0x0, 0x0, 0x0, 0x0⟩,
  ⟨0x6000C, 4, 1, 4, 1, 0x0, 0x0, 0x0, 0x0, 0x0, 0x0⟩,
  ⟨0x60010, 4, 1, 4, 1, 0x0, 0x0, 0x0, 0x0, 0x0, 0x0⟩,
  ⟨0x60014, 4, 1, 4, 1, 0x0, 0x0, 0x0, 0x0, 0x0, 0x0⟩,
  ⟨0x60018, 4, 1, 4, 1, 0x0, 0x0, 0x0, 0xFF, 0x0, 0x0⟩,
  ⟨0x6001C, 4, 1, 4, 1, 0x0, 0x0, 0x0, 0xFFFFFF00, 0x0, 0x0⟩ ]

/-- Registers of the BRTH block: address, strides and counts, reset, RW, RWS, W1C, WO and REG_SNAP masks. -/
def rowsBRTH : List RegRow := [
  ⟨0x70000, 4, 1, 4, 1, 0x1, 0xF, 0x0, 0x0, 0x80000000, 0x0⟩,
  ⟨0x70004, 4, 1, 4, 1, 0x16001600, 0x0, 0x0, 0x0, 0x0, 0x0⟩,
  ⟨0x70008, 4, 1, 4, 1, 0x0, 0x0, 0x0, 0x0, 0x0, 0x0⟩,
  ⟨0x7000C, 4, 1, 4, 1, 0x0, 0x0, 0x0, 0x0, 0x0, 0x0⟩,
  ⟨0x70010, 4, 1, 4, 1, 0x0, 0x0, 0x0, 0x0, 0x0, 0x0⟩,
  ⟨0x70014, 4, 1, 4, 1, 0x0, 0x0, 0x0, 0x0, 0x0, 0x0⟩,
  ⟨0x70018, 4, 2, 4, 1, 0xFFFFFFFF, 0x0, 0x0, 0x0, 0x0, 0x0⟩,
  ⟨0x70040, 4, 4, 4, 1, 0x0, 0x0, 0x0, 0x0, 0x0, 0x0⟩,
  ⟨0x70050, 4, 4, 4, 1, 0x0, 0x0, 0x0, 0xFFFF, 0x0, 0x0⟩,
  ⟨0x70060, 8, 4, 4, 1, 0x0, 0x0, 0x0, 0xFFFFFFFF, 0x0, 0x0⟩,
  ⟨0x70064, 8, 4, 4, 1, 0x0, 0x0, 0x0, 0xFFFFFFFF, 0x0, 0x0⟩,
  ⟨0x70080, 4, 4, 4, 1, 0x0, 0x0, 0x0, 0x0, 0x0, 0x0⟩,
  ⟨0x70100, 4, 64, 4, 1, 0x0, 0x0, 0x0, 0x0, 0x0, 0x0⟩ ]

/-- Registers of the SEQ block: address, strides and counts, reset, RW, RWS, W1C, WO and REG_SNAP masks. -/
def rowsSEQ : List RegRow := [
  ⟨0x80000, 4, 1, 4, 1, 0x4, 0x7, 0x0, 0x0, 0x0, 0x0⟩,
  ⟨0x80004, 4, 1, 4, 1, 0x4960, 0x0, 0x7FFF, 0x0, 0x0, 0x0⟩,
  ⟨0x80008, 4, 1, 4, 1, 0x0, 0xFFFFF00, 0x0, 0x0, 0x0, 0x0⟩,
  ⟨0x8000C, 4, 1, 4, 1, 0x0, 0x0, 0x0, 0x0, 0x0, 0xFFFFFF⟩,
  ⟨0x80010, 4, 1, 4, 1, 0x0, 0x0, 0x0, 0x0, 0x0, 0x1FFFFFFF⟩,
  ⟨0x80014, 4, 1, 4, 1, 0x0, 0x0, 0x0, 0x0, 0x0, 0xFFFFFFFF⟩,
  ⟨0x80018, 4, 1, 4, 1, 0x0, 0x0, 0x0, 0x0, 0x0, 0xFFFFFFFF⟩,
  ⟨0x8001C, 4, 1, 4, 1, 0x0, 0x0, 0x0, 0x0, 0x0, 0xFFFFFF⟩,
  ⟨0x80020, 4, 4, 4, 1, 0x0, 0x0, 0x0, 0x20000000, 0x0, 0xFFFF⟩,
  ⟨0x80030, 4, 4, 4, 1, 0x0, 0x0, 0x0, 0x0, 0x0, 0xFFFFFFFF⟩,
  ⟨0x80040, 4, 1, 4, 1, 0xE8, 0xFF, 0x0, 0x0, 0x0, 0x0⟩,
  ⟨0x80044, 4, 1, 4, 1, 0x0, 0x0, 0x0, 0x0, 0x8000, 0xFFFF0000⟩,
  ⟨0x80048, 4, 1, 4, 1, 0x0, 0x0, 0x0, 0x3, 0x0, 0x0⟩ ]

/-- Registers of the ENG block: address, strides and counts, reset, RW, RWS, W1C, WO and REG_SNAP masks. -/
def rowsENG : List RegRow := [
  ⟨0x90000, 65536, 2, 4, 1, 0x0, 0x1, 0x0, 0x0, 0x0, 0x0⟩,
  ⟨0x90004, 65536, 2, 4, 1, 0x20000000, 0x0, 0x0, 0x0, 0x0, 0x0⟩,
  ⟨0x90008, 65536, 2, 4, 1, 0x0, 0x0, 0x0, 0x0, 0x0, 0x0⟩,
  ⟨0x9000C, 4, 1, 4, 1, 0x8000, 0x0, 0xFFFF, 0x0, 0x0, 0x0⟩,
  ⟨0x90010, 65536, 2, 4, 1, 0x0, 0x0, 0x0, 0x0, 0x8000, 0x0⟩,
  ⟨0x90014, 65536, 2, 4, 1, 0x0, 0x0, 0x0, 0x0, 0x0, 0x0⟩,
  ⟨0x90018, 65536, 2, 4, 1, 0x0, 0x0, 0x0, 0x0, 0x0, 0x0⟩,
  ⟨0x9001C, 65536, 2, 4, 1, 0x0, 0x0, 0x0, 0x0, 0x8000, 0x0⟩,
  ⟨0x90020, 65536, 2, 4, 1, 0x0, 0x0, 0x0, 0x0, 0x0, 0x0⟩,
  ⟨0x90024, 65536, 2, 4, 1, 0x0, 0x7F3, 0x0, 0x0, 0x0, 0x0⟩,
  ⟨0x90100, 4, 64, 4, 1, 0x0, 0x0, 0xFFFFFFFF, 0x0, 0x0, 0x0⟩ ]

/-- Registers of the FFN block: address, strides and counts, reset, RW, RWS, W1C, WO and REG_SNAP masks. -/
def rowsFFN : List RegRow := [
  ⟨0xB0000, 4, 1, 4, 1, 0xC021, 0x0, 0x3FF33, 0x0, 0x0, 0x0⟩,
  ⟨0xB0004, 4, 1, 4, 1, 0x0, 0x0, 0x0, 0x2, 0x0, 0x0⟩,
  ⟨0xB0008, 4, 1, 4, 1, 0x0, 0x0, 0x0, 0x0, 0x80000000, 0x0⟩,
  ⟨0xB000C, 4, 1, 4, 1, 0xE0, 0xFF, 0x0, 0x0, 0x0, 0x0⟩,
  ⟨0xB0010, 4, 2, 4, 1, 0x0, 0x0, 0x0, 0x0, 0x0, 0x0⟩,
  ⟨0xB0018, 4, 1, 4, 1, 0x0, 0x0, 0x0, 0x0, 0x0, 0x0⟩,
  ⟨0xB0040, 4, 16, 4, 1, 0xFFFF0000, 0x0, 0x0, 0x0, 0x0, 0x0⟩,
  ⟨0xB0080, 4, 16, 4, 1, 0x0, 0x0, 0x0, 0x0, 0x0, 0x0⟩ ]

/-- Registers of the TLNK block: address, strides and counts, reset, RW, RWS, W1C, WO and REG_SNAP masks. -/
def rowsTLNK : List RegRow := [
  ⟨0xC0000, 4, 1, 4, 1, 0x401000, 0xFFFF00, 0x0, 0x0, 0x80000000, 0x0⟩,
  ⟨0xC0004, 4, 1, 4, 1, 0x0, 0x0, 0x0, 0x0, 0x0, 0x0⟩,
  ⟨0xC0008, 4, 1, 4, 1, 0x0, 0x0, 0x0, 0x0, 0x0, 0x0⟩,
  ⟨0xC0040, 64, 2, 4, 16, 0x0, 0x0, 0x0, 0x0, 0x0, 0xFFFF⟩ ]

/-- Registers of the STK block: address, strides and counts, reset, RW, RWS, W1C, WO and REG_SNAP masks. -/
def rowsSTK : List RegRow := [
  ⟨0xD0000, 4, 1, 4, 1, 0x0, 0x0, 0x7, 0x0, 0x0, 0x0⟩,
  ⟨0xD0004, 4, 1, 4, 1, 0x0, 0x0, 0x0, 0x10000000, 0x0, 0xFFFF⟩,
  ⟨0xD0008, 4, 1, 4, 1, 0x0, 0x0, 0x0, 0x0, 0x0, 0xFFFFFFFF⟩,
  ⟨0xD000C, 4, 1, 4, 1, 0x0, 0x0, 0x0, 0x0, 0x80000000, 0xFFFFFF⟩,
  ⟨0xD0010, 4, 1, 4, 1, 0x0, 0x0, 0x0, 0x0, 0xFF00, 0x0⟩,
  ⟨0xD0040, 4, 16, 4, 1, 0x18, 0x0, 0x3F, 0x0, 0x0, 0x0⟩,
  ⟨0xD0080, 4, 16, 4, 1, 0x0, 0x0, 0x0, 0x0, 0x0, 0x1FFFF⟩ ]

/-- Registers of the DIAG block: address, strides and counts, reset, RW, RWS, W1C, WO and REG_SNAP masks. -/
def rowsDIAG : List RegRow := [
  ⟨0xE0000, 4, 1, 4, 1, 0x14B00, 0x1FF00, 0x0, 0x0, 0x80000000, 0x0⟩,
  ⟨0xE0004, 4, 1, 4, 1, 0x0, 0x0, 0x0, 0x0, 0x0, 0x0⟩,
  ⟨0xE0008, 4, 1, 4, 1, 0x0, 0x0, 0x0, 0x0, 0x0, 0x0⟩,
  ⟨0xE000C, 4, 1, 4, 1, 0x0, 0x0, 0x0, 0x0, 0x0, 0x0⟩,
  ⟨0xE0010, 4, 1, 4, 1, 0x0, 0x0, 0x0, 0x0, 0x0, 0x0⟩,
  ⟨0xE0014, 4, 1, 4, 1, 0x0, 0x0, 0x0, 0x0, 0x0, 0x0⟩,
  ⟨0xE0018, 4, 1, 4, 1, 0x0, 0x0, 0x0, 0x0, 0x0, 0x0⟩,
  ⟨0xE001C, 4, 1, 4, 1, 0x0, 0x0, 0x0, 0x0, 0x0, 0x0⟩,
  ⟨0xE0040, 4, 16, 4, 1, 0x0, 0x0, 0x0, 0x0, 0x0, 0x0⟩,
  ⟨0xE0080, 4, 32, 4, 1, 0x0, 0x0, 0x0, 0x0, 0x0, 0x0⟩ ]

/-- Registers of the CAL block: address, strides and counts, reset, RW, RWS, W1C, WO and REG_SNAP masks. -/
def rowsCAL : List RegRow := [
  ⟨0xF0000, 4, 1, 4, 1, 0x0, 0x0, 0x0, 0x0, 0x0, 0x0⟩,
  ⟨0xF0004, 4, 1, 4, 1, 0x0, 0x0, 0x0, 0x0, 0x0, 0x0⟩,
  ⟨0xF0008, 4, 1, 4, 1, 0x0, 0x0, 0x0, 0x0, 0x0, 0x0⟩,
  ⟨0xF0040, 4, 16, 4, 1, 0x0, 0x0, 0x0, 0x0, 0x0, 0x0⟩,
  ⟨0xF0080, 4, 16, 4, 1, 0x0, 0x0, 0x0, 0x0, 0x0, 0x0⟩ ]

/-- Registers of the THRM block: address, strides and counts, reset, RW, RWS, W1C, WO and REG_SNAP masks. -/
def rowsTHRM : List RegRow := [
  ⟨0x100000, 4, 1, 4, 1, 0x69146E, 0xFFFFFF, 0x0, 0x0, 0x0, 0x0⟩,
  ⟨0x100004, 4, 1, 4, 1, 0x44C012C, 0xFFFFFFFF, 0x0, 0x0, 0x0, 0x0⟩,
  ⟨0x100008, 4, 1, 4, 1, 0x138800C8, 0xFFFFFFFF, 0x0, 0x0, 0x0, 0x0⟩,
  ⟨0x10000C, 4, 1, 4, 1, 0xB30FA0, 0xFFFFFF, 0x0, 0x0, 0x0, 0x0⟩,
  ⟨0x100010, 4, 1, 4, 1, 0x0, 0x0, 0x0, 0x0, 0x0, 0x0⟩,
  ⟨0x100014, 4, 1, 4, 1, 0x0, 0x0, 0x0, 0x0, 0x0, 0x0⟩,
  ⟨0x100040, 4, 16, 4, 1, 0xFFFF, 0x0, 0x0, 0x0, 0x0, 0x0⟩,
  ⟨0x100080, 4, 16, 4, 1, 0x0, 0x0, 0x0, 0x0, 0x0, 0x0⟩ ]

/-- Registers of the SAFE block: address, strides and counts, reset, RW, RWS, W1C, WO and REG_SNAP masks. -/
def rowsSAFE : List RegRow := [
  ⟨0x110000, 4, 1, 4, 1, 0x41900000, 0x0, 0x0, 0x0, 0x0, 0x7FC0000⟩,
  ⟨0x110004, 4, 1, 4, 1, 0x0, 0x0, 0x0, 0x0, 0x0, 0xFFFF0000⟩,
  ⟨0x110008, 4, 1, 4, 1, 0x0, 0x0, 0x0, 0x0, 0x0, 0xFFFF0000⟩,
  ⟨0x11000C, 4, 1, 4, 1, 0xFFFF0000, 0x0, 0x0, 0x0, 0x0, 0xFFFFFFFF⟩,
  ⟨0x110010, 4, 1, 4, 1, 0x0, 0x0, 0x0, 0x0, 0x0, 0x1FF⟩,
  ⟨0x110014, 4, 1, 4, 1, 0x0, 0x0, 0x0, 0x0, 0x40000000, 0x0⟩,
  ⟨0x110018, 4, 1, 4, 1, 0x0, 0x0, 0x0, 0x0, 0x0, 0xFFFFFFFF⟩,
  ⟨0x11001C, 4, 1, 4, 1, 0x0, 0xF, 0x0, 0x0, 0x8000, 0x0⟩,
  ⟨0x110020, 4, 1, 4, 1, 0x0, 0x0, 0x0, 0x0, 0x0, 0x0⟩,
  ⟨0x110024, 4, 1, 4, 1, 0x0, 0x0, 0x0, 0x0, 0x0, 0xFFFF0000⟩,
  ⟨0x110028, 4, 1, 4, 1, 0xFFFF0000, 0x0, 0x0, 0x0, 0x0, 0x0⟩,
  ⟨0x110040, 4, 16, 4, 1, 0x0, 0x0, 0x0, 0x0, 0x0, 0x0⟩,
  ⟨0x110080, 4, 16, 4, 1, 0x0, 0x0, 0x0, 0x0, 0x0, 0xFFFFFFFF⟩,
  ⟨0x1100C0, 16, 4, 4, 1, 0x7FF, 0x0, 0x0, 0x0, 0x0, 0x0⟩,
  ⟨0x1100C4, 16, 4, 4, 1, 0x3FF, 0x0, 0x0, 0x0, 0x0, 0x0⟩,
  ⟨0x1100C8, 16, 4, 4, 1, 0xFFFFFF, 0x0, 0x0, 0x0, 0x0, 0x0⟩ ]

/-- Registers of the DPLX block: address, strides and counts, reset, RW, RWS, W1C, WO and REG_SNAP masks. -/
def rowsDPLX : List RegRow := [
  ⟨0x120000, 4, 1, 4, 1, 0x10064, 0x101FF, 0x0, 0x0, 0xE0000000, 0x0⟩,
  ⟨0x120004, 4, 1, 4, 1, 0x23000000, 0x0, 0x0, 0x0, 0x0, 0x0⟩,
  ⟨0x120008, 4, 1, 4, 1, 0x0, 0x0, 0x0, 0x0, 0x0, 0x0⟩,
  ⟨0x12000C, 4, 1, 4, 1, 0x0, 0x0, 0x0, 0x0, 0x1, 0x0⟩,
  ⟨0x120010, 4, 1, 4, 1, 0x0, 0x0, 0x0, 0x0, 0x0, 0x0⟩,
  ⟨0x120014, 4, 1, 4, 1, 0x0, 0x0, 0x0, 0x0, 0x0, 0x0⟩,
  ⟨0x120018, 4, 1, 4, 1, 0xFF, 0x0, 0x0, 0x0, 0x0, 0x0⟩,
  ⟨0x12001C, 4, 1, 4, 1, 0x0, 0x0, 0x0, 0x0, 0x0, 0x0⟩ ]

/-- Registers of the STOR block: address, strides and counts, reset, RW, RWS, W1C, WO and REG_SNAP masks. -/
def rowsSTOR : List RegRow := [
  ⟨0x130000, 4, 1, 4, 1, 0x0, 0x0, 0x0, 0x0, 0x0, 0x0⟩,
  ⟨0x130004, 4, 1, 4, 1, 0xAAA, 0x0, 0x0, 0x0, 0x0, 0x0⟩,
  ⟨0x130008, 4, 1, 4, 1, 0x0, 0x0, 0x0, 0x0, 0x80000000, 0x0⟩,
  ⟨0x130040, 4, 6, 4, 1, 0x0, 0x0, 0x0, 0x0, 0x0, 0x0⟩,
  ⟨0x130060, 4, 6, 4, 1, 0x0, 0x0, 0x0, 0x0, 0x0, 0x0⟩,
  ⟨0x130080, 4, 6, 4, 1, 0x0, 0x0, 0x0, 0x0, 0x0, 0x0⟩ ]

/-- Registers of the RAIL block: address, strides and counts, reset, RW, RWS, W1C, WO and REG_SNAP masks. -/
def rowsRAIL : List RegRow := [
  ⟨0x140000, 4, 1, 4, 1, 0xA0A001A, 0xFFFF003F, 0x0, 0x0, 0x0, 0x0⟩,
  ⟨0x140004, 4, 1, 4, 1, 0x4F1, 0xFFFF, 0x0, 0x0, 0x0, 0x0⟩,
  ⟨0x140008, 4, 1, 4, 1, 0x0, 0x0, 0x0, 0x0, 0x80000000, 0x0⟩,
  ⟨0x14000C, 4, 1, 4, 1, 0x0, 0x0, 0x0, 0xFF00, 0x0, 0x0⟩,
  ⟨0x140040, 4, 16, 4, 1, 0x0, 0x0, 0x0, 0x0, 0x0, 0x0⟩,
  ⟨0x140080, 4, 16, 4, 1, 0x5460180, 0x7FF0000, 0xF, 0x0, 0x0, 0x0⟩,
  ⟨0x1400C0, 4, 16, 4, 1, 0xCE4CE419, 0x0, 0x0, 0x0, 0x0, 0x0⟩,
  ⟨0x140100, 4, 16, 4, 1, 0x12C4000, 0x0, 0x0, 0x0, 0x0, 0x0⟩,
  ⟨0x140140, 4, 16, 4, 1, 0x0, 0x0, 0x0, 0x0, 0x2000000, 0x0⟩ ]

/-- The rows of one block, by the number of its base (R443). The always-on window stands in the PWR block. -/
def blockRows : Nat → List RegRow
  | 0 => rowsSYS
  | 1 => rowsCLK
  | 2 => rowsPWR ++ rowsAON
  | 3 => rowsEVT
  | 4 => rowsHCTX
  | 5 => rowsLINK
  | 6 => rowsCANF
  | 7 => rowsBRTH
  | 8 => rowsSEQ
  | 9 => rowsENG
  | 10 => rowsENG
  | 11 => rowsFFN
  | 12 => rowsTLNK
  | 13 => rowsSTK
  | 14 => rowsDIAG
  | 15 => rowsCAL
  | 16 => rowsTHRM
  | 17 => rowsSAFE
  | 18 => rowsDPLX
  | 19 => rowsSTOR
  | 20 => rowsRAIL
  | _ => []

/-- The row of the register at address `a`, if it is assigned. -/
def regRow (a : Nat) : Option RegRow := (blockRows (a / 0x10000)).find? (·.holds a)

/-- The reset value of the register at address `a` (R14); unassigned offsets read 0. -/
def regReset (a : Nat) : Word := ((regRow a).map (·.reset)).getD 0

/-- A field of a register: address, lowest bit, width. -/
structure Fld where
  addr : Nat
  lo : Nat
  width : Nat
  deriving DecidableEq, Repr

/-- The field's value in a register word. -/
def Fld.ofWord (f : Fld) (w : Word) : Nat := bitsOf w.toNat (f.lo + f.width - 1) f.lo

/-- A register word with the field set to `v`, taken modulo 2^width. -/
def Fld.into (f : Fld) (w : Word) (v : Nat) : Word :=
  let m : Word := (BitVec.ofNat 32 (2 ^ f.width - 1)) <<< f.lo
  (w &&& ~~~m) ||| ((BitVec.ofNat 32 v <<< f.lo) &&& m)

/-! Field names: register, underscore, field, as the chapters write them. -/
namespace F

/-! SEQ_CTRL (R68, 02_frame_tick.md). -/
def SEQ_CTRL_FSO_EN : Fld := ⟨0x80000, 2, 1⟩
def SEQ_CTRL_FSI_POL : Fld := ⟨0x80000, 1, 1⟩
def SEQ_CTRL_TICK_SRC : Fld := ⟨0x80000, 0, 1⟩
/-! SEQ_TIMING (R68, 02_frame_tick.md). -/
def SEQ_TIMING_RES : Fld := ⟨0x80004, 12, 3⟩
def SEQ_TIMING_RATE : Fld := ⟨0x80004, 0, 12⟩
/-! SEQ_FSYNC (R68, 02_frame_tick.md). -/
def SEQ_FSYNC_FSI_OFFSET : Fld := ⟨0x80008, 16, 12⟩
def SEQ_FSYNC_FSO_DELAY : Fld := ⟨0x80008, 8, 8⟩
/-! SEQ_LOCKSTAT (R68, 02_frame_tick.md). -/
def SEQ_LOCKSTAT_STATE : Fld := ⟨0x8000C, 30, 2⟩
def SEQ_LOCKSTAT_PHASE_ERR : Fld := ⟨0x8000C, 0, 24⟩
/-! SEQ_PERIOD (R68, 02_frame_tick.md). -/
def SEQ_PERIOD_PERIOD : Fld := ⟨0x80010, 0, 29⟩
/-! SEQ_FRAME (R68, 02_frame_tick.md). -/
def SEQ_FRAME_FRAME : Fld := ⟨0x80014, 0, 32⟩
/-! SEQ_SHOWN (R68, 02_frame_tick.md). -/
def SEQ_SHOWN_SHOWN : Fld := ⟨0x80018, 0, 32⟩
/-! SEQ_SINCE (R68, 02_frame_tick.md). -/
def SEQ_SINCE_SINCE : Fld := ⟨0x8001C, 0, 24⟩
/-! SEQ_COMMITSTAT (R68, 02_frame_tick.md). -/
def SEQ_COMMITSTAT_PENDING (c : Nat) : Fld := ⟨0x80020 + 0x4 * c, 31, 1⟩
def SEQ_COMMITSTAT_TARGETED (c : Nat) : Fld := ⟨0x80020 + 0x4 * c, 30, 1⟩
def SEQ_COMMITSTAT_ROLLED (c : Nat) : Fld := ⟨0x80020 + 0x4 * c, 29, 1⟩
def SEQ_COMMITSTAT_APPLIED_CNT (c : Nat) : Fld := ⟨0x80020 + 0x4 * c, 0, 16⟩
/-! SEQ_COMMITFRM (R68, 02_frame_tick.md). -/
def SEQ_COMMITFRM_APPLY_FRAME (c : Nat) : Fld := ⟨0x80030 + 0x4 * c, 0, 32⟩
/-! SEQ_DEADLINE (R68, 02_frame_tick.md). -/
def SEQ_DEADLINE_CD_FRAC : Fld := ⟨0x80040, 0, 8⟩
/-! SEQ_UNDERRUN (R68, 02_frame_tick.md). -/
def SEQ_UNDERRUN_UR_TOTAL : Fld := ⟨0x80044, 16, 16⟩
def SEQ_UNDERRUN_UR_CLR : Fld := ⟨0x80044, 15, 1⟩
def SEQ_UNDERRUN_UR_CONSEC : Fld := ⟨0x80044, 0, 2⟩
/-! SEQ_EVTCAUSE (R68, 02_frame_tick.md). -/
def SEQ_EVTCAUSE_LOSS_CAUSE : Fld := ⟨0x80048, 2, 2⟩
def SEQ_EVTCAUSE_LIST_OVF : Fld := ⟨0x80048, 1, 1⟩
def SEQ_EVTCAUSE_CD_LATE : Fld := ⟨0x80048, 0, 1⟩
/-! STK_CTRL (R96, 03_emitter_stack.md). -/
def STK_CTRL_SPREAD : Fld := ⟨0xD0000, 0, 3⟩
/-! STK_STAT (R96, 03_emitter_stack.md). -/
def STK_STAT_HOLDLAST : Fld := ⟨0xD0004, 31, 1⟩
def STK_STAT_SCLK_HOLDOVER : Fld := ⟨0xD0004, 30, 1⟩
def STK_STAT_BACKSTOP : Fld := ⟨0xD0004, 29, 1⟩
def STK_STAT_ORDER_ERR : Fld := ⟨0xD0004, 28, 1⟩
def STK_STAT_FRONT_FRM : Fld := ⟨0xD0004, 0, 16⟩
/-! STK_REPEAT (R96, 03_emitter_stack.md). -/
def STK_REPEAT_REPEAT_TOTAL : Fld := ⟨0xD0008, 16, 16⟩
def STK_REPEAT_LOCAL_HOLD : Fld := ⟨0xD0008, 0, 16⟩
/-! STK_CODESAT (R96, 03_emitter_stack.md). -/
def STK_CODESAT_SAT_CLR : Fld := ⟨0xD000C, 31, 1⟩
def STK_CODESAT_SAT_CNT : Fld := ⟨0xD000C, 0, 24⟩
/-! STK_XOVER (R96, 03_emitter_stack.md). -/
def STK_XOVER_OPEN : Fld := ⟨0xD0010, 8, 8⟩
def STK_XOVER_CROSSED : Fld := ⟨0xD0010, 0, 8⟩
/-! STK_ZCUR (R96, 03_emitter_stack.md). -/
def STK_ZCUR_ICODE (z : Nat) : Fld := ⟨0xD0040 + 0x4 * z, 0, 6⟩
/-! STK_ZSTAT (R96, 03_emitter_stack.md). -/
def STK_ZSTAT_SRC_EN (z : Nat) : Fld := ⟨0xD0080 + 0x4 * z, 31, 1⟩
def STK_ZSTAT_ZEN_ACT (z : Nat) : Fld := ⟨0xD0080 + 0x4 * z, 30, 1⟩
def STK_ZSTAT_XOVER (z : Nat) : Fld := ⟨0xD0080 + 0x4 * z, 29, 1⟩
def STK_ZSTAT_TILES_FAILED (z : Nat) : Fld := ⟨0xD0080 + 0x4 * z, 23, 6⟩
def STK_ZSTAT_TILES_DEGR (z : Nat) : Fld := ⟨0xD0080 + 0x4 * z, 17, 6⟩
def STK_ZSTAT_BYP_CNT (z : Nat) : Fld := ⟨0xD0080 + 0x4 * z, 0, 17⟩
/-! RAIL_CTRL (R122, 04_string_rails.md). -/
def RAIL_CTRL_POLL : Fld := ⟨0x140000, 24, 8⟩
def RAIL_CTRL_DOWN_HYST : Fld := ⟨0x140000, 16, 8⟩
def RAIL_CTRL_PMB2_SPD : Fld := ⟨0x140000, 4, 2⟩
def RAIL_CTRL_PMB1_SPD : Fld := ⟨0x140000, 2, 2⟩
def RAIL_CTRL_PMB0_SPD : Fld := ⟨0x140000, 0, 2⟩
/-! RAIL_VFCFG (R122, 04_string_rails.md). -/
def RAIL_VFCFG_VF_IS : Fld := ⟨0x140004, 8, 8⟩
def RAIL_VFCFG_VF_TC : Fld := ⟨0x140004, 0, 8⟩
/-! RAIL_NAKCNT (R122, 04_string_rails.md). -/
def RAIL_NAKCNT_CNT_CLR : Fld := ⟨0x140008, 31, 1⟩
def RAIL_NAKCNT_FAIL2 : Fld := ⟨0x140008, 16, 8⟩
def RAIL_NAKCNT_FAIL1 : Fld := ⟨0x140008, 8, 8⟩
def RAIL_NAKCNT_FAIL0 : Fld := ⟨0x140008, 0, 8⟩
/-! RAIL_LOGICSTAT (R122, 04_string_rails.md). -/
def RAIL_LOGICSTAT_LFAULT : Fld := ⟨0x14000C, 8, 8⟩
def RAIL_LOGICSTAT_LPG : Fld := ⟨0x14000C, 0, 8⟩
/-! RAIL_ZMAP (R122, 04_string_rails.md). -/
def RAIL_ZMAP_PAGE_EN (z : Nat) : Fld := ⟨0x140040 + 0x4 * z, 16, 1⟩
def RAIL_ZMAP_PAGE (z : Nat) : Fld := ⟨0x140040 + 0x4 * z, 8, 8⟩
def RAIL_ZMAP_ADDR (z : Nat) : Fld := ⟨0x140040 + 0x4 * z, 0, 7⟩
/-! RAIL_ZCFG (R122, 04_string_rails.md). -/
def RAIL_ZCFG_VMAX (z : Nat) : Fld := ⟨0x140080 + 0x4 * z, 16, 11⟩
def RAIL_ZCFG_ICODE_CAL (z : Nat) : Fld := ⟨0x140080 + 0x4 * z, 4, 6⟩
def RAIL_ZCFG_NFLOOR (z : Nat) : Fld := ⟨0x140080 + 0x4 * z, 0, 4⟩
/-! RAIL_ZVF (R122, 04_string_rails.md). -/
def RAIL_ZVF_VFMAX (z : Nat) : Fld := ⟨0x1400C0 + 0x4 * z, 20, 12⟩
def RAIL_ZVF_VF_CAL (z : Nat) : Fld := ⟨0x1400C0 + 0x4 * z, 8, 12⟩
def RAIL_ZVF_T_CAL (z : Nat) : Fld := ⟨0x1400C0 + 0x4 * z, 0, 8⟩
/-! RAIL_ZREQ (R122, 04_string_rails.md). -/
def RAIL_ZREQ_TARGET (z : Nat) : Fld := ⟨0x140100 + 0x4 * z, 16, 11⟩
def RAIL_ZREQ_CHECKING (z : Nat) : Fld := ⟨0x140100 + 0x4 * z, 15, 1⟩
def RAIL_ZREQ_NALLOW (z : Nat) : Fld := ⟨0x140100 + 0x4 * z, 11, 4⟩
def RAIL_ZREQ_VERIFIED (z : Nat) : Fld := ⟨0x140100 + 0x4 * z, 0, 11⟩
/-! RAIL_ZSTAT (R122, 04_string_rails.md). -/
def RAIL_ZSTAT_STATE (z : Nat) : Fld := ⟨0x140140 + 0x4 * z, 30, 2⟩
def RAIL_ZSTAT_OVLOCK (z : Nat) : Fld := ⟨0x140140 + 0x4 * z, 29, 1⟩
def RAIL_ZSTAT_FAULT_SRC (z : Nat) : Fld := ⟨0x140140 + 0x4 * z, 26, 3⟩
def RAIL_ZSTAT_CNT_CLR (z : Nat) : Fld := ⟨0x140140 + 0x4 * z, 25, 1⟩
def RAIL_ZSTAT_SETTLE_FAIL (z : Nat) : Fld := ⟨0x140140 + 0x4 * z, 16, 8⟩
def RAIL_ZSTAT_LIMITED_CNT (z : Nat) : Fld := ⟨0x140140 + 0x4 * z, 8, 8⟩
def RAIL_ZSTAT_CAP_CNT (z : Nat) : Fld := ⟨0x140140 + 0x4 * z, 0, 8⟩
/-! BRTH_CTRL (R144, 05_berths_layers.md). -/
def BRTH_CTRL_ECC_CLR : Fld := ⟨0x70000, 31, 1⟩
def BRTH_CTRL_SCRUB_SEC : Fld := ⟨0x70000, 0, 4⟩
/-! BRTH_STAT (R144, 05_berths_layers.md). -/
def BRTH_STAT_FREE_GRAN : Fld := ⟨0x70004, 16, 13⟩
def BRTH_STAT_LARGEST : Fld := ⟨0x70004, 0, 13⟩
/-! BRTH_ECC (R144, 05_berths_layers.md). -/
def BRTH_ECC_UNCORR : Fld := ⟨0x70008, 16, 16⟩
def BRTH_ECC_CORR : Fld := ⟨0x70008, 0, 16⟩
/-! BRTH_ECCADDR (R144, 05_berths_layers.md). -/
def BRTH_ECCADDR_VALID : Fld := ⟨0x7000C, 31, 1⟩
def BRTH_ECCADDR_OFFSET : Fld := ⟨0x7000C, 0, 25⟩
/-! BRTH_LAYOWN (R144, 05_berths_layers.md). -/
def BRTH_LAYOWN_OWNER : Fld := ⟨0x70010, 0, 32⟩
/-! BRTH_LAYVAL (R144, 05_berths_layers.md). -/
def BRTH_LAYVAL_SKIPPED : Fld := ⟨0x70014, 16, 16⟩
def BRTH_LAYVAL_OWNED : Fld := ⟨0x70014, 0, 16⟩
/-! BRTH_LAYPIN (R144, 05_berths_layers.md). -/
def BRTH_LAYPIN_PIN (n : Nat) : Fld := ⟨0x70018 + 0x4 * n, 0, 32⟩
/-! BRTH_QUOTA (R144, 05_berths_layers.md). -/
def BRTH_QUOTA_GRAN_USED (c : Nat) : Fld := ⟨0x70040 + 0x4 * c, 16, 13⟩
def BRTH_QUOTA_GRAN_QUOTA (c : Nat) : Fld := ⟨0x70040 + 0x4 * c, 0, 13⟩
/-! BRTH_FAULT (R144, 05_berths_layers.md). -/
def BRTH_FAULT_CAUSE (c : Nat) : Fld := ⟨0x70050 + 0x4 * c, 28, 4⟩
def BRTH_FAULT_BERTH (c : Nat) : Fld := ⟨0x70050 + 0x4 * c, 22, 6⟩
def BRTH_FAULT_LAYER (c : Nat) : Fld := ⟨0x70050 + 0x4 * c, 18, 4⟩
def BRTH_FAULT_COUNT (c : Nat) : Fld := ⟨0x70050 + 0x4 * c, 0, 16⟩
/-! BRTH_FENCELO (R144, 05_berths_layers.md). -/
def BRTH_FENCELO_FENCE (c : Nat) : Fld := ⟨0x70060 + 0x8 * c, 0, 32⟩
/-! BRTH_FENCEHI (R144, 05_berths_layers.md). -/
def BRTH_FENCEHI_FENCE (c : Nat) : Fld := ⟨0x70064 + 0x8 * c, 0, 32⟩
/-! BRTH_BCNT (R144, 05_berths_layers.md). -/
def BRTH_BCNT_BERTHS_USED (c : Nat) : Fld := ⟨0x70080 + 0x4 * c, 8, 7⟩
def BRTH_BCNT_BERTH_QUOTA (c : Nat) : Fld := ⟨0x70080 + 0x4 * c, 0, 7⟩
/-! BRTH_TAB (R144, 05_berths_layers.md). -/
def BRTH_TAB_STATE (n : Nat) : Fld := ⟨0x70100 + 0x4 * n, 29, 3⟩
def BRTH_TAB_OWNER (n : Nat) : Fld := ⟨0x70100 + 0x4 * n, 27, 2⟩
def BRTH_TAB_FENCE (n : Nat) : Fld := ⟨0x70100 + 0x4 * n, 26, 1⟩
def BRTH_TAB_BASE (n : Nat) : Fld := ⟨0x70100 + 0x4 * n, 13, 13⟩
def BRTH_TAB_SIZE (n : Nat) : Fld := ⟨0x70100 + 0x4 * n, 0, 13⟩
/-! ENG_CTRL (R170, 06_beam_engines.md). -/
def ENG_CTRL_PROFILE (x : Nat) : Fld := ⟨0x90000 + 0x10000 * x, 0, 1⟩
/-! ENG_STAT (R170, 06_beam_engines.md). -/
def ENG_STAT_ROLE (x : Nat) : Fld := ⟨0x90004 + 0x10000 * x, 29, 3⟩
def ENG_STAT_IMG_VALID (x : Nat) : Fld := ⟨0x90004 + 0x10000 * x, 28, 1⟩
def ENG_STAT_CLUS_DONE (x : Nat) : Fld := ⟨0x90004 + 0x10000 * x, 0, 8⟩
/-! ENG_IMAGE (R170, 06_beam_engines.md). -/
def ENG_IMAGE_IMG_CRC (x : Nat) : Fld := ⟨0x90008 + 0x10000 * x, 0, 32⟩
/-! ENG_BUDGET (R170, 06_beam_engines.md). -/
def ENG_BUDGET_TILE_LIMIT : Fld := ⟨0x9000C, 0, 16⟩
/-! ENG_BUDSTAT (R170, 06_beam_engines.md). -/
def ENG_BUDSTAT_OVR_CNT (x : Nat) : Fld := ⟨0x90010 + 0x10000 * x, 16, 16⟩
def ENG_BUDSTAT_CNT_CLR (x : Nat) : Fld := ⟨0x90010 + 0x10000 * x, 15, 1⟩
def ENG_BUDSTAT_LAST_TILE (x : Nat) : Fld := ⟨0x90010 + 0x10000 * x, 0, 9⟩
/-! ENG_PEAK (R170, 06_beam_engines.md). -/
def ENG_PEAK_PEAK_INSTR (x : Nat) : Fld := ⟨0x90014 + 0x10000 * x, 16, 16⟩
def ENG_PEAK_PEAK_TILE (x : Nat) : Fld := ⟨0x90014 + 0x10000 * x, 0, 9⟩
/-! ENG_EXC (R170, 06_beam_engines.md). -/
def ENG_EXC_CAUSE (x : Nat) : Fld := ⟨0x90018 + 0x10000 * x, 28, 4⟩
def ENG_EXC_CLUSTER (x : Nat) : Fld := ⟨0x90018 + 0x10000 * x, 25, 3⟩
def ENG_EXC_IN_ENTRY (x : Nat) : Fld := ⟨0x90018 + 0x10000 * x, 24, 1⟩
def ENG_EXC_TILE (x : Nat) : Fld := ⟨0x90018 + 0x10000 * x, 15, 9⟩
def ENG_EXC_PC (x : Nat) : Fld := ⟨0x90018 + 0x10000 * x, 0, 15⟩
/-! ENG_EXCCNT (R170, 06_beam_engines.md). -/
def ENG_EXCCNT_PROG_CNT (x : Nat) : Fld := ⟨0x9001C + 0x10000 * x, 16, 16⟩
def ENG_EXCCNT_CNT_CLR (x : Nat) : Fld := ⟨0x9001C + 0x10000 * x, 15, 1⟩
def ENG_EXCCNT_HW_CNT (x : Nat) : Fld := ⟨0x9001C + 0x10000 * x, 0, 8⟩
/-! ENG_ECC (R170, 06_beam_engines.md). -/
def ENG_ECC_SCR_CORR (x : Nat) : Fld := ⟨0x90020 + 0x10000 * x, 16, 16⟩
def ENG_ECC_PM_CORR (x : Nat) : Fld := ⟨0x90020 + 0x10000 * x, 0, 16⟩
/-! ENG_WINSEL (R170, 06_beam_engines.md). -/
def ENG_WINSEL_SCR_CLUS (x : Nat) : Fld := ⟨0x90024 + 0x10000 * x, 8, 3⟩
def ENG_WINSEL_SCR_PAGE (x : Nat) : Fld := ⟨0x90024 + 0x10000 * x, 4, 4⟩
def ENG_WINSEL_PM_PAGE (x : Nat) : Fld := ⟨0x90024 + 0x10000 * x, 0, 2⟩
/-! ENG_PARAM (R170, 06_beam_engines.md). -/
def ENG_PARAM_PARAM (n : Nat) : Fld := ⟨0x90100 + 0x4 * n, 0, 32⟩
/-! FFN_CTRL (R233, 09_fixed_function.md). -/
def FFN_CTRL_YAW_REL : Fld := ⟨0xB0000, 17, 1⟩
def FFN_CTRL_PITCH_REL : Fld := ⟨0xB0000, 16, 1⟩
def FFN_CTRL_FILL_GAIN : Fld := ⟨0xB0000, 8, 8⟩
def FFN_CTRL_DITHER : Fld := ⟨0xB0000, 4, 2⟩
def FFN_CTRL_CURVE_SEL : Fld := ⟨0xB0000, 0, 2⟩
/-! FFN_STAT (R233, 09_fixed_function.md). -/
def FFN_STAT_UNI_SUB : Fld := ⟨0xB0004, 2, 1⟩
def FFN_STAT_NONMONO : Fld := ⟨0xB0004, 1, 1⟩
def FFN_STAT_OPT_VALID : Fld := ⟨0xB0004, 0, 1⟩
/-! FFN_OBJSTAT (R233, 09_fixed_function.md). -/
def FFN_OBJSTAT_CNT_CLR : Fld := ⟨0xB0008, 31, 1⟩
def FFN_OBJSTAT_DUP : Fld := ⟨0xB0008, 24, 7⟩
def FFN_OBJSTAT_BAD : Fld := ⟨0xB0008, 16, 8⟩
def FFN_OBJSTAT_LATCHED : Fld := ⟨0xB0008, 0, 8⟩
/-! FFN_UNICFG (R233, 09_fixed_function.md). -/
def FFN_UNICFG_SUB_GAIN : Fld := ⟨0xB000C, 0, 8⟩
/-! FFN_NPEAK (R233, 09_fixed_function.md). -/
def FFN_NPEAK_NPEAK (n : Nat) : Fld := ⟨0xB0010 + 0x4 * n, 0, 32⟩
/-! FFN_RELCNT (R233, 09_fixed_function.md). -/
def FFN_RELCNT_RELEASING : Fld := ⟨0xB0018, 0, 9⟩
/-! FFN_FADE (R233, 09_fixed_function.md). -/
def FFN_FADE_PHI (z : Nat) : Fld := ⟨0xB0040 + 0x4 * z, 16, 16⟩
def FFN_FADE_LEFT (z : Nat) : Fld := ⟨0xB0040 + 0x4 * z, 0, 16⟩
/-! FFN_ZCRC (R233, 09_fixed_function.md). -/
def FFN_ZCRC_ZCRC (z : Nat) : Fld := ⟨0xB0080 + 0x4 * z, 0, 32⟩
/-! LINK_PCFG (R257, 10_ranfer_link.md). -/
def LINK_PCFG_FOMTHR (p : Nat) : Fld := ⟨0x50000 + 0x100 * p, 24, 8⟩
def LINK_PCFG_RIDLE (p : Nat) : Fld := ⟨0x50000 + 0x100 * p, 16, 8⟩
def LINK_PCFG_LANE_FB (p : Nat) : Fld := ⟨0x50000 + 0x100 * p, 7, 1⟩
def LINK_PCFG_FIDLE_EN (p : Nat) : Fld := ⟨0x50000 + 0x100 * p, 6, 1⟩
def LINK_PCFG_RATE (p : Nat) : Fld := ⟨0x50000 + 0x100 * p, 4, 2⟩
def LINK_PCFG_LANES (p : Nat) : Fld := ⟨0x50000 + 0x100 * p, 3, 1⟩
def LINK_PCFG_RDEEMPH (p : Nat) : Fld := ⟨0x50000 + 0x100 * p, 1, 2⟩
def LINK_PCFG_EN (p : Nat) : Fld := ⟨0x50000 + 0x100 * p, 0, 1⟩
/-! LINK_PSTAT (R257, 10_ranfer_link.md). -/
def LINK_PSTAT_STATE (p : Nat) : Fld := ⟨0x50004 + 0x100 * p, 29, 3⟩
def LINK_PSTAT_LANE1_USED (p : Nat) : Fld := ⟨0x50004 + 0x100 * p, 28, 1⟩
def LINK_PSTAT_RET_IDLE (p : Nat) : Fld := ⟨0x50004 + 0x100 * p, 27, 1⟩
def LINK_PSTAT_TX_SEQ (p : Nat) : Fld := ⟨0x50004 + 0x100 * p, 8, 8⟩
def LINK_PSTAT_RX_SEQ (p : Nat) : Fld := ⟨0x50004 + 0x100 * p, 0, 8⟩
/-! LINK_CRED (R257, 10_ranfer_link.md). -/
def LINK_CRED_F_FREE (p : Nat) : Fld := ⟨0x50008 + 0x100 * p, 16, 9⟩
def LINK_CRED_M_FREE (p : Nat) : Fld := ⟨0x50008 + 0x100 * p, 0, 7⟩
/-! LINK_ERR (R257, 10_ranfer_link.md). -/
def LINK_ERR_CRC_ERR (p : Nat) : Fld := ⟨0x5000C + 0x100 * p, 16, 16⟩
def LINK_ERR_HDR_ERR (p : Nat) : Fld := ⟨0x5000C + 0x100 * p, 8, 8⟩
def LINK_ERR_SEQ_GAP (p : Nat) : Fld := ⟨0x5000C + 0x100 * p, 0, 8⟩
/-! LINK_LOCK (R257, 10_ranfer_link.md). -/
def LINK_LOCK_CNT_CLR (p : Nat) : Fld := ⟨0x50010 + 0x100 * p, 31, 1⟩
def LINK_LOCK_RETRAIN_CNT (p : Nat) : Fld := ⟨0x50010 + 0x100 * p, 16, 8⟩
def LINK_LOCK_LOCK_LOSS (p : Nat) : Fld := ⟨0x50010 + 0x100 * p, 8, 8⟩
def LINK_LOCK_IDLE_FAIL (p : Nat) : Fld := ⟨0x50010 + 0x100 * p, 0, 8⟩
/-! LINK_EVTQ (R257, 10_ranfer_link.md). -/
def LINK_EVTQ_EVT_DROP (p : Nat) : Fld := ⟨0x50014 + 0x100 * p, 16, 16⟩
def LINK_EVTQ_DEPTH (p : Nat) : Fld := ⟨0x50014 + 0x100 * p, 0, 6⟩
/-! LINK_LANE (R257, 10_ranfer_link.md). -/
def LINK_LANE_FOM (p l : Nat) : Fld := ⟨0x50020 + 0x100 * p + 0x4 * l, 24, 8⟩
def LINK_LANE_FOM_MIN (p l : Nat) : Fld := ⟨0x50020 + 0x100 * p + 0x4 * l, 16, 8⟩
def LINK_LANE_CTLE (p l : Nat) : Fld := ⟨0x50020 + 0x100 * p + 0x4 * l, 12, 4⟩
def LINK_LANE_FOM_CLR (p l : Nat) : Fld := ⟨0x50020 + 0x100 * p + 0x4 * l, 8, 1⟩
def LINK_LANE_USED (p l : Nat) : Fld := ⟨0x50020 + 0x100 * p + 0x4 * l, 2, 1⟩
def LINK_LANE_SQUELCH (p l : Nat) : Fld := ⟨0x50020 + 0x100 * p + 0x4 * l, 1, 1⟩
def LINK_LANE_LOCK (p l : Nat) : Fld := ⟨0x50020 + 0x100 * p + 0x4 * l, 0, 1⟩
/-! LINK_DFE (R257, 10_ranfer_link.md). -/
def LINK_DFE_TAPS (p l : Nat) : Fld := ⟨0x50028 + 0x100 * p + 0x4 * l, 0, 30⟩
/-! HCTX_BIND (R281, 11_host_contexts.md). -/
def HCTX_BIND_BIND : Fld := ⟨0x40000, 0, 12⟩
/-! HCTX_LONG (R281, 11_host_contexts.md). -/
def HCTX_LONG_ACTIVE : Fld := ⟨0x40004, 31, 1⟩
def HCTX_LONG_CTX : Fld := ⟨0x40004, 29, 2⟩
def HCTX_LONG_CODE : Fld := ⟨0x40004, 16, 8⟩
def HCTX_LONG_ELAPSED : Fld := ⟨0x40004, 0, 16⟩
/-! HCTX_NONCELO (R281, 11_host_contexts.md). -/
def HCTX_NONCELO_NONCE : Fld := ⟨0x40008, 0, 32⟩
/-! HCTX_NONCEHI (R281, 11_host_contexts.md). -/
def HCTX_NONCEHI_NONCE : Fld := ⟨0x4000C, 0, 32⟩
/-! HCTX_IFERR (R281, 11_host_contexts.md). -/
def HCTX_IFERR_CAN : Fld := ⟨0x40010, 24, 8⟩
def HCTX_IFERR_SPI : Fld := ⟨0x40010, 16, 8⟩
def HCTX_IFERR_PORTB : Fld := ⟨0x40010, 8, 8⟩
def HCTX_IFERR_PORTA : Fld := ⟨0x40010, 0, 8⟩
/-! HCTX_SPISTAT (R281, 11_host_contexts.md). -/
def HCTX_SPISTAT_F_FREE : Fld := ⟨0x40014, 16, 15⟩
def HCTX_SPISTAT_M_FREE : Fld := ⟨0x40014, 0, 13⟩
/-! HCTX_PERM (R281, 11_host_contexts.md). -/
def HCTX_PERM_PERM (c : Nat) : Fld := ⟨0x40040 + 0x20 * c, 0, 8⟩
/-! HCTX_WRMASK (R281, 11_host_contexts.md). -/
def HCTX_WRMASK_TRIM (c : Nat) : Fld := ⟨0x40044 + 0x20 * c, 21, 1⟩
def HCTX_WRMASK_BLK (c : Nat) : Fld := ⟨0x40044 + 0x20 * c, 0, 21⟩
/-! HCTX_CFG (R281, 11_host_contexts.md). -/
def HCTX_CFG_RESP_INT (c : Nat) : Fld := ⟨0x40048 + 0x20 * c, 0, 1⟩
/-! HCTX_MSEQF (R281, 11_host_contexts.md). -/
def HCTX_MSEQF_LAST (c : Nat) : Fld := ⟨0x4004C + 0x20 * c, 0, 32⟩
/-! HCTX_MSEQM (R281, 11_host_contexts.md). -/
def HCTX_MSEQM_LAST (c : Nat) : Fld := ⟨0x40050 + 0x20 * c, 0, 32⟩
/-! HCTX_ERR (R281, 11_host_contexts.md). -/
def HCTX_ERR_MAN_ERR (c : Nat) : Fld := ⟨0x40054 + 0x20 * c, 24, 8⟩
def HCTX_ERR_AUTH_ERR (c : Nat) : Fld := ⟨0x40054 + 0x20 * c, 16, 8⟩
def HCTX_ERR_MSEQ_GAP (c : Nat) : Fld := ⟨0x40054 + 0x20 * c, 8, 8⟩
def HCTX_ERR_DENY_CNT (c : Nat) : Fld := ⟨0x40054 + 0x20 * c, 0, 8⟩
/-! CANF_CTRL (R282, 11_host_contexts.md). -/
def CANF_CTRL_WIN : Fld := ⟨0x60000, 4, 2⟩
def CANF_CTRL_AUTO_RECOV : Fld := ⟨0x60000, 3, 1⟩
def CANF_CTRL_IDE : Fld := ⟨0x60000, 2, 1⟩
def CANF_CTRL_EN : Fld := ⟨0x60000, 0, 1⟩
/-! CANF_NBT (R282, 11_host_contexts.md). -/
def CANF_NBT_NBRP : Fld := ⟨0x60004, 24, 8⟩
def CANF_NBT_NTSEG1 : Fld := ⟨0x60004, 16, 8⟩
def CANF_NBT_NTSEG2 : Fld := ⟨0x60004, 8, 8⟩
def CANF_NBT_NSJW : Fld := ⟨0x60004, 0, 8⟩
/-! CANF_DBT (R282, 11_host_contexts.md). -/
def CANF_DBT_DBRP : Fld := ⟨0x60008, 28, 4⟩
def CANF_DBT_DTSEG1 : Fld := ⟨0x60008, 22, 6⟩
def CANF_DBT_DTSEG2 : Fld := ⟨0x60008, 17, 5⟩
def CANF_DBT_DSJW : Fld := ⟨0x60008, 12, 5⟩
def CANF_DBT_TDC_EN : Fld := ⟨0x60008, 11, 1⟩
def CANF_DBT_TDCO : Fld := ⟨0x60008, 4, 7⟩
/-! CANF_IDRX (R282, 11_host_contexts.md). -/
def CANF_IDRX_ID : Fld := ⟨0x6000C, 0, 29⟩
/-! CANF_IDRSP (R282, 11_host_contexts.md). -/
def CANF_IDRSP_ID : Fld := ⟨0x60010, 0, 29⟩
/-! CANF_IDEVT (R282, 11_host_contexts.md). -/
def CANF_IDEVT_ID : Fld := ⟨0x60014, 0, 29⟩
/-! CANF_ERRC (R282, 11_host_contexts.md). -/
def CANF_ERRC_STATE : Fld := ⟨0x60018, 30, 2⟩
def CANF_ERRC_REC : Fld := ⟨0x60018, 16, 8⟩
def CANF_ERRC_TEC : Fld := ⟨0x60018, 8, 8⟩
def CANF_ERRC_BUSOFF_CNT : Fld := ⟨0x60018, 0, 8⟩
/-! CANF_FERR (R282, 11_host_contexts.md). -/
def CANF_FERR_SEG_ERR : Fld := ⟨0x6001C, 24, 8⟩
def CANF_FERR_WIN_ERR : Fld := ⟨0x6001C, 16, 8⟩
def CANF_FERR_FMT_ERR : Fld := ⟨0x6001C, 8, 8⟩
/-! TLNK_CTRL (R296, 12_tile_links.md). -/
def TLNK_CTRL_CNT_CLR : Fld := ⟨0xC0000, 31, 1⟩
def TLNK_CTRL_FAIL_ERR : Fld := ⟨0xC0000, 16, 8⟩
def TLNK_CTRL_EW_THR : Fld := ⟨0xC0000, 8, 8⟩
/-! TLNK_STAT (R296, 12_tile_links.md). -/
def TLNK_STAT_SEL : Fld := ⟨0xC0004, 31, 1⟩
def TLNK_STAT_ZCMD_REJ : Fld := ⟨0xC0004, 16, 8⟩
def TLNK_STAT_NAK_CNT : Fld := ⟨0xC0004, 8, 8⟩
def TLNK_STAT_ORD_MISS : Fld := ⟨0xC0004, 0, 8⟩
/-! TLNK_RTN (R296, 12_tile_links.md). -/
def TLNK_RTN_RTN1_FAIL : Fld := ⟨0xC0008, 31, 1⟩
def TLNK_RTN_RTN1_LOCK : Fld := ⟨0xC0008, 30, 1⟩
def TLNK_RTN_RTN1_CRCERR : Fld := ⟨0xC0008, 16, 8⟩
def TLNK_RTN_RTN0_FAIL : Fld := ⟨0xC0008, 15, 1⟩
def TLNK_RTN_RTN0_LOCK : Fld := ⟨0xC0008, 14, 1⟩
def TLNK_RTN_RTN0_CRCERR : Fld := ⟨0xC0008, 0, 8⟩
/-! TLNK_LANE (R296, 12_tile_links.md). -/
def TLNK_LANE_STATE (x z : Nat) : Fld := ⟨0xC0040 + 0x40 * x + 0x4 * z, 30, 2⟩
def TLNK_LANE_DEGR (x z : Nat) : Fld := ⟨0xC0040 + 0x40 * x + 0x4 * z, 29, 1⟩
def TLNK_LANE_EW_CNT (x z : Nat) : Fld := ⟨0xC0040 + 0x40 * x + 0x4 * z, 16, 8⟩
def TLNK_LANE_ERR_LAST (x z : Nat) : Fld := ⟨0xC0040 + 0x40 * x + 0x4 * z, 0, 16⟩
/-! DPLX_CTRL (R322, 13_duplex_failover.md). -/
def DPLX_CTRL_SWAP_REQ : Fld := ⟨0x120000, 31, 1⟩
def DPLX_CTRL_RECOV_B : Fld := ⟨0x120000, 30, 1⟩
def DPLX_CTRL_RECOV_A : Fld := ⟨0x120000, 29, 1⟩
def DPLX_CTRL_AUTO_RECOV : Fld := ⟨0x120000, 16, 1⟩
def DPLX_CTRL_HOLD_LIM : Fld := ⟨0x120000, 0, 9⟩
/-! DPLX_STAT (R322, 13_duplex_failover.md). -/
def DPLX_STAT_ACT_ENG : Fld := ⟨0x120004, 31, 1⟩
def DPLX_STAT_ACT_HM : Fld := ⟨0x120004, 30, 1⟩
def DPLX_STAT_HMA_ROLE : Fld := ⟨0x120004, 27, 3⟩
def DPLX_STAT_HMB_ROLE : Fld := ⟨0x120004, 24, 3⟩
def DPLX_STAT_RS_PHASE : Fld := ⟨0x120004, 22, 2⟩
def DPLX_STAT_RS_UNIT : Fld := ⟨0x120004, 20, 2⟩
def DPLX_STAT_SUSP_ACT : Fld := ⟨0x120004, 19, 1⟩
def DPLX_STAT_SUSP_STBY : Fld := ⟨0x120004, 18, 1⟩
/-! DPLX_BCN (R322, 13_duplex_failover.md). -/
def DPLX_BCN_PATH_FLT : Fld := ⟨0x120008, 0, 8⟩
/-! DPLX_FOVER (R322, 13_duplex_failover.md). -/
def DPLX_FOVER_FO_CNT : Fld := ⟨0x12000C, 16, 16⟩
def DPLX_FOVER_LAST_CAUSE : Fld := ⟨0x12000C, 12, 4⟩
def DPLX_FOVER_LAST_FROM : Fld := ⟨0x12000C, 11, 1⟩
def DPLX_FOVER_CNT_CLR : Fld := ⟨0x12000C, 0, 1⟩
/-! DPLX_MISM (R322, 13_duplex_failover.md). -/
def DPLX_MISM_MM_CNT : Fld := ⟨0x120010, 16, 16⟩
def DPLX_MISM_MM_STEP : Fld := ⟨0x120010, 14, 2⟩
def DPLX_MISM_LAST_ZONE : Fld := ⟨0x120010, 8, 4⟩
def DPLX_MISM_PROF_CNT : Fld := ⟨0x120010, 0, 8⟩
/-! DPLX_RESYNC (R322, 13_duplex_failover.md). -/
def DPLX_RESYNC_RS_CNT : Fld := ⟨0x120014, 24, 8⟩
def DPLX_RESYNC_AB_CNT : Fld := ⟨0x120014, 16, 8⟩
def DPLX_RESYNC_AB_CAUSE : Fld := ⟨0x120014, 12, 4⟩
/-! DPLX_RECOV (R322, 13_duplex_failover.md). -/
def DPLX_RECOV_LEFT_HB : Fld := ⟨0x120018, 6, 2⟩
def DPLX_RECOV_LEFT_HA : Fld := ⟨0x120018, 4, 2⟩
def DPLX_RECOV_LEFT_B : Fld := ⟨0x120018, 2, 2⟩
def DPLX_RECOV_LEFT_A : Fld := ⟨0x120018, 0, 2⟩
/-! DPLX_HM (R322, 13_duplex_failover.md). -/
def DPLX_HM_SW_CNT : Fld := ⟨0x12001C, 24, 8⟩
def DPLX_HM_LAST_CAUSE : Fld := ⟨0x12001C, 20, 4⟩
/-! SAFE_STAT (R351, 14_safety.md). -/
def SAFE_STAT_DEV_LOCK : Fld := ⟨0x110000, 31, 1⟩
def SAFE_STAT_FALLBACK : Fld := ⟨0x110000, 30, 1⟩
def SAFE_STAT_SAFE_OK_RUN : Fld := ⟨0x110000, 29, 1⟩
def SAFE_STAT_ARCH_LEGACY : Fld := ⟨0x110000, 28, 1⟩
def SAFE_STAT_BW_HOLD : Fld := ⟨0x110000, 27, 1⟩
def SAFE_STAT_BW_HOLDLIM : Fld := ⟨0x110000, 18, 9⟩
def SAFE_STAT_BLIND_CNT : Fld := ⟨0x110000, 0, 8⟩
/-! SAFE_STRAP (R351, 14_safety.md). -/
def SAFE_STRAP_LAST : Fld := ⟨0x110004, 16, 16⟩
def SAFE_STRAP_BOOT : Fld := ⟨0x110004, 0, 16⟩
/-! SAFE_LOCK (R351, 14_safety.md). -/
def SAFE_LOCK_LOCK_SEQ : Fld := ⟨0x110008, 16, 16⟩
def SAFE_LOCK_DEV_CAUSE : Fld := ⟨0x110008, 12, 4⟩
def SAFE_LOCK_LAST_CAUSE : Fld := ⟨0x110008, 8, 4⟩
def SAFE_LOCK_LAST_DEV : Fld := ⟨0x110008, 7, 1⟩
def SAFE_LOCK_UNL_WIN : Fld := ⟨0x110008, 6, 1⟩
def SAFE_LOCK_LAST_ZONE : Fld := ⟨0x110008, 0, 4⟩
/-! SAFE_ZONES (R351, 14_safety.md). -/
def SAFE_ZONES_ZCUT : Fld := ⟨0x11000C, 16, 16⟩
def SAFE_ZONES_ZLOCK : Fld := ⟨0x11000C, 0, 16⟩
/-! SAFE_INH (R351, 14_safety.md). -/
def SAFE_INH_A_RAW : Fld := ⟨0x110010, 31, 1⟩
def SAFE_INH_B_RAW : Fld := ⟨0x110010, 30, 1⟩
def SAFE_INH_A_FILT : Fld := ⟨0x110010, 29, 1⟩
def SAFE_INH_B_FILT : Fld := ⟨0x110010, 28, 1⟩
def SAFE_INH_POL_SWAP : Fld := ⟨0x110010, 27, 1⟩
def SAFE_INH_TD_CODE : Fld := ⟨0x110010, 23, 4⟩
def SAFE_INH_CUT_CNT : Fld := ⟨0x110010, 15, 8⟩
def SAFE_INH_DISC_CNT : Fld := ⟨0x110010, 0, 9⟩
/-! SAFE_OPT (R351, 14_safety.md). -/
def SAFE_OPT_EN : Fld := ⟨0x110014, 31, 1⟩
def SAFE_OPT_CNT_CLR : Fld := ⟨0x110014, 30, 1⟩
def SAFE_OPT_DEFER_CNT : Fld := ⟨0x110014, 16, 8⟩
def SAFE_OPT_RETRY_CNT : Fld := ⟨0x110014, 8, 8⟩
def SAFE_OPT_FAIL_CNT : Fld := ⟨0x110014, 0, 8⟩
/-! SAFE_OPTFAIL (R351, 14_safety.md). -/
def SAFE_OPTFAIL_PATHB : Fld := ⟨0x110018, 16, 16⟩
def SAFE_OPTFAIL_PATHA : Fld := ⟨0x110018, 0, 16⟩
/-! SAFE_GW (R351, 14_safety.md). -/
def SAFE_GW_VIOL : Fld := ⟨0x11001C, 24, 4⟩
def SAFE_GW_VIOL_CNT : Fld := ⟨0x11001C, 16, 8⟩
def SAFE_GW_CNT_CLR : Fld := ⟨0x11001C, 15, 1⟩
def SAFE_GW_GW_EN : Fld := ⟨0x11001C, 0, 4⟩
/-! SAFE_CORE (R351, 14_safety.md). -/
def SAFE_CORE_STATE : Fld := ⟨0x110020, 30, 2⟩
def SAFE_CORE_RST_CNT : Fld := ⟨0x110020, 16, 8⟩
def SAFE_CORE_GLITCH : Fld := ⟨0x110020, 8, 8⟩
def SAFE_CORE_RSTPIN_BAD : Fld := ⟨0x110020, 0, 8⟩
/-! SAFE_LEGACY (R351, 14_safety.md). -/
def SAFE_LEGACY_Q : Fld := ⟨0x110024, 16, 16⟩
def SAFE_LEGACY_CMP_CNT : Fld := ⟨0x110024, 8, 8⟩
def SAFE_LEGACY_QA_CONSEC : Fld := ⟨0x110024, 0, 2⟩
/-! SAFE_CFG (R351, 14_safety.md). -/
def SAFE_CFG_FB_ZMASK : Fld := ⟨0x110028, 16, 16⟩
def SAFE_CFG_LL_ZMASK : Fld := ⟨0x110028, 0, 16⟩
/-! SAFE_ZLIM (R351, 14_safety.md). -/
def SAFE_ZLIM_LIM (z : Nat) : Fld := ⟨0x110040 + 0x4 * z, 0, 32⟩
/-! SAFE_ZFLUX (R351, 14_safety.md). -/
def SAFE_ZFLUX_E (z : Nat) : Fld := ⟨0x110080 + 0x4 * z, 0, 32⟩
/-! SAFE_GWX (R351, 14_safety.md). -/
def SAFE_GWX_X1 (w : Nat) : Fld := ⟨0x1100C0 + 0x10 * w, 16, 11⟩
def SAFE_GWX_X0 (w : Nat) : Fld := ⟨0x1100C0 + 0x10 * w, 0, 11⟩
/-! SAFE_GWY (R351, 14_safety.md). -/
def SAFE_GWY_Y1 (w : Nat) : Fld := ⟨0x1100C4 + 0x10 * w, 16, 10⟩
def SAFE_GWY_Y0 (w : Nat) : Fld := ⟨0x1100C4 + 0x10 * w, 0, 10⟩
/-! SAFE_GWLIM (R351, 14_safety.md). -/
def SAFE_GWLIM_LIM (w : Nat) : Fld := ⟨0x1100C8 + 0x10 * w, 0, 24⟩
/-! DIAG_CTRL (R368, 15_diagnostics.md). -/
def DIAG_CTRL_CNT_CLR : Fld := ⟨0xE0000, 31, 1⟩
def DIAG_CTRL_IST_EN : Fld := ⟨0xE0000, 16, 1⟩
def DIAG_CTRL_SHORT_VF : Fld := ⟨0xE0000, 8, 8⟩
/-! DIAG_PIXCNT (R368, 15_diagnostics.md). -/
def DIAG_PIXCNT_OPEN : Fld := ⟨0xE0004, 16, 16⟩
def DIAG_PIXCNT_SHORT : Fld := ⟨0xE0004, 0, 16⟩
/-! DIAG_STRCNT (R368, 15_diagnostics.md). -/
def DIAG_STRCNT_STR_FAILED : Fld := ⟨0xE0008, 0, 18⟩
/-! DIAG_LAST (R368, 15_diagnostics.md). -/
def DIAG_LAST_KIND : Fld := ⟨0xE000C, 30, 2⟩
def DIAG_LAST_CLASS : Fld := ⟨0xE000C, 28, 2⟩
def DIAG_LAST_FROM_IST : Fld := ⟨0xE000C, 27, 1⟩
def DIAG_LAST_K : Fld := ⟨0xE000C, 24, 3⟩
def DIAG_LAST_S : Fld := ⟨0xE000C, 0, 18⟩
/-! DIAG_IST (R368, 15_diagnostics.md). -/
def DIAG_IST_SKIP_LAST : Fld := ⟨0xE0010, 16, 16⟩
def DIAG_IST_CYCLES : Fld := ⟨0xE0010, 0, 16⟩
/-! DIAG_RB (R368, 15_diagnostics.md). -/
def DIAG_RB_MISM_CNT : Fld := ⟨0xE0014, 16, 16⟩
def DIAG_RB_CONF_CNT : Fld := ⟨0xE0014, 0, 16⟩
/-! DIAG_RBADDR (R368, 15_diagnostics.md). -/
def DIAG_RBADDR_VALID : Fld := ⟨0xE0018, 31, 1⟩
def DIAG_RBADDR_ELEM : Fld := ⟨0xE0018, 30, 1⟩
def DIAG_RBADDR_K : Fld := ⟨0xE0018, 27, 3⟩
def DIAG_RBADDR_S : Fld := ⟨0xE0018, 0, 18⟩
/-! DIAG_FRZ (R368, 15_diagnostics.md). -/
def DIAG_FRZ_ZFRZ : Fld := ⟨0xE001C, 16, 16⟩
def DIAG_FRZ_UNAVAIL : Fld := ⟨0xE001C, 8, 8⟩
def DIAG_FRZ_MISM_CNT : Fld := ⟨0xE001C, 0, 8⟩
/-! DIAG_DSIG (R368, 15_diagnostics.md). -/
def DIAG_DSIG_DSIG (z : Nat) : Fld := ⟨0xE0040 + 0x4 * z, 0, 32⟩
/-! DIAG_TSTAT (R368, 15_diagnostics.md). -/
def DIAG_TSTAT_TSTATE (n : Nat) : Fld := ⟨0xE0080 + 0x4 * n, 0, 32⟩
/-! CAL_STAT (R391, 16_calibration_thermal.md). -/
def CAL_STAT_RUNNING : Fld := ⟨0xF0000, 31, 1⟩
def CAL_STAT_LAST_KIND : Fld := ⟨0xF0000, 30, 1⟩
def CAL_STAT_LAST_ZONE : Fld := ⟨0xF0000, 26, 4⟩
def CAL_STAT_LAST_RESULT : Fld := ⟨0xF0000, 24, 2⟩
def CAL_STAT_SKIPPED : Fld := ⟨0xF0000, 0, 16⟩
/-! CAL_COUNT (R391, 16_calibration_thermal.md). -/
def CAL_COUNT_COUNT : Fld := ⟨0xF0004, 0, 16⟩
/-! CAL_STAMP (R391, 16_calibration_thermal.md). -/
def CAL_STAMP_UPTIME : Fld := ⟨0xF0008, 0, 32⟩
/-! CAL_ZRES (R391, 16_calibration_thermal.md). -/
def CAL_ZRES_KEPT (z : Nat) : Fld := ⟨0xF0040 + 0x4 * z, 26, 6⟩
def CAL_ZRES_SKIP (z : Nat) : Fld := ⟨0xF0040 + 0x4 * z, 25, 1⟩
def CAL_ZRES_IMPL (z : Nat) : Fld := ⟨0xF0040 + 0x4 * z, 10, 15⟩
/-! CAL_TKEPT (R391, 16_calibration_thermal.md). -/
def CAL_TKEPT_KEPT (n : Nat) : Fld := ⟨0xF0080 + 0x4 * n, 0, 32⟩
/-! THRM_CTRL (R392, 16_calibration_thermal.md). -/
def THRM_CTRL_PAD_FB : Fld := ⟨0x100000, 16, 8⟩
def THRM_CTRL_KTH : Fld := ⟨0x100000, 8, 8⟩
def THRM_CTRL_T_THR : Fld := ⟨0x100000, 0, 8⟩
/-! THRM_MODEL0 (R392, 16_calibration_thermal.md). -/
def THRM_MODEL0_R_BP : Fld := ⟨0x100004, 16, 16⟩
def THRM_MODEL0_R_JB : Fld := ⟨0x100004, 0, 16⟩
/-! THRM_MODEL1 (R392, 16_calibration_thermal.md). -/
def THRM_MODEL1_C_B : Fld := ⟨0x100008, 16, 16⟩
def THRM_MODEL1_C_J : Fld := ⟨0x100008, 0, 16⟩
/-! THRM_MODEL2 (R392, 16_calibration_thermal.md). -/
def THRM_MODEL2_HEATF : Fld := ⟨0x10000C, 16, 8⟩
def THRM_MODEL2_R_LAT : Fld := ⟨0x10000C, 0, 16⟩
/-! THRM_STAT (R392, 16_calibration_thermal.md). -/
def THRM_STAT_THERM_STOP : Fld := ⟨0x100010, 31, 1⟩
def THRM_STAT_STOP_CAUSE : Fld := ⟨0x100010, 28, 3⟩
def THRM_STAT_STOP_ZONE : Fld := ⟨0x100010, 24, 4⟩
def THRM_STAT_PAD_FAIL : Fld := ⟨0x100010, 23, 1⟩
def THRM_STAT_DIE_FAIL : Fld := ⟨0x100010, 22, 1⟩
def THRM_STAT_THR_ZONES : Fld := ⟨0x100010, 0, 16⟩
/-! THRM_TEMP (R392, 16_calibration_thermal.md). -/
def THRM_TEMP_DIE : Fld := ⟨0x100014, 16, 16⟩
def THRM_TEMP_PAD : Fld := ⟨0x100014, 0, 16⟩
/-! THRM_ZT (R392, 16_calibration_thermal.md). -/
def THRM_ZT_TJ (z : Nat) : Fld := ⟨0x100040 + 0x4 * z, 16, 16⟩
def THRM_ZT_SCALE (z : Nat) : Fld := ⟨0x100040 + 0x4 * z, 0, 16⟩
/-! THRM_ZB (R392, 16_calibration_thermal.md). -/
def THRM_ZB_TB (z : Nat) : Fld := ⟨0x100080 + 0x4 * z, 16, 16⟩
def THRM_ZB_HEAT (z : Nat) : Fld := ⟨0x100080 + 0x4 * z, 0, 16⟩
/-! PWR_MODE (R416, 17_modes_boot_store.md). -/
def PWR_MODE_MODE : Fld := ⟨0x20000, 28, 4⟩
def PWR_MODE_PREV : Fld := ⟨0x20000, 24, 4⟩
def PWR_MODE_CAUSE : Fld := ⟨0x20000, 20, 4⟩
def PWR_MODE_REQ_RUN : Fld := ⟨0x20000, 19, 1⟩
def PWR_MODE_REQ_TGT : Fld := ⟨0x20000, 12, 4⟩
/-! PWR_BOOTSTAT (R416, 17_modes_boot_store.md). -/
def PWR_BOOTSTAT_FW_MON : Fld := ⟨0x20004, 31, 1⟩
def PWR_BOOTSTAT_RESTORED : Fld := ⟨0x20004, 30, 1⟩
def PWR_BOOTSTAT_UNI_BAD : Fld := ⟨0x20004, 29, 1⟩
def PWR_BOOTSTAT_MOL_BAD : Fld := ⟨0x20004, 28, 1⟩
def PWR_BOOTSTAT_BOOT_MS : Fld := ⟨0x20004, 0, 16⟩
/-! PWR_FIRST (R416, 17_modes_boot_store.md). -/
def PWR_FIRST_FIRSTLIGHT_MS : Fld := ⟨0x20008, 16, 16⟩
def PWR_FIRST_WAKE_MS : Fld := ⟨0x20008, 0, 16⟩
/-! PWR_SVC (R416, 17_modes_boot_store.md). -/
def PWR_SVC_SVC_ZMASK : Fld := ⟨0x2000C, 0, 16⟩
/-! STOR_STAT (R417, 17_modes_boot_store.md). -/
def STOR_STAT_BUSY : Fld := ⟨0x130000, 31, 1⟩
def STOR_STAT_PART : Fld := ⟨0x130000, 28, 3⟩
def STOR_STAT_ERASING : Fld := ⟨0x130000, 27, 1⟩
def STOR_STAT_DONE : Fld := ⟨0x130000, 0, 16⟩
/-! STOR_BANK (R417, 17_modes_boot_store.md). -/
def STOR_BANK_VALID : Fld := ⟨0x130004, 0, 12⟩
/-! STOR_ERR (R417, 17_modes_boot_store.md). -/
def STOR_ERR_CNT_CLR : Fld := ⟨0x130008, 31, 1⟩
def STOR_ERR_TEMP_BLK : Fld := ⟨0x130008, 16, 8⟩
def STOR_ERR_VERIFY_FAIL : Fld := ⟨0x130008, 8, 8⟩
def STOR_ERR_PROG_FAIL : Fld := ⟨0x130008, 0, 8⟩
/-! STOR_GEN (R417, 17_modes_boot_store.md). -/
def STOR_GEN_VALUE (p : Nat) : Fld := ⟨0x130040 + 0x4 * p, 0, 32⟩
/-! STOR_LEN (R417, 17_modes_boot_store.md). -/
def STOR_LEN_VALUE (p : Nat) : Fld := ⟨0x130060 + 0x4 * p, 0, 32⟩
/-! STOR_CRC (R417, 17_modes_boot_store.md). -/
def STOR_CRC_VALUE (p : Nat) : Fld := ⟨0x130080 + 0x4 * p, 0, 32⟩
/-! AON_ID (R418, 17_modes_boot_store.md). -/
def AON_ID_PART_NO : Fld := ⟨0x20100, 16, 16⟩
def AON_ID_STEP : Fld := ⟨0x20100, 8, 8⟩
/-! AON_MODE (R418, 17_modes_boot_store.md). -/
def AON_MODE_MODE : Fld := ⟨0x20104, 28, 4⟩
def AON_MODE_WAKE_CAUSE : Fld := ⟨0x20104, 24, 4⟩
def AON_MODE_LOCKED : Fld := ⟨0x20104, 23, 1⟩
def AON_MODE_DEV_CAUSE : Fld := ⟨0x20104, 19, 4⟩
def AON_MODE_ZLOCK : Fld := ⟨0x20104, 0, 16⟩
/-! AON_WAKECFG (R418, 17_modes_boot_store.md). -/
def AON_WAKECFG_MP_WAKE : Fld := ⟨0x20108, 1, 1⟩
def AON_WAKECFG_WAKEN_EN : Fld := ⟨0x20108, 0, 1⟩
/-! AON_PADCFG (R418, 17_modes_boot_store.md). -/
def AON_PADCFG_HELD : Fld := ⟨0x2010C, 16, 5⟩
def AON_PADCFG_REL : Fld := ⟨0x2010C, 8, 5⟩
def AON_PADCFG_LATCH : Fld := ⟨0x2010C, 0, 5⟩
/-! AON_UPTIME (R418, 17_modes_boot_store.md). -/
def AON_UPTIME_SECONDS : Fld := ⟨0x20110, 0, 32⟩
/-! AON_EVTLATCH (R418, 17_modes_boot_store.md). -/
def AON_EVTLATCH_RAIL : Fld := ⟨0x20114, 16, 4⟩
def AON_EVTLATCH_LATCHED : Fld := ⟨0x20114, 0, 8⟩
/-! CLK_STAT (R433, 18_clocks_resets.md). -/
def CLK_STAT_XTAL_OK : Fld := ⟨0x10000, 31, 1⟩
def CLK_STAT_XTAL_STOP : Fld := ⟨0x10000, 30, 1⟩
def CLK_STAT_SYS_SRC : Fld := ⟨0x10000, 29, 1⟩
def CLK_STAT_SEQ_SRC : Fld := ⟨0x10000, 28, 1⟩
def CLK_STAT_HOLDOVER : Fld := ⟨0x10000, 8, 7⟩
def CLK_STAT_LOCK : Fld := ⟨0x10000, 0, 7⟩
/-! CLK_SSC (R433, 18_clocks_resets.md). -/
def CLK_SSC_SSC_EN : Fld := ⟨0x10004, 7, 1⟩
def CLK_SSC_DEPTH : Fld := ⟨0x10004, 2, 2⟩
def CLK_SSC_RATE : Fld := ⟨0x10004, 0, 2⟩
/-! CLK_OUT (R433, 18_clocks_resets.md). -/
def CLK_OUT_DIV : Fld := ⟨0x10008, 8, 8⟩
def CLK_OUT_SRC : Fld := ⟨0x10008, 0, 3⟩
/-! CLK_MON (R433, 18_clocks_resets.md). -/
def CLK_MON_XAMP : Fld := ⟨0x1000C, 24, 8⟩
def CLK_MON_XLOW : Fld := ⟨0x1000C, 16, 8⟩
def CLK_MON_SAFE_DEV : Fld := ⟨0x1000C, 0, 16⟩
/-! CLK_EVT (R433, 18_clocks_resets.md). -/
def CLK_EVT_FORCED_CNT : Fld := ⟨0x10010, 24, 8⟩
def CLK_EVT_UNLOCK_CNT : Fld := ⟨0x10010, 16, 8⟩
def CLK_EVT_LAST_MUX : Fld := ⟨0x10010, 12, 4⟩
def CLK_EVT_LAST_PLL : Fld := ⟨0x10010, 8, 4⟩
def CLK_EVT_CNT_CLR : Fld := ⟨0x10010, 0, 1⟩
/-! SYS_RSTCTL (R434, 18_clocks_resets.md). -/
def SYS_RSTCTL_KEY : Fld := ⟨0x8, 8, 8⟩
def SYS_RSTCTL_DO : Fld := ⟨0x8, 0, 1⟩
/-! SYS_RSTCAUSE (R434, 18_clocks_resets.md). -/
def SYS_RSTCAUSE_RST_CNT : Fld := ⟨0xC, 8, 8⟩
def SYS_RSTCAUSE_LAST : Fld := ⟨0xC, 0, 4⟩
/-! EVT_INT (R442, 19_events_registers.md). -/
def EVT_INT_ASSERTED : Fld := ⟨0x30000, 0, 4⟩
/-! EVT_STAT (R442, 19_events_registers.md). -/
def EVT_STAT_CNT_CLR : Fld := ⟨0x30004, 31, 1⟩
def EVT_STAT_EVT_DROP : Fld := ⟨0x30004, 0, 24⟩
/-! EVT_PENDLO (R442, 19_events_registers.md). -/
def EVT_PENDLO_PEND (c : Nat) : Fld := ⟨0x30040 + 0x10 * c, 0, 32⟩
/-! EVT_PENDHI (R442, 19_events_registers.md). -/
def EVT_PENDHI_PEND (c : Nat) : Fld := ⟨0x30044 + 0x10 * c, 0, 32⟩
/-! EVT_MASKLO (R442, 19_events_registers.md). -/
def EVT_MASKLO_MASK (c : Nat) : Fld := ⟨0x30048 + 0x10 * c, 0, 32⟩
/-! EVT_MASKHI (R442, 19_events_registers.md). -/
def EVT_MASKHI_MASK (c : Nat) : Fld := ⟨0x3004C + 0x10 * c, 0, 32⟩
/-! EVT_INFO (R442, 19_events_registers.md). -/
def EVT_INFO_INFO (e : Nat) : Fld := ⟨0x30100 + 0x4 * e, 0, 32⟩
/-! EVT_CNT (R442, 19_events_registers.md). -/
def EVT_CNT_FRAME_LO (e : Nat) : Fld := ⟨0x30200 + 0x4 * e, 16, 16⟩
def EVT_CNT_COUNT (e : Nat) : Fld := ⟨0x30200 + 0x4 * e, 0, 16⟩
/-! SYS_ID (R446, 19_events_registers.md). -/
def SYS_ID_PART_NO : Fld := ⟨0x0, 16, 16⟩
def SYS_ID_STEP : Fld := ⟨0x0, 8, 8⟩
/-! SYS_MODE (R446, 19_events_registers.md). -/
def SYS_MODE_MODE : Fld := ⟨0x4, 28, 4⟩
def SYS_MODE_THERM_STOP : Fld := ⟨0x4, 27, 1⟩
def SYS_MODE_DEV_LOCK : Fld := ⟨0x4, 26, 1⟩

end F

end Sys2Proof.Machine
end

