-- ==== Sys2Proof/Machine/State.lean ====
section
/-! DEFINITION. The state of the LX2100 as plain data, the reasons a command could stop, and the state after
reset. Control registers stand in `regs` by their address; what the chapters describe beside the registers
stands in the structures below. -/

namespace Sys2Proof.Machine

/-- Faults of the model. The spec gives every command an effect in every state, so no meaning raises one. -/
inductive Fault where
  deriving DecidableEq, Repr

/-- Refusals. -/
inductive Refusal where
  /-- Raised only by an arm of exec whose command has no meaning yet. Safe: nothing is claimed of it. -/
  | notModelled (mnemonic : String)
  deriving DecidableEq, Repr

/-- The modes of R393. -/
inductive Mode where
  | off | sleep | wake | boot | calibrate | dark | lowlight | beam | simplex | hold | safeDark | service
  deriving DecidableEq, Repr

/-- Roles of a beam engine or harbourmaster (R297, ENGx_STAT.ROLE). -/
inductive Role where
  | offline | coldStarting | standby | active | failed
  deriving DecidableEq, Repr

/-- Berth states (R133, BRTH_TABn.STATE). -/
inductive BerthSt where
  | free | filling | ready | inFlight | retiring
  deriving DecidableEq, Repr

/-! ### Host traffic -/

/-- A pending event packet (R253). -/
structure EvtPkt where
  evt : Nat
  ovf : Bool
  ctx : Ctx
  frame : Word
  info : Word
  since : Nat
  deriving DecidableEq, Repr

/-- A pending response message (R265): its context and bytes. -/
structure RespPkt where
  ctx : Ctx
  bytes : List Byte
  deriving DecidableEq, Repr

/-- Return packets that wait on one interface (R252, R475). -/
structure OutQ where
  events : List EvtPkt := []
  resps : List RespPkt := []
  deriving DecidableEq, Repr

/-- A packet accepted into a queue buffer and not yet dispatched (R234, R272). -/
structure RxPkt where
  ctx : Ctx
  m : Bool
  bytes : List Byte
  env : HostEnv
  deriving DecidableEq, Repr

/-- One record of a response message (R265). -/
structure RespRec where
  code : Nat
  idx : Nat
  status : Nat
  final : Bool
  data : List Byte
  deriving DecidableEq, Repr

/-- A response message under assembly: `held` commands of its manifest still wait for a zero-fill (R129). -/
structure OpenResp where
  id : Nat
  ctx : Ctx
  m : Bool
  mseq : Word
  gap : Bool
  recs : List RespRec
  held : Nat
  deriving DecidableEq, Repr

/-- A command held by a zero-fill (R129), to be carried out when the fill ends. -/
structure Held where
  resp : Nat
  hdr : HostHdr
  code : Nat
  idx : Nat
  payload : List Byte
  deriving DecidableEq, Repr

/-- What waits for the response `resp` of a context to have been queued: ports to train anew (R257), a software reset
(R434), entry to SLEEP (R399). -/
structure AfterResp where
  resp : Nat
  ctx : Ctx
  ports : List Port
  reset : Bool
  sleep : Bool
  deriving DecidableEq, Repr

/-- The LONG commands that work on berths and the program store while they run. -/
inductive JobKind where
  | progLoad | hotSwap | storeWrite | storeRead
  deriving DecidableEq, Repr

/-- The work of a running LONG command: what it reads, `data` read so far (R208), and how far its operations on
the store have come (R413). -/
structure LongJob where
  kind : JobKind
  src : Option Nat           -- byte address in berth memory of what it reads
  len : Nat                  -- bytes to read or move
  want : Nat := 0            -- EXP_CRC
  part : Nat := 1
  bank : Nat := 0
  off : Nat := 0
  commit : Bool := false
  env : HostEnv := {}
  data : List Byte := []
  checked : Bool := false    -- read and found good
  erased : Nat := 0          -- sectors erased
  units : Nat := 0           -- 4 KiB units completed
  recorded : Bool := false   -- the commit record is written
  cold : Bool := false       -- an operation met a closed window (R390)
  deriving DecidableEq, Repr

/-- The running LONG command (R267); `final` is its final status and data once its work is done (R268), `job` the
work that is not done. -/
structure LongCmd where
  ctx : Ctx
  mseq : Word
  code : Nat
  idx : Nat
  since : Nat
  final : Option (Nat × List Byte)
  job : Option LongJob := none
  deriving DecidableEq, Repr

/-- A fade entry of a shadow set (R471). `carried`: the pending commit carries it. -/
structure FadeEntry where
  target : Nat
  frames : Nat
  log : Bool
  carried : Bool
  deriving DecidableEq, Repr

/-- A shadow set (R53, R471): RWS words by address (and the curve and polygon windows), layer entries (the 32
payload bytes of LAYER_SET; none: empty), fade entries by zone, PITCH and YAW as sent. -/
structure Shadow where
  words : Sparse (Option Word) := []
  layers : Sparse (List Byte) := []
  fades : Sparse (Option FadeEntry) := []
  pitchYaw : Option (Half × Half) := none
  deriving DecidableEq, Repr

/-- A pending set (R56). -/
structure Commit where
  applyFrame : Word
  targeted : Bool
  set : Shadow
  deriving DecidableEq, Repr

/-- A glare object entry (R217), as the 16 bytes say. -/
structure ObjEntry where
  bytes : List Byte
  deriving DecidableEq, Repr

/-- A tracked identity (R222): its shape entry, the cap in force, and a rise or release in progress from cap
`c0` at step `i` of `frames` towards `c1`. -/
structure Tracked where
  ent : ObjEntry
  cap : Nat
  c0 : Nat
  c1 : Nat
  i : Nat
  frames : Nat
  releasing : Bool
  applied : Bool
  poly : List Byte     -- the 16 bytes of its polygon as last applied (R220)
  deriving DecidableEq, Repr

/-- One context (R18). -/
structure CtxState where
  pend : BitVec 64 := 0
  mask : BitVec 64 := 0xFFFFFFFFFFFFFFFE
  ovf : Bool := false
  shadow : Shadow := {}
  commit : Option Commit := none
  objNew : Option (List ObjEntry) := none    -- accepted, not yet latched (R23)
  objList : List ObjEntry := []              -- latest latched list (R24)
  objFresh : Bool := false                   -- latched for the first time at the latest edge
  objApplied : List ObjEntry := []           -- entries R21 applied at the latest edge
  objDue : List Half := []                   -- identities of that list not yet judged (R222)
  polyBad : List Nat := []                   -- its entries now ignored for their polygon, by place (R218)
  lastApplied : Word := 0                    -- APPLY_FRAME of the last commit applied (SEQ_COMMITFRMc)
  tracked : List Tracked := []
  deriving DecidableEq, Repr

/-- One Ranfer port beside its registers (R239 to R256). -/
structure PortState where
  trained : Bool := false       -- step 1 of R239 has started before
  usedF : Half := 0             -- cumulative credits used, F queue (R250)
  usedM : Half := 0
  limF : Half := 0              -- cumulative limits advertised by STATUS
  limM : Half := 0
  lastSeq : Byte := 0           -- last SEQ accepted, carried by STATUS
  adapt : Bool := false         -- an ADAPT is pending
  retrainReq : Bool := false    -- it carries RETRAIN_REQ
  status : Bool := false        -- a STATUS is pending
  lowCnt : Vector Nat 2 := .replicate 2 0     -- consecutive low FOM readings per lane (R242)
  highCnt : Vector Nat 2 := .replicate 2 0
  fomArmed : Vector Bool 2 := .replicate 2 true
  reconfig : Bool := false      -- training restarts after the response (R257)
  retrainAfter : Option (Iface × Nat) := none   -- it restarts when this many responses have left the interface
  sent : List Block := []       -- latest blocks sent on the return lane
  deriving DecidableEq, Repr

/-- SPI target beside its registers (R275, R276). -/
structure SpiState where
  rxSeq : Byte := 0
  txSeq : Byte := 0
  discarded : Bool := false
  cutResp : Bool := false       -- a READ of the oldest response was ended early (R276)
  sent : List Byte := []        -- latest bytes returned on SPI_MISO
  deriving DecidableEq, Repr

/-- CAN FD controller beside its registers (R277 to R282). -/
structure CanState where
  rxSeq : Byte := 0
  txSeq : Byte := 0
  asm : Option (List Byte) := none   -- packet under assembly (R279)
  seg : Nat := 0                     -- next segment counter
  outF : Nat := 0                    -- manifests without immediate response, F queue (R280)
  outM : Nat := 0
  ctrl : Word := 0x18                -- timing and control in effect (R282)
  nbt : Word := 0x023F1010
  dbt : Word := 0x17D089F0
  sent : List Byte := []             -- data of the latest frames sent, and their identifier
  sentId : Nat := 0
  deriving DecidableEq, Repr

/-! ### Berths, latch and composition -/

/-- One berth table entry (R123 to R134). `zfill`: its zero-fill runs; `held`: commands that wait for it. -/
structure Berth where
  st : BerthSt := .free
  owner : Ctx := 0
  fence : Bool := false
  base : Nat := 0
  size : Nat := 0
  zfill : Bool := false
  held : List Held := []
  deriving DecidableEq, Repr

structure BerthState where
  tab : Vector Berth 64 := .replicate 64 {}
  mem : Sparse Byte := []                 -- berth memory by byte offset from 0x1000_0000
  poison : Sparse Nat := []               -- by 64-bit word: 1 poisoned, 2 poisoned and read (R124)
  owner : Vector (Option Ctx) 16 := .replicate 16 none    -- layer owners (R140)
  skipped : BitVec 16 := 0
  layers : Sparse (List Byte) := []       -- layer parameters in force
  latched : Vector (Option BerthNo) 16 := .replicate 16 none   -- berth each layer was latched with (R141)
  deriving DecidableEq, Repr

/-- A glare shape as latched for a frame: entry, cap and the polygon it names. -/
structure Shape where
  ent : ObjEntry
  cap : Nat
  poly : List Byte
  deriving DecidableEq, Repr

/-- A fade in progress (R226). -/
structure Fade where
  phi0 : Nat
  target : Nat
  frames : Nat
  i : Nat
  log : Bool
  ctx : Ctx
  all : Bool       -- its end is reported to every context (R313)
  deriving DecidableEq, Repr

/-- The inputs latched for the frame being composed, and the carried state of the fixed-function copies
(R214); both copies hold equal state, so it stands once. -/
structure FfnState where
  composing : Bool := false
  frm : Word := 0
  n : Nat := 16
  pitch : Half := 0
  yaw : Half := 0
  page : Sparse Byte := []                 -- the latch page (R151)
  shapes : List Shape := []
  phi : Vector Nat 16 := .replicate 16 65535
  fade : Vector (Option Fade) 16 := .replicate 16 none
  scale : Vector Nat 16 := .replicate 16 65535
  bypass : Sparse Byte := []               -- bypass bits latched (R229)
  failed : List Nat := []                  -- failed tiles latched
  curve : Sparse (Half) := []              -- monotonic custom table in force (R224)
  optics : Sparse Half := []               -- H[x] at x, V[y] at 2048 + y (R215)
  begun : Bool := false                    -- a composition started at the latest latch edge (R228)
  uniHit : Bool := false                   -- it read a poisoned uniformity word (R228)
  deriving DecidableEq, Repr

/-! ### Engines -/

/-- What a cluster is doing. -/
inductive Run where
  | idle                -- no routine (frame ended or engine not composing)
  | running
  | waitBar (i : Byte)  -- waits at barrier i (R150)
  | waitBuf             -- YIELD waits for a hand-off buffer (R148)
  deriving DecidableEq, Repr

/-- A tug queue entry (R155, R199); `berth` none: scratch to scratch. -/
structure Tug where
  dst : Nat
  src : Nat
  len : Nat
  berth : Option BerthNo
  deriving DecidableEq, Repr

/-- A full hand-off buffer (R148): rows of 64 lanes by row number. -/
structure Handoff where
  tile : Nat
  frm : Word
  rows : Sparse (Vector Half 64)
  deriving DecidableEq, Repr

/-- One cluster (R173). -/
structure ClusterState where
  v : Sparse (Vector Half 64) := []
  p : Sparse (BitVec 64) := []
  s : Sparse Word := []
  tile : Nat := 512
  frm : Word := 0
  pc : Nat := 0
  lastPc : Nat := 0
  run : Run := .idle
  pos : Nat := 0              -- tiles of the frame begun
  retired : Nat := 0          -- instructions retired in the routine (PROF)
  count : Nat := 0            -- the count of R159 (FRAME_ENTRY with the first tile)
  scratch : Sparse Byte := []
  tugs : List Tug := []
  buf : Sparse (Vector Half 64) := []
  full : List Handoff := []
  deriving DecidableEq, Repr

/-- A zone as the pack stage forms it (R231, R232): tiles packed, running CRC register, largest count of lit
pixels in a string. -/
structure ZonePack where
  tiles : Nat := 0
  crc : Word := 0xFFFFFFFF
  npeak : Nat := 0
  zcrc : Option Word := none
  deriving DecidableEq, Repr

/-- A forward lane's transmitter (R286): packed tiles that wait, tiles NAKed once this frame. -/
structure TxLane where
  wait : List (Nat × List Half) := []
  sent : List (Nat × List Half) := []
  naked : BitVec 32 := 0
  window : List Bool := []      -- errored windows of the last 256 frames, newest first (R293)
  clean : Nat := 0              -- clean windows while FAILED (R294)
  unlocked : Bool := false      -- it did not lock in the latest window (R293, R294)
  deriving DecidableEq, Repr

/-- One engine side (R145, R297). -/
structure EngineState where
  role : Role := .offline
  powered : Bool := false
  gated : Bool := false              -- its side's clocks are gated (R427)
  imgValid : Bool := false
  imgCrc : Word := 0
  codeWords : Nat := 0
  frameEntry : Nat := 0
  tileEntry : Nat := 0
  pm : Sparse Word := []
  cl : Vector ClusterState 8 := .replicate 8 {}
  bar : Sparse Byte := []            -- barrier arrivals: index to cluster bits
  served : Vector (List (Tug × List Byte)) 8 := .replicate 8 []   -- berth reads served to the other engine first (R158)
  ffNext : Nat := 0                  -- cluster the fixed-function stages take from next (R149)
  pack : Vector ZonePack 16 := .replicate 16 {}
  tx : Vector TxLane 16 := .replicate 16 {}
  tileLimit : Nat := 0               -- TILE_LIMIT while warming under HOT_SWAP; 0: ENGx_BUDGET (R212)
  peak : Nat := 0                    -- largest count of the running frame and its tile (ENGx_PEAK)
  peakTile : Nat := 0
  deriving DecidableEq, Repr

/-! ### The emitter stack and tile links -/

/-- One zone's back buffer (R285, R289, R291). -/
structure ZoneBack where
  frm : Option Word := none
  icode : Byte := 0
  tiles : Sparse (List Half) := []     -- by tile within zone
  light : Sparse (List Nat) := []      -- by tile: its sum and four window maxima (R332)
  zend : Option (Word × Word) := none  -- FRM and CRC of the ZEND received
  zcrcSent : Bool := false
  deriving DecidableEq, Repr

/-- A LIGHT record as Breakwater holds it (R332, R333). -/
structure Light where
  frm : Half := 0
  zsum : Nat := 0
  icode : Nat := 0
  wmax : List Nat := [0, 0, 0, 0]
  deriving DecidableEq, Repr

/-- What the stack knows of a FAULT record it sends beside the record's own bytes (R357): whether the in-service
test found it, and the cause of R354. DESIGN CHOICE: log 109. -/
structure FaultNote where
  kind : Nat
  s : Nat
  k : Nat
  cause : Nat
  ist : Bool
  deriving DecidableEq, Repr

structure StackState where
  powered : Bool := false
  front : Sparse (List Half) := []     -- codes in force, by tile of R37
  frontFrm : Word := 0
  frontSlotUnits : Nat := 0            -- A_k of the displayed frame as the stack times it, in 10 ns / 256
  slotMeasured : Nat := 0              -- slot time as measured over the previous frame (R87), in 10 ns / 2^24
  sclkLost : Bool := false             -- the slot clock is absent (R87)
  n : Nat := 16                        -- resolution of the displayed frame
  back : Vector ZoneBack 16 := .replicate 16 {}
  bypass : Sparse Byte := []           -- bypass bits, by string
  failedStr : List Nat := []           -- failed strings (class 0b11)
  tileState : Sparse Nat := []         -- tile states, as DIAG_TSTATn
  trim : Sparse Byte := []             -- stored trims (R76)
  trimEff : Sparse Byte := []          -- trims the current sources use
  icode : Vector Nat 16 := .replicate 16 0x18   -- ICODE displayed
  spread : Nat := 0                    -- spread mode displayed
  nallow : Vector Nat 16 := .replicate 16 8     -- n_allow displayed (R104)
  orders : Vector (Option OrderBlock) 16 := .replicate 16 none
  shorten : Sparse Nat := []           -- slots taken off a pixel's code in the displayed frame (R360)
  istPixels : List Nat := []           -- pixels lit by the latest in-service test
  ist : List (Nat × Nat × IstReading) := []     -- string within tile, position, reading of the latest test
  istDue : List (Nat × Nat × IstReading) := []  -- tests of this guard window whose verdict is due (R359)
  noSense : Sparse Nat := []           -- strings that tripped without a sense, by frame + 1 (R354)
  rbPend : List ReadbackSense := []    -- read-back mismatches of the previous sample (R362)
  rtn : Vector (List Record) 2 := .replicate 2 []   -- records on their way on RTN0 and RTN1
  notes : List FaultNote := []         -- of FAULT records not yet taken by the DIAG block
  localTick : Bool := false            -- ticks timed by the stack itself (R85)
  deriving DecidableEq, Repr

/-- Completion as the controller die judges it, per return lane and zone (R26, R291). -/
structure TlinkState where
  acked : Vector (Vector (BitVec 32) 16) 2 := .replicate 2 (.replicate 16 0)
  mtch : Vector (Vector Bool 16) 2 := .replicate 2 (.replicate 16 false)
  rtnErrs : Vector Nat 2 := .replicate 2 0       -- record CRC errors in the running frame
  rtnClean : Vector Nat 2 := .replicate 2 0
  selB : Bool := false                 -- side select as the stack samples it
  failover : Bool := false             -- failover qualifier of the coming tick
  newSel : Bool := false               -- the side select has changed and no guard window has come since (R295)
  deriving DecidableEq, Repr

/-! ### Rails, duplex, safety, diagnostics, calibration, thermal, clocks, store, power -/

/-- A VOUT_COMMAND under way (R101): millivolts written, whether acknowledged, and whether upward. -/
structure RailWrite where
  mv : Nat
  acked : Bool
  up : Bool
  late : Bool        -- its 1 ms has passed
  dropped : Bool := false   -- its transaction was abandoned: it is not sent any more (R109)
  deriving DecidableEq, Repr

/-- Sequences that bring a zone's output up (R95, R116, R119, R370). -/
inductive RailSeq where
  | none | bringup | release | retry
  deriving DecidableEq, Repr

/-- How far a sequence has come: it waits for the zones before it on its bus, its CLEAR_FAULTS or its VOUT_COMMAND
is queued, it polls (R95, R110, R116, R119), or one of its transactions was abandoned and it waits for its limit
(R109). -/
inductive SeqStage where
  | waits | clear | write | poll | dropped
  deriving DecidableEq, Repr

/-- One zone's regulator and rail beside its registers (R97 to R119). -/
structure ZoneRail where
  wr : Option RailWrite := none
  vrd : Option Nat := none             -- latest READ_VOUT after the write, 1/4,096 V (R103)
  npeak : Nat := 0
  reqDisp : Nat := 300                 -- V_req of the displayed frame, 20 mV (R100)
  reqNext : Option Nat := none         -- V_req of the frame in composition, when known
  upFails : Nat := 0
  fail48 : Nat := 0
  faulty : Bool := false
  exp : Int := -9                      -- exponent from VOUT_MODE (R108)
  seq : RailSeq := .none
  stage : SeqStage := .waits           -- of the sequence `seq`
  up : Bool := false                   -- in service: its output has been verified (R119)
  pgood : Bool := false                -- POWER_GOOD# clear seen in the sequence
  reqA : Bool := false                 -- harbourmaster requests cut path (a) on
  reqB : Bool := false
  exempt : Bool := false               -- window of R114
  iout : Half := 0                     -- latest READ_IOUT, LINEAR11 (R107)
  movedFrom : Nat := 0                 -- target before a downward move, 20 mV (R117); 0: none
  retryAt : Nat := 0
  back : Bool := false                 -- returns to service at the next tick (R116, R119)
  deriving DecidableEq, Repr

/-- The PMBus transaction a bus repeats (R109): its target, command code and failed attempts. -/
structure PmReq where
  target : PmTarget
  code : Nat
  fails : Nat
  deriving DecidableEq, Repr

structure RailState where
  z : Vector ZoneRail 16 := .replicate 16 {}
  bus : Vector (Option PmReq) 3 := .replicate 3 none
  queued : Vector (List PmReq) 3 := .replicate 3 []   -- what waited when a bus last chose its next transaction (R110)
  chosen : Vector Nat 3 := .replicate 3 0             -- and the time of that choice
  ioutNext : Vector (Fin 8) 2 := .replicate 2 0       -- zone of the bus that READ_IOUT reads next (R107)
  ioutDone : Vector Bool 2 := .replicate 2 false      -- READ_IOUT of this frame made
  logicStep : Nat := 0                 -- step of R120 of the rail being requested: VOUT_MODE, VOUT_COMMAND, OPERATION, polls
  logicExp : Vector Int 8 := .replicate 8 (-9)
  logicBad : BitVec 8 := 0             -- logic rails whose fault has been taken and still shows (R121, R339)
  logicPg : BitVec 8 := 0              -- POWER_GOOD# clear seen, per logic rail at WAKE
  statusDue : List PmTarget := []      -- STATUS_WORD reads queued by an alert (R107, R110)
  voutDue : List PmTarget := []        -- STATUS_VOUT reads queued by a VOUT fault (R107)
  deriving DecidableEq, Repr

/-- One beacon path of a unit (R300, R301). -/
structure BeaconPath where
  last : Option Byte := none
  good : Nat := 0
  missing : Bool := false
  deriving DecidableEq, Repr

/-- What follows a self-test (R307, R312, R318). -/
inductive TestPlan where
  | none | recover | arbStandby | arbOldActive
  deriving DecidableEq, Repr

/-- HOT_SWAP under way (R212). -/
structure HotSwap where
  newSide : Side
  warm : Nat
  tl : Nat
  crc : Word
  len : Nat
  ctx : Ctx
  step : Nat          -- the step of R212 reached: 1 (the store write runs), 2 (written), 3, 4 (warming), 8
  warmed : Nat        -- warm frames composed
  committed : Bool
  deriving DecidableEq, Repr

structure DplxState where
  hmA : Role := .active
  hmB : Role := .standby
  bus : Vector BeaconPath 4 := .replicate 4 {}
  wire : Vector BeaconPath 4 := .replicate 4 {}
  fo : Option Nat := none              -- failover recognised, cause (R304)
  swap : Bool := false                 -- controlled swap requested (R306)
  swapTest : Bool := false             -- the old active is self-tested after the swap (R307)
  plan : Vector TestPlan 4 := .replicate 4 .none
  testing : BitVec 4 := 0              -- units in self-test
  loading : BitVec 4 := 0              -- units in cold start
  rsUnit : Option UnitNo := none       -- unit under resynchronisation
  rsDone : Bool := false               -- an engine's final phase is done: STANDBY at the next latch edge (R310)
  rsAgain : List UnitNo := []          -- resynchronisations that restart 1 s after their abort, oldest first (R311)
  rsQueue : List UnitNo := []          -- units that wait for the copier, which serves one at a time
  relockWait : List (UnitNo × Bool) := []   -- recoveries that wait for their side's clocks: by an attempt of the unit (R427)
  mmStart : Word := 0                  -- FRM of the mismatch that started the window
  mmResync : Bool := false             -- standby leaves STANDBY at the next tick (R307 step 1, R320)
  hold3 : Option Side := none          -- engine started under R313 and R314
  sigDiff : Nat := 0                   -- consecutive STATE_SIG differences (R318)
  sigA : Option (Byte × Nat) := none            -- signatures of the beacon pair under way
  sigB : Option (Byte × Nat) := none
  sigAt : Option Nat := none           -- time of the last resynchronisation for R318
  hot : Option HotSwap := none
  progLoad : Bool := false             -- engines loaded by PROG_LOAD take their roles at the next tick (R209)
  deriving DecidableEq, Repr

structure SafeState where
  lastUptime : Nat := 0
  cntA : Int := 0                      -- consecutive samples: positive active, negative inactive (R340)
  cntB : Int := 0
  inhCut : Bool := false
  held : Vector (List Light) 16 := .replicate 16 []     -- LIGHT records held per zone (R333)
  shown : Vector Light 16 := .replicate 16 {}
  seen : BitVec 16 := 0xFFFF           -- zones with a record for the displayed frame
  blind : BitVec 16 := 0
  gwCut : BitVec 16 := 0
  coreGw : BitVec 16 := 0              -- zones that the safety core's own glare verdict cuts (R330)
  gwEn : Nat := 0                      -- GW_EN in force at the latest tick (R335)
  strapLock : Option Half := none      -- word of the latest strap lock-out (R327)
  faultTimes : List Nat := []          -- times of safety core faults (R346)
  qAt : Nat := 0                       -- time Q was published (R331)
  cmpRun : Nat := 0                    -- consecutive ticks at which the channels differed, up to 2 (R330)
  coreVerdict : BitVec 21 := 0         -- verdicts of the safety core at the latest tick in legacy mode (R330)
  selfBad : Bool := false              -- the self-check differed at the previous tick (R345)
  oscStop : Bool := false              -- stop detector of R428
  okLevel : Bool := false              -- SAFE_OK level
  optFail : BitVec 32 := 0             -- first failures pending retry: bit z path (a), bit 16 + z path (b)
  optDue : List (Nat × Word) := []     -- retried and deferred tests: path as in optFail, frame (R342, R343)
  optAt : List (Zone × Word) := []     -- off pulses of the latest frame that had one: zone and frame (R362)
  ev36 : Option Half := none           -- event 36 held until the end of BOOT (R326)
  devBad : Nat := 0                    -- consecutive clock monitor windows beyond ±5 % (R428)
  cfgBad : Bool := false               -- safety configuration block invalid (R329)
  sealByte : Byte := 0
  cfgFlags : Byte := 0
  molKeys : List (Nat × Nat) := []     -- Molia keys of the checked block (R203)
  deriving DecidableEq, Repr

structure DiagState where
  map : Sparse Byte := []              -- pixel map by byte offset (R367)
  tiles : Sparse Nat := []             -- tile states as reported, by tile (DIAG_TSTATn)
  limited : List Nat := []             -- events 40, 41, 42, 45 raised in this tick interval (R357)
  ecc22 : BitVec 4 := 0                -- contexts that had event 22 in this interval (R439)
  limitMs : Nat := 0                   -- the interval of 1 ms that `limited` and `ecc22` belong to while stopped (R439)
  frzMism : Vector Nat 16 := .replicate 16 0
  frzMatch : Vector Nat 16 := .replicate 16 0
  frzTimes : Vector (List Nat) 16 := .replicate 16 []
  frzKept : BitVec 16 := 0             -- zones kept cut until DARK (R364)
  frzCut : BitVec 16 := 0              -- zones whose requests the freeze detector has withdrawn (R364)
  unread : Vector Nat 16 := .replicate 16 0
  zcrcShown : Vector (Option Word) 16 := .replicate 16 none    -- ZCRC of the displayed frame (R363)
  zcrcNext : Vector (Option Word) 16 := .replicate 16 none
  skip : Nat := 0                      -- tile tests skipped in the running cycle (R361)
  cycles : Nat := 0                    -- cycles completed, which event 46 gives modulo 65,536 (R357)
  deriving DecidableEq, Repr

structure CalState where
  prev : Sparse Byte := []             -- trims at entry (R377)
  work : Sparse Byte := []             -- searched trims held in the tiles
  done : List Nat := []                -- tiles calibrated
  vf : Vector Nat 16 := .replicate 16 0        -- largest VFMAX per zone
  tCal : Vector Int 16 := .replicate 16 25     -- junction estimate at step 4, °C
  impl : Vector Nat 16 := .replicate 16 0
  kept : List Nat := []
  zone : Option Zone := none           -- zone of a running CAL_ZONE
  dark : Bool := false                 -- its T_a has fallen: the zone is shipped dark (R381)
  held : Option (Nat × Nat × Nat) := none   -- VF_CAL, T_CAL and ICODE_CAL before its step 4 (R379)
  committed : Bool := false            -- CAL_ZONE has committed its trims (step 5)
  ready : Bool := false                -- CAL_ZONE has every record it waits for (step 4)
  asked : List (Zone × Nat × Nat) := []        -- ADC requests not yet answered: zone, tile within zone, code
  deriving DecidableEq, Repr

structure ThermState where
  tj : Vector Int 16 := .replicate 16 0        -- 1/1,024 °C (R384)
  tb : Vector Int 16 := .replicate 16 0
  padGood : Int := 0                   -- last valid pad reading, 0.1 °C
  padPrev : Int := 0
  padRun : Nat := 0                    -- consecutive valid readings
  dieRun : Nat := 0
  dieValid : Bool := true
  stopDue : Bool := false              -- a thermal stop takes effect at the next tick (R388)
  deriving DecidableEq, Repr

structure ClkState where
  ampArmed : Bool := true
  sscInForce : Word := 0x5
  relock : BitVec 7 := 0               -- loops in holdover that relock at guard windows (R427)
  slotBack : Bool := false             -- SLOTPLL takes over at the next guard window
  deriving DecidableEq, Repr

/-- SEQ beside its registers (R39 to R68). -/
structure SeqState where
  running : Bool := false
  due : Nat := 0                       -- exact time of the next tick, 10 ns / 256 (R41)
  edge : Nat := 0                      -- time of the latest tick, 10 ns
  started : Bool := false              -- T_0 has fallen since the sequencer started (R42)
  order : Option (Vector (Option OrderBlock) 16) := none   -- the orders sent for the coming tick, by lane (R288, R290)
  swap : Bool := false                 -- it is SWAP
  darkmask : Half := 0
  aborted : Bool := false              -- the frame in composition is aborted (R61)
  prevAborted : Bool := false
  nallow : Vector Nat 16 := .replicate 16 8
  lastEdge : Option Nat := none        -- FSYNC_IN (R47)
  intervals : List Nat := []           -- latest measured intervals, newest first, 10 ns
  pAcq : Nat := 0                      -- four times P_acq (R48), 10 ns
  tracked : Nat := 0                   -- tracked interval, 10 ns / 256
  missed : Nat := 0
  gotEdge : Bool := false
  outside : Nat := 0
  hold64 : Nat := 0
  toRate : Bool := false               -- moving back to RATE at 1 % (R48)
  fsyncOut : Option Nat := none        -- T_k + FSO_DELAY of the latest tick (R51)
  wasLowlight : Bool := false
  third : Bool := false                -- the third consecutive frame is aborted: HOLD at the next tick (R66)
  deriving DecidableEq, Repr

/-- What a MODE_REQ waits for (R397). -/
structure ModeReq where
  target : Mode
  ctx : Ctx
  deriving DecidableEq, Repr

/-- How HOLD was entered (R398). -/
inductive HoldKind where
  | none | underrun | engine | hotSwap | hm
  deriving DecidableEq, Repr

structure PwrState where
  mode : Mode := .sleep
  req : Option ModeReq := none
  hold : HoldKind := .none
  holdFrom : Mode := .dark
  holdStay : Bool := false             -- not left (R398)
  shownSince : Option Nat := none      -- frames shipped since the end of the last underrun HOLD
  wakeAt : Nat := 0
  railsUp : Nat := 0                   -- logic rails on at WAKE
  upFrom : Nat := 0                    -- time VDD_AON rose (AON_UPTIME)
  brownOut : Bool := false             -- the always-on domain has not recovered (R403)
  inReset : Bool := false              -- a RESET_N or software reset runs (R430)
  swReset : Bool := false              -- a software reset starts after the response (R434)
  clamped : Bool := true               -- pad groups are clamped until the end of WAKE (R405)
  padCap : BitVec 5 := 0               -- groups with a captured level (R405)
  padLevel : BitVec 8 := 0             -- captured levels: INT_N[3:0], SPI_MISO, CAN_TX, FSYNC_OUT, CLKOUT
  mpAddr : BitVec 2 := 0               -- MP_ADDR pins
  mpSent : List Byte := []             -- latest bytes the mooring port sent; empty: NACK
  mpAck : Bool := true
  logicOps : List (Fin 8 × Byte) := []   -- OPERATION writes to the logic rails since WAKE or SLEEP began (R120, R399)
  simplexWait : Bool := false          -- SIMPLEX returns to BEAM when the MODE_REQ ends (R316)
  svcMask : Half := 0                  -- SVC_ZMASK in force
  bootDue : Bool := false              -- BOOT is to run: after WAKE, and again after R408
  deriving DecidableEq, Repr

structure StoreState where
  mem : Sparse Byte := []              -- the program store by offset; unlisted bytes read as erased
  cfgSkip : List Nat := []             -- GEN of records CFG_RECOVER wrote since all supplies were absent (R415)
  jtagWord : Nat := 0                  -- next word of CFG_RECOVER (R415)
  jtagDone : Bool := false
  jtagFail : Bool := false
  jtagOut : Word := 0
  deriving DecidableEq, Repr

structure State where
  /-- The commands that wait, first in first out. -/
  pending : List Instr
  /-- Time in 10 ns since power-on (assumption 2). -/
  now : Nat := 0
  /-- How many free values have been taken (assumption 3). -/
  free : Nat := 0
  /-- The control registers by address. -/
  regs : Sparse Word := []
  /-- Events raised in the running cycle and not yet handled (R436): number, INFO, contexts. -/
  raised : List (Nat × Word × List Ctx) := []
  /-- The word each register held before its latest change (R15). -/
  old : Sparse Word := []
  pwr : PwrState := {}
  seq : SeqState := {}
  ctx : Vector CtxState 4 := .replicate 4 {}
  port : Vector PortState 2 := .replicate 2 {}
  spi : SpiState := {}
  can : CanState := {}
  outq : Vector OutQ 4 := .replicate 4 {}
  rxF : Vector (List RxPkt) 4 := .replicate 4 []
  rxM : Vector (List RxPkt) 4 := .replicate 4 []
  opens : List OpenResp := []
  /-- What waits for open responses. -/
  after : List AfterResp := []
  /-- Final records that wait until their context has room for them (R268, R272). -/
  finals : List RespPkt := []
  nextId : Nat := 0
  long : Option LongCmd := none
  br : BerthState := {}
  ffn : FfnState := {}
  engA : EngineState := {}
  engB : EngineState := {}
  stk : StackState := {}
  tl : TlinkState := {}
  rail : RailState := {}
  dplx : DplxState := {}
  safe : SafeState := {}
  diag : DiagState := {}
  cal : CalState := {}
  therm : ThermState := {}
  clk : ClkState := {}
  store : StoreState := {}
  deriving DecidableEq, Repr

/-- The machine right after reset: VDD_AON has risen (R430, R418), the mode is SLEEP, every register holds its
reset value (R14), nothing waits. DESIGN CHOICE: log 5. -/
def State.reset : State := { pending := [] }

end Sys2Proof.Machine
end

