-- ==== Sys2Proof/Machine/Ops.lean ====
section
/-! DEFINITION. Operations every family uses: registers and fields, free values, contexts and interfaces, engines,
and raising events. -/

namespace Sys2Proof.Machine

abbrev Out := Host.Outcome State Fault Refusal

/-! ### Registers -/

/-- The stored word of the control register at address `a`. -/
def State.reg (s : State) (a : Nat) : Word := Sparse.get regReset s.regs a

/-- Store a control register; the word it held stays for mixed reads (R15). -/
def State.setReg (s : State) (a : Nat) (w : Word) : State :=
  { s with regs := Sparse.put regReset s.regs a w, old := Sparse.put regReset s.old a (s.reg a) }

/-- A register field. -/
def State.fld (s : State) (f : Fld) : Nat := f.ofWord (s.reg f.addr)

/-- Set a register field, modulo 2^width. -/
def State.setFld (f : Fld) (v : Nat) (s : State) : State := s.setReg f.addr (f.into (s.reg f.addr) v)

/-- Set a field to a signed value in two's complement. -/
def State.setFldI (f : Fld) (v : Int) (s : State) : State := s.setFld f (v.emod (2 ^ f.width)).toNat

/-- Set a one-bit field. -/
def State.setBit (f : Fld) (b : Bool) (s : State) : State := s.setFld f b.toNat

/-- Count by `n` in a field that saturates at its largest value. -/
def State.addFld (f : Fld) (n : Nat) (s : State) : State := s.setFld f (min (s.fld f + n) (2 ^ f.width - 1))

/-- Count by one in a saturating field. -/
def State.inc (f : Fld) (s : State) : State := s.addFld f 1

/-- Count by one in a field that wraps. -/
def State.incWrap (f : Fld) (s : State) : State := s.setFld f (s.fld f + 1)

/-- A one-bit field as a Bool. -/
def State.bit (s : State) (f : Fld) : Bool := s.fld f = 1

/-- A field read as two's complement. -/
def State.fldI (s : State) (f : Fld) : Int := signed f.width (s.fld f)

/-- Do `f` if `b`. -/
def State.when (b : Bool) (f : State → State) (s : State) : State := if b then f s else s

/-- Fold a state change over a list. -/
def State.forEach {α : Type} (l : List α) (f : α → State → State) (s : State) : State :=
  l.foldl (fun s a => f a s) s

/-! ### Free values (assumption 3) -/

/-- A value the spec leaves open. DESIGN CHOICE: log 3. -/
def State.draw (s : State) : Word × State := (Config.free s.free, { s with free := s.free + 1 })

/-! ### Modes -/

/-- Mode codes (R393). -/
def Mode.code : Mode → Nat
  | .off => 0 | .sleep => 1 | .wake => 2 | .boot => 3 | .calibrate => 4 | .dark => 5 | .lowlight => 6
  | .beam => 7 | .simplex => 8 | .hold => 9 | .safeDark => 10 | .service => 11

/-- Modes in which the sequencer ticks (R42). -/
def Mode.ticks : Mode → Bool
  | .dark | .lowlight | .beam | .simplex | .hold | .safeDark | .service => true
  | _ => false

/-- Modes in which zones emit: LOWLIGHT, BEAM and SIMPLEX. -/
def Mode.isBeam : Mode → Bool
  | .lowlight | .beam | .simplex => true
  | _ => false

/-- Modes in which the controller die is powered: BOOT and every later mode. -/
def Mode.dieOn : Mode → Bool
  | .off | .sleep | .wake => false
  | _ => true

def State.mode (s : State) : Mode := s.pwr.mode

/-- DARK and SERVICE, the modes in which most configuration fields accept writes. -/
def State.darkOrService (s : State) : Bool := s.mode == .dark || s.mode == .service

/-- Seconds since VDD_AON rose (AON_UPTIME). -/
def State.uptime (s : State) : Nat := (s.now - s.pwr.upFrom) / 100000000 % 2 ^ 32

/-! ### Clock loops (CLK_STAT, R427) -/

def pllLocked (s : State) (i : Nat) : Bool := (s.fld F.CLK_STAT_LOCK).testBit i
def pllHeld (s : State) (i : Nat) : Bool := (s.fld F.CLK_STAT_HOLDOVER).testBit i

/-! ### Contexts and interfaces -/

def ifaceCode : Iface → Nat
  | .portA => 0 | .portB => 1 | .spi => 2 | .can => 3

def ifaceIx (i : Iface) : Fin 4 :=
  match i with
  | .portA => 0 | .portB => 1 | .spi => 2 | .can => 3

def ifaceOfPort (p : Port) : Iface := if p = 0 then .portA else .portB

def allCtx : List Ctx := [0, 1, 2, 3]

def allZones : List Zone := List.finRange 16

def allClusters : List Cluster := List.finRange 8

/-- The interface a context is bound to (HCTX_BIND, R18). -/
def State.ifaceOf (s : State) (c : Ctx) : Option Iface :=
  match bitsOf (s.reg 0x40000).toNat (3 * c + 2) (3 * c) with
  | 1 => some .portA
  | 2 => some .portB
  | 3 => some .spi
  | 4 => some .can
  | _ => none

def State.bound (s : State) (c : Ctx) : Bool := (s.ifaceOf c).isSome

/-- The bound contexts, which "every context" of an event names (R435). -/
def State.everyCtx (s : State) : List Ctx := allCtx.filter s.bound

/-- The contexts bound to one interface. -/
def State.ctxsOn (s : State) (i : Iface) : List Ctx := allCtx.filter fun c => s.ifaceOf c == some i

def State.updCtx (c : Ctx) (f : CtxState → CtxState) (s : State) : State :=
  { s with ctx := s.ctx.set c (f s.ctx[c]) }

/-- Change the return queue of an interface. -/
def State.updOut (i : Iface) (f : OutQ → OutQ) (s : State) : State :=
  { s with outq := s.outq.set (ifaceIx i) (f s.outq[ifaceIx i]) }

def State.updPort (p : Port) (f : PortState → PortState) (s : State) : State :=
  { s with port := s.port.set p (f s.port[p]) }

/-! ### Engines and harbourmasters -/

def otherSide : Side → Side
  | .a => .b | .b => .a

def sideIx : Side → Nat
  | .a => 0 | .b => 1

def sides : List Side := [.a, .b]

def State.eng (s : State) : Side → EngineState
  | .a => s.engA
  | .b => s.engB

def State.updEng (e : Side) (f : EngineState → EngineState) (s : State) : State :=
  match e with
  | .a => { s with engA := f s.engA }
  | .b => { s with engB := f s.engB }

def State.setRole (e : Side) (r : Role) (s : State) : State := s.updEng e fun g => { g with role := r }

/-- The engine whose role is `r`, if one has it. -/
def State.withRole (s : State) (r : Role) : Option Side := sides.find? fun e => (s.eng e).role == r

/-- The ACTIVE engine. -/
def State.active (s : State) : Option Side := s.withRole .active

/-- Role codes of ENGx_STAT.ROLE. -/
def Role.code : Role → Nat
  | .offline => 1 | .coldStarting => 2 | .standby => 3 | .active => 4 | .failed => 5

def State.updCl (e : Side) (c : Cluster) (f : ClusterState → ClusterState) (s : State) : State :=
  s.updEng e fun g => { g with cl := g.cl.set c (f g.cl[c]) }

/-- The side the stack is sent codes and orders from (DPLX_STAT.ACT_ENG as long as no engine is ACTIVE). -/
def State.actSide (s : State) : Side := if s.bit F.DPLX_STAT_ACT_ENG then .b else .a

def unitIx : UnitNo → Fin 4
  | .beA => 0 | .beB => 1 | .hmA => 2 | .hmB => 3

def unitOfSide : Side → UnitNo
  | .a => .beA | .b => .beB

def unitSide : UnitNo → Option Side
  | .beA => some .a
  | .beB => some .b
  | _ => none

/-! ### Zones -/

def State.updRail (z : Zone) (f : ZoneRail → ZoneRail) (s : State) : State :=
  { s with rail := { s.rail with z := s.rail.z.set z (f s.rail.z[z]) } }

/-- The zone that shares a crossover switch with `z` (R92). -/
def partner (z : Zone) : Zone := Fin.ofNat 16 (if z.val % 2 = 0 then z.val + 1 else z.val - 1)

/-- A 16-bit mask of the zones for which `p` holds. -/
def zmask (p : Zone → Bool) : Nat := allZones.foldl (fun m z => if p z then m + 2 ^ z.val else m) 0

/-! ### Events (R435 to R440) -/

/-- Bit of AON_EVTLATCH.LATCHED that records event `e` (R440). -/
def latchBit : Nat → Option Nat
  | 14 => some 0 | 33 => some 1 | 53 => some 2 | 54 => some 3
  | 55 => some 4 | 61 => some 5 | 62 => some 6 | 63 => some 7
  | _ => none

/-- Record event `e` in AON_EVTLATCH while VDD_AON is present (R440). DEDUCED: log 58. -/
def latchEvt (e : Nat) (s : State) : State :=
  match latchBit e with
  | none => s
  | some b =>
    if s.mode == .off || s.pwr.brownOut then s
    else s.setFld F.AON_EVTLATCH_LATCHED (s.fld F.AON_EVTLATCH_LATCHED ||| 2 ^ b)

/-- Raise event `e` with INFO to the contexts of `dst`; it is handled at the end of the cycle (R436). While the
controller die is not powered an event is only recorded in AON_EVTLATCH. DEDUCED: log 80. -/
def raiseTo (e : Nat) (info : Nat) (dst : List Ctx) (s : State) : State :=
  if s.mode.dieOn then { latchEvt e s with raised := s.raised ++ [(e, BitVec.ofNat 32 info, dst)] }
  else latchEvt e s

/-- Raise an event to every context. -/
def raiseAll (e info : Nat) (s : State) : State := raiseTo e info s.everyCtx s

/-- SEQ_SINCE: SEQCLK periods since the latest tick. -/
def State.since (s : State) : Nat := if s.seq.running then (s.now - s.seq.edge) % 2 ^ 24 else 0

/-- EVT_DROP of context `c` in EVT_STAT (SPI and CAN FD, R437). -/
def evtDrop (c : Ctx) : Fld := ⟨0x30004, 6 * c, 6⟩

/-- Queue an event packet for context `c` on its interface: up to 32 wait, then it is dropped and counted, and
the next one carries OVF (R254, R437). -/
def queueEvent (e : Nat) (info : Word) (c : Ctx) (s : State) : State :=
  match s.ifaceOf c with
  | none => s
  | some i =>
    let depth := match i with
      | .portA | .portB => (s.outq[ifaceIx i]).events.length
      | _ => ((s.outq[ifaceIx i]).events.filter fun p => p.ctx == c).length
    if depth < 32 then
      let pkt : EvtPkt := { evt := e, ovf := (s.ctx[c]).ovf, ctx := c, frame := s.reg F.SEQ_FRAME_FRAME.addr,
                            info := info, since := s.since }
      (s.updOut i fun q => { q with events := q.events ++ [pkt] }).updCtx c fun k => { k with ovf := false }
    else
      let s := s.updCtx c fun k => { k with ovf := true }
      match i with
      | .portA => s.inc (F.LINK_EVTQ_EVT_DROP 0)
      | .portB => s.inc (F.LINK_EVTQ_EVT_DROP 1)
      | _ => s.inc (evtDrop c)

/-- One raise in the event controller (R435). DEDUCED: log 80. -/
def handleRaise (r : Nat × Word × List Ctx) (s : State) : State :=
  let (e, info, dst) := r
  let s := s.setReg (0x30100 + 4 * e) info
  let s := (s.inc (F.EVT_CNT_COUNT e)).setFld (F.EVT_CNT_FRAME_LO e) (s.fld F.SEQ_FRAME_FRAME)
  s.forEach (dst.filter s.bound) fun c s =>
    let s := s.updCtx c fun k => { k with pend := k.pend ||| BitVec.ofNat 64 (2 ^ e) }
    if (s.ctx[c]).mask.getLsbD e then queueEvent e info c s else s

/-- Insert a raise behind those of the same or a lower event number. DEDUCED: log 80. -/
def insertRaise (r : Nat × Word × List Ctx) : List (Nat × Word × List Ctx) → List (Nat × Word × List Ctx)
  | [] => [r]
  | q :: qs => if r.1 < q.1 then r :: q :: qs else q :: insertRaise r qs

/-- Handle the raises of the cycle in ascending event number (R436). DEDUCED: log 80. -/
def flushEvents (s : State) : State :=
  let rs := s.raised.foldl (fun l r => insertRaise r l) []
  ({ s with raised := [] } : State).forEach rs handleRaise

/-- While the sequencer is stopped a tick interval is 1 ms for the limits of R439; the intervals follow one another from
time 0. DESIGN CHOICE: log 159. -/
def limitInterval (s : State) : State :=
  let ms := s.now / 100000
  if s.seq.running || s.diag.limitMs = ms then s
  else { s with diag := { s.diag with limited := [], ecc22 := 0, limitMs := ms } }

/-! ### Rounding -/

/-- n / d rounded to nearest, halves up, for d > 0. -/
def divRound (n : Int) (d : Nat) : Int := (2 * n + d).fdiv (2 * d)

/-- n / d rounded to nearest, halves away from zero, for d > 0. -/
def divAway (n : Int) (d : Nat) : Int :=
  if 0 ≤ n then ((2 * n + d).fdiv (2 * d)) else -((2 * (-n) + d).fdiv (2 * d))

/-- n / d rounded up. -/
def ceilDiv (n d : Nat) : Nat := (n + d - 1) / d

end Sys2Proof.Machine
end

