-- ==== Sys2Proof/Machine/BerthOps.lean ====
section
/-! DEFINITION. Berth memory with its poisoned words (R123 to R126), extents and quotas (R128), and fences (R134). -/

namespace Sys2Proof.Machine

def State.updBerth (n : BerthNo) (f : Berth → Berth) (s : State) : State :=
  { s with br := { s.br with tab := s.br.tab.set n (f s.br.tab[n]) } }

def State.berth (s : State) (n : BerthNo) : Berth := s.br.tab[n]

def allBerths : List BerthNo := List.finRange 64

/-- Size of berth memory and of the pool in bytes (R123). -/
def berthMemBytes : Nat := 0x1800000
def poolBytes : Nat := 0x1600000

/-- The allocated berth that holds byte offset `o` of berth memory. -/
def berthAt (s : State) (o : Nat) : Option BerthNo :=
  allBerths.find? fun n => (s.berth n).st ≠ .free &&
    (s.berth n).base * 4096 ≤ o && o < ((s.berth n).base + (s.berth n).size) * 4096

/-- Contexts told of an ECC error at offset `o` (R124). -/
def eccCtxs (s : State) (o : Nat) : List Ctx :=
  match berthAt s o with
  | some n => [(s.berth n).owner]
  | none => s.everyCtx

def poisonOf (s : State) (w : Nat) : Nat := Sparse.get (Sparse.all 0) s.br.poison w

def setPoison (w v : Nat) (s : State) : State :=
  { s with br := { s.br with poison := Sparse.put (Sparse.all 0) s.br.poison w v } }

/-- Store 32-bit word `v` at offset `o`: in a poisoned 64-bit word the other four bytes become 0 (R125). -/
def putBerthWord (o : Nat) (v : List Byte) (s : State) : State :=
  let o := o / 4 * 4
  let w := o / 8
  let s := if poisonOf s w = 0 then s else
    setPoison w 0 { s with br := { s.br with mem := putBytes s.br.mem (8 * w) (List.replicate 8 0) } }
  { s with br := { s.br with mem := putBytes s.br.mem o v } }

/-- Store bytes word by word from offset `o`, a multiple of 4. -/
def putBerthBytes (o : Nat) (bs : List Byte) (s : State) : State :=
  s.forEach (List.range ((bs.length + 3) / 4)) fun i s => putBerthWord (o + 4 * i) ((bs.drop (4 * i)).take 4) s

/-- Put berth memory of granules `b` to `b + n` to zero (R129). -/
def zeroGranules (b n : Nat) (s : State) : State :=
  { s with br := { s.br with
      mem := s.br.mem.filter fun c => c.1 < b * 4096 || (b + n) * 4096 ≤ c.1
      poison := s.br.poison.filter fun c => c.1 < b * 512 || (b + n) * 512 ≤ c.1 } }

/-- A reader meets a SEC-DED finding (R124): a single-bit error is corrected and counted, a double-bit error
poisons the word. -/
def eccHit (h : EccHit) (s : State) : State :=
  let o := h.off / 8 * 8
  let s := limitInterval s
  if h.off ≥ berthMemBytes then s
  else if h.uncorr then (if poisonOf s (o / 8) = 0 then setPoison (o / 8) 1 s else s)
  else if poisonOf s (o / 8) ≠ 0 then s
  else
    let s := s.inc F.BRTH_ECC_CORR
    -- event 22 goes to one context at most once per tick interval (R439)
    let dst := (eccCtxs s o).filter fun c => !s.diag.ecc22.getLsbD c.val
    let s := s.forEach dst fun c s =>
      { s with diag := { s.diag with ecc22 := s.diag.ecc22 ||| BitVec.ofNat 4 (2 ^ c.val) } }
    if dst.isEmpty then s else raiseTo 22 o dst s

/-- The first read of a poisoned word counts, records its offset and raises event 23 (R124). -/
def touchPoison (w : Nat) (s : State) : State :=
  if poisonOf s w = 1 then
    let s := setPoison w 2 (s.inc F.BRTH_ECC_UNCORR)
    let s := (s.setFld F.BRTH_ECCADDR_OFFSET (8 * w)).setBit F.BRTH_ECCADDR_VALID true
    raiseTo 23 (8 * w) (eccCtxs s (8 * w)) s
  else s

/-- A byte as every reader receives it: 0 in a poisoned word (R124). -/
def berthByte (s : State) (o : Nat) : Byte :=
  if poisonOf s (o / 8) = 0 then Sparse.get (Sparse.all 0) s.br.mem o else 0

/-- Read `n` bytes from offset `o`, with the findings `ecc` met by this reader. -/
def readBerth (o n : Nat) (ecc : List EccHit) (s : State) : List Byte × State :=
  let s := s.forEach (ecc.filter fun h => o / 8 ≤ h.off / 8 && h.off / 8 * 8 < o + n) eccHit
  let s := s.forEach ((s.br.poison.filter fun c => o / 8 ≤ c.1 && 8 * c.1 < o + n).map (·.1)) touchPoison
  ((List.range n).map fun i => berthByte s (o + i), s)

/-! ### Extents and quotas -/

def granUsed (s : State) (c : Ctx) : Nat :=
  allBerths.foldl (fun m n => if (s.berth n).st ≠ .free && (s.berth n).owner == c then m + (s.berth n).size else m) 0

def berthsUsed (s : State) (c : Ctx) : Nat :=
  (allBerths.filter fun n => (s.berth n).st ≠ .free && (s.berth n).owner == c).length

/-- Allocated extents (base, size). -/
def extents (s : State) : List (Nat × Nat) :=
  (allBerths.filter fun n => (s.berth n).st ≠ .free).map fun n => ((s.berth n).base, (s.berth n).size)

/-- Is [b, b + n) clear of every allocated extent and inside the pool? -/
def extentFree (es : List (Nat × Nat)) (b n : Nat) : Bool :=
  b + n ≤ 5632 && es.all fun e => b + n ≤ e.1 || e.1 + e.2 ≤ b

/-- Where a free extent can start: granule 0 or the end of an allocated one. -/
def extentStarts (es : List (Nat × Nat)) : List Nat := 0 :: es.map fun e => e.1 + e.2

/-- First fit: the lowest base at which `n` contiguous granules are free (R128). -/
def firstFit (s : State) (n : Nat) : Option Nat :=
  ((extentStarts (extents s)).filter fun b => extentFree (extents s) b n).min?

/-- Length of the free extent that starts at `b`. -/
def freeRun (es : List (Nat × Nat)) (b : Nat) : Nat :=
  if es.any (fun e => e.1 ≤ b && b < e.1 + e.2) then 0
  else ((es.filter fun e => b ≤ e.1).map (·.1)).min?.getD 5632 - b

def largestFree (s : State) : Nat := ((extentStarts (extents s)).map (freeRun (extents s))).max?.getD 0

def freeGran (s : State) : Nat := 5632 - (extents s).foldl (fun m e => m + e.2) 0

/-! ### Fences -/

/-- Release an armed fence (R134). -/
def releaseFence (n : BerthNo) (s : State) : State :=
  let b := s.berth n
  if b.fence then
    let f : Fld := if n.val < 32 then ⟨0x70060 + 8 * b.owner.val, n.val, 1⟩ else ⟨0x70064 + 8 * b.owner.val, n.val - 32, 1⟩
    raiseTo 16 n.val [b.owner] ((s.setFld f 1).updBerth n fun b => { b with fence := false })
  else s

/-- A berth becomes FREE from any state; its fence is released and its memory returns to the pool. -/
def berthToFree (n : BerthNo) (s : State) : State :=
  (releaseFence n s).updBerth n fun _ => {}

/-- A berth leaves IN-FLIGHT for READY. -/
def berthToReady (n : BerthNo) (s : State) : State :=
  (releaseFence n s).updBerth n fun b => { b with st := .ready }

/-- R132 at a tick: `named` are the berths of the latched layers. -/
def berthTick (named : List BerthNo) (s : State) : State :=
  s.forEach allBerths fun n s =>
    if named.contains n then s.updBerth n fun b => if b.st == .free then b else { b with st := .inFlight }
    else match (s.berth n).st with
      | .inFlight => berthToReady n s
      | .retiring => berthToFree n s
      | _ => s

/-- Record a berth fault of context `c` in BRTH_FAULTc. DESIGN CHOICE: log 30. -/
def berthFault (c : Ctx) (cause berth layer : Nat) (s : State) : State :=
  (((s.setFld (F.BRTH_FAULT_CAUSE c) cause).setFld (F.BRTH_FAULT_BERTH c) berth).setFld
    (F.BRTH_FAULT_LAYER c) layer).inc (F.BRTH_FAULT_COUNT c)

end Sys2Proof.Machine
end

