-- ==== Sys2Proof/Machine/Geom.lean ====
section
/-! DEFINITION. The index formulas of R37: pixels, strings, tiles and zones. -/

namespace Sys2Proof.Machine

/-- Tile of string `s`. -/
def tileOfStr (s : Nat) : Nat := s / 16384 * 32 + s % 256 / 8

/-- Zone of string `s`. -/
def zoneOfStr (s : Nat) : Nat := s / 65536 * 4 + s % 256 / 64

/-- String within its tile of string `s`. -/
def strInTile (s : Nat) : Nat := s / 256 % 64 * 8 + s % 8

/-- Zone of tile `t`. -/
def zoneOfTile (t : Nat) : Nat := t / 128 * 4 + t % 32 / 8

/-- Tile within its zone of tile `t`. -/
def tileInZone (t : Nat) : Nat := t / 32 % 4 * 8 + t % 8

/-- Tile `j` of zone `z`. -/
def tileOfZone (z j : Nat) : Nat := (z / 4 * 4 + j / 8) * 32 + z % 4 * 8 + j % 8

/-- String `q` of tile `t`. -/
def strOfTile (t q : Nat) : Nat := (t / 32 * 64 + q / 8) * 256 + t % 32 * 8 + q % 8

/-- Column and row of position `k` of string `s`. -/
def pixX (s k : Nat) : Nat := s % 256 * 8 + k
def pixY (s : Nat) : Nat := s / 256

/-- String and position of pixel (x, y). -/
def strOfPix (x y : Nat) : Nat := y * 256 + x / 8

end Sys2Proof.Machine
end

