-- ==== Sys2Proof/Machine/Rails.lean ====
section
/-! DEFINITION. The string rails: what a frame needs (R97), targets and writes (R100 to R105), bring-up (R119),
faults, crossover and stranding (R112 to R116). Voltages stand in mV; targets in steps of 20 mV. -/

namespace Sys2Proof.Machine

/-- States of RAIL_ZSTATz.STATE. -/
def railState (s : State) (z : Zone) : Nat := s.fld (F.RAIL_ZSTAT_STATE z)

def isCrossed (s : State) (z : Zone) : Bool := railState s z = 2
def isStranded (s : State) (z : Zone) : Bool := railState s z = 3
def isLocked (s : State) (z : Zone) : Bool := (s.fld F.SAFE_ZONES_ZLOCK).testBit z.val

/-- The zone whose regulator feeds `z`. -/
def feeder (s : State) (z : Zone) : Zone := if isCrossed s z then partner z else z

/-- Does `z`'s regulator feed the pair? -/
def feedsPair (s : State) (z : Zone) : Bool := isCrossed s (partner z)

/-- Are the rails of zone `z` tracked under R100 (R118)? -/
def tracks (s : State) (z : Zone) : Bool :=
  !isStranded s z && match s.mode with
    | .lowlight => (s.fld F.SAFE_CFG_LL_ZMASK).testBit z.val
    | .beam => true
    | .simplex => true
    | .service => s.pwr.svcMask.getLsbD z.val
    | _ => false

/-- n_req × Vf_max + 0.45 V, rounded up to 20 mV (R97). -/
def vNeed (n vf : Nat) : Nat := ceilDiv (n * vf + 450) 20

/-- V_n of zone `z` for a peak count `np`, in 20 mV (R97). -/
def vN (s : State) (z : Zone) (np : Nat) : Nat :=
  vNeed (max np (s.fld (F.RAIL_ZCFG_NFLOOR z))) (s.fld (F.RAIL_ZVF_VFMAX z))

/-- V_req of zone `z` for a peak count `np`, in 20 mV (R97). -/
def vReq (s : State) (z : Zone) (np : Nat) : Nat := min (max (vN s z np) 300) (s.fld (F.RAIL_ZCFG_VMAX z))

/-- The value requested of a pair's regulator: the higher of the two requests plus 0.10 V (R94). -/
def pairReq (a b : Nat) : Nat := max a b + 5

/-! ### What waits on a bus (R110) -/

/-- The bus a regulator is on: PMB0 for Z0 to Z7, PMB1 for Z8 to Z15, PMB2 for the logic rails. -/
def busOf : PmTarget → Fin 3
  | .zone z => if z.val < 8 then 0 else 1
  | .logic _ => 2

/-- What waits on bus `b` as far as State holds it: writes not acknowledged, STATUS reads after an alert, and
CLEAR_FAULTS of a retry or release; a transaction that was abandoned waits no longer (R109). -/
def busWaiting (s : State) (b : Fin 3) : List PmReq :=
  let zs := allZones.filter fun z => busOf (.zone z) = b
  let writes := zs.filter fun z => match s.rail.z[z].wr with | some w => !w.acked && !w.dropped | none => false
  let clears := zs.filter fun z => (s.rail.z[z].seq == .release || s.rail.z[z].seq == .retry) && s.rail.z[z].stage == .clear
  writes.map (fun z => ⟨.zone z, 0x21, 0⟩) ++ clears.map (fun z => ⟨.zone z, 0x03, 0⟩)
    ++ (s.rail.statusDue.filter fun t => busOf t = b).map (fun t => ⟨t, 0x79, 0⟩)
    ++ (s.rail.voutDue.filter fun t => busOf t = b).map (fun t => ⟨t, 0x7A, 0⟩)

/-- Bus `b` chooses its next transaction among what waits now. -/
def choose (b : Fin 3) (s : State) : State :=
  { s with rail := { s.rail with queued := s.rail.queued.set b (busWaiting s b), chosen := s.rail.chosen.set b s.now } }

/-- `f` queues a transaction on bus `b`: an idle bus on which nothing waits, or on which what waits was queued at this
same time, chooses among all of it; else the choice made stands (R110). -/
def enqueue (b : Fin 3) (f : State → State) (s : State) : State :=
  let open_ := s.rail.bus[b].isNone
    && (s.rail.chosen[b] = s.now || !(s.rail.queued[b].any fun x => (busWaiting s b).contains x))
  if open_ then choose b (f s) else f s

def setTarget (z : Zone) (v : Nat) (s : State) : State :=
  let s := s.setFld (F.RAIL_ZREQ_TARGET z) v
  if feedsPair s z then s.setFld (F.RAIL_ZREQ_TARGET (partner z)) v else s

def target (s : State) (z : Zone) : Nat := s.fld (F.RAIL_ZREQ_TARGET z)

/-- Issue a VOUT_COMMAND write of `v` × 20 mV to the regulator of `z`; it replaces a waiting one and ends a
running check (R100, R102). An upward write ends a downward move. DEDUCED: log 97. DESIGN CHOICE: log 147. -/
def writeVout (z : Zone) (v : Nat) (up : Bool) (s : State) : State :=
  let old := target s z
  let s := enqueue (busOf (.zone z)) (fun s => (setTarget z v s).updRail z fun r =>
    { r with wr := some { mv := 20 * v, acked := false, up := up, late := false }
             vrd := none
             movedFrom := if up then 0 else max old r.movedFrom }) s
  s.setBit (F.RAIL_ZREQ_CHECKING z) (s.rail.z[z].reqB)

/-- Upward move: the target rises at once when the request exceeds it (R100). -/
def raiseTarget (z : Zone) (v : Nat) (s : State) : State :=
  if v > target s z then writeVout z v true s else s

/-! ### Sequences (R95, R116, R119)

Step 1 of a bring-up is its VOUT_COMMAND; a release and a retry send CLEAR_FAULTS first. Each step is queued when the
one before it has ended, and the bring-ups of one bus follow one another in zone order (R110, R119). -/

/-- The bus of a zone: PMB0 for Z0 to Z7, PMB1 for Z8 to Z15. -/
def zoneBus (z : Zone) : Fin 2 := if z.val < 8 then 0 else 1

/-- Is a zone of the pair in service under R118? -/
def inService (s : State) (z : Zone) : Bool :=
  s.rail.z[z].up && s.mode != .dark && s.mode != .safeDark

/-- The value a sequence of `f`'s regulator writes: V_req for NFLOOR, that of R94 for a pair, 6.00 V in CALIBRATE and
in a retry, and in a release what is in force on the pair's rail, or 6.00 V out of service. -/
def seqValue (s : State) (f : Zone) : Nat :=
  let p := partner f
  let req (z : Zone) : Nat := if s.mode == .calibrate then 300 else vReq s z 0
  match s.rail.z[f].seq with
  | .release => if inService s f || inService s p then target s p else 300
  | .retry => 300
  | _ => if feedsPair s f then pairReq (req f) (req p) else req f

/-- The VOUT_COMMAND of a sequence is queued. -/
def writeSeq (f : Zone) (s : State) : State :=
  (writeVout f (seqValue s f) true s).updRail f fun r => { r with stage := .write, pgood := false }

/-- Has a bring-up on bus `b` begun and not ended? -/
def bringingUp (s : State) (b : Fin 2) : Bool :=
  allZones.any fun z => zoneBus z = b && s.rail.z[z].seq == .bringup && s.rail.z[z].stage != .waits

/-- The next bring-up of bus `b` begins when none runs there, in zone order (R119). DEDUCED: log 96. -/
def nextBringup (s : State) (b : Fin 2) : State :=
  if bringingUp s b then s
  else match allZones.find? fun z => zoneBus z = b && s.rail.z[z].seq == .bringup && s.rail.z[z].stage == .waits with
    | some z => writeSeq z s
    | none => s

def nextBringups (s : State) : State := nextBringup (nextBringup s 0) 1

/-- A sequence of the regulator of `f` starts. A regulator whose own zone is in service goes on serving it while it is
brought up for its partner. -/
def startSeq (f : Zone) (q : RailSeq) (s : State) : State :=
  let keep := q == .bringup && inService s f
  let s := if keep || q == .release then s else s.setFld (F.RAIL_ZREQ_VERIFIED f) 0
  let s := enqueue (busOf (.zone f)) (fun s => s.updRail f fun r =>
    { r with seq := q, stage := if q == .bringup then .waits else .clear, pgood := false
             up := if q == .release then r.up else keep }) s
  if q == .bringup then nextBringup s (zoneBus f) else s

/-- Bring zone `z` into service (R119): through its own regulator, or its partner's while crossed over. A zone
that is stranded, locked out or already up is left alone. DEDUCED: log 93, 96, 137. -/
def bringUp (z : Zone) (s : State) : State :=
  let f := feeder s z
  if isStranded s z || isLocked s z || s.rail.z[z].up || s.rail.z[f].seq ≠ .none then s
  else startSeq f .bringup s

/-- The output of `f`'s regulator is verified at `mv`: the zones it feeds are in service (R119 step 4), and the next
zone of the bus is brought up. In CALIBRATE their sources may be lit at once. -/
def verified (f : Zone) (mv : Nat) (s : State) : State :=
  let set (z : Zone) (s : State) : State :=
    (s.setFld (F.RAIL_ZREQ_VERIFIED z) (mv / 20)).updRail z fun r =>
      { r with up := true, reqA := r.reqA || s.mode == .calibrate }
  let s := set f s
  let s := if feedsPair s f then set (partner f) s else s
  nextBringups (if railState s f = 0 then s.setFld (F.RAIL_ZSTAT_STATE f) 1 else s)

/-- ZEN_N[z] high, the zone out of service and off; its sequence and a running check end, and the next zone of the bus
is brought up. A write outside a sequence that is still queued goes on, and a downward move that is not done keeps the
value before it (R117). DEDUCED: log 93. -/
def railOff (z : Zone) (s : State) : State :=
  let was := s.rail.z[z].seq
  let left (r : ZoneRail) : Option RailWrite := r.wr.filter fun w => r.seq == .none && !w.acked
  let s := (s.updRail z fun r => { r with wr := left r, seq := .none, up := false, reqA := false, reqB := false,
                                          pgood := false }).setBit (F.RAIL_ZREQ_CHECKING z) false
  let s := if railState s z = 1 then s.setFld (F.RAIL_ZSTAT_STATE z) 0 else s
  if was == .bringup then nextBringup s (zoneBus z) else s

/-- Zone `z` leaves service, `serves` saying which zones stay in it: its regulator goes off unless it feeds a partner
that stays, and so does a partner's that fed `z` alone. -/
def zoneOut (serves : Zone → Bool) (z : Zone) (s : State) : State :=
  let p := partner z
  if feedsPair s z && serves p then
    (s.updRail z fun r => { r with reqA := false }).setFld (F.RAIL_ZSTAT_STATE z) 0
  else if isCrossed s z && !serves p then railOff p (railOff z s)
  else railOff z s

/-- Mark `z` stranded (R116): cut through both paths, ZEN_N high, event 50, the first retry in 100 frames.
DEDUCED: log 94. -/
def strandOne (z : Zone) (s : State) : State :=
  if isStranded s z then s else
  let s := (railOff z s).setFld (F.RAIL_ZSTAT_STATE z) 3
  let s := s.updRail z fun r => { r with exempt := false, retryAt := s.fld F.SEQ_FRAME_FRAME + 100 }
  raiseAll 50 (z.val + 16) s

def setCrossedBit (z : Zone) (b : Bool) (s : State) : State :=
  s.setFld ⟨0xD0010, z.val / 2, 1⟩ b.toNat

/-- Both zones of a crossed-over pair whose feeding regulator fails are stranded (R116); the pair is crossed over no
longer. DESIGN CHOICE: log 146. -/
def strand (z : Zone) (s : State) : State :=
  let p := partner z
  let pair := isCrossed s z || isCrossed s p
  let s := strandOne z (setCrossedBit z false s)
  if pair then strandOne p s else s

/-- What zone `z` asks of its rail: the higher of its values under R97 for the frame displayed and, where it is known,
the one in composition; in CALIBRATE its target, which calibration sets (R118). -/
def demand (s : State) (z : Zone) : Nat :=
  if s.mode == .calibrate then target s z else max s.rail.z[z].reqDisp (s.rail.z[z].reqNext.getD 0)

/-- The partner's upward write of R94 for a crossover: a regulator that is off is written and goes on, one that is on
is raised if it stands lower, one being brought up goes on with the new value (R113). -/
def feedPair (p : Zone) (v : Nat) (s : State) : State :=
  if s.rail.z[p].seq == .bringup then
    (writeVout p (max v (seqValue s p)) true s).updRail p fun r => { r with stage := .write, pgood := false }
  else if s.rail.z[p].reqB then raiseTarget p v s
  else (writeVout p v true s).updRail p fun r => { r with reqB := true }

/-- The rail of a crossed-over zone is its partner's: its target and verified value are those of that rail (R94). -/
def followPartner (z : Zone) (s : State) : State :=
  let p := partner z
  (s.setFld (F.RAIL_ZREQ_TARGET z) (target s p)).setFld (F.RAIL_ZREQ_VERIFIED z) (s.fld (F.RAIL_ZREQ_VERIFIED p))

/-- Crossover of zone `z` onto its partner's rail (R113), whose target becomes the pair's. A zone that was being brought
up comes into service on the partner's: at once in a mode in which the pair is in service, and else with the partner's
bring-up. -/
def crossOver (z : Zone) (s : State) : State :=
  let p := partner z
  let r := s.rail.z[z]
  let coming := r.seq == .bringup
  let dark := s.mode == .dark || s.mode == .safeDark
  let serve := inService s z || inService s p || (coming && !dark)
  let v := pairReq (demand s z) (demand s p)
  let s := (setCrossedBit z true (railOff z s)).setFld (F.RAIL_ZSTAT_STATE z) 2
  -- the window of R114 in both zones
  let s := (s.updRail z fun r => { r with exempt := true }).updRail p fun r => { r with exempt := true }
  let s := if serve then
      let up := r.up || (coming && s.rail.z[p].seq != .bringup)
      feedPair p v (s.updRail z fun q => { q with up := up, reqA := r.reqA })
    else if coming then (if s.rail.z[p].seq == .bringup then feedPair p v s else startSeq p .bringup s)
    else s
  raiseAll 50 z.val (followPartner z s)

/-- A regulator decision of R112 with cause `src`: event 54 for the first two conditions, then crossover,
or stranding where the partner cannot serve. -/
def judgeFaulty (z : Zone) (src : Nat) (s : State) : State :=
  if s.rail.z[z].faulty then s.setFld (F.RAIL_ZSTAT_FAULT_SRC z) src
  else
    let s := (s.setFld (F.RAIL_ZSTAT_FAULT_SRC z) src).updRail z fun r =>
      { r with faulty := true, upFails := 0, fail48 := 0 }
    let s := if src = 1 || src = 2 then raiseAll 54 z.val s else s
    let p := partner z
    if s.rail.z[p].faulty || isStranded s p || feedsPair s z then strand z s else crossOver z s

/-- A bring-up, release or retry did not complete: ZEN_N high; the regulator is faulty (R119 step 5, R95 step 4).
DEDUCED: log 89. -/
def seqFailed (z : Zone) (s : State) : State :=
  match s.rail.z[z].seq with
  | .none => s
  | .bringup => nextBringups (judgeFaulty z 7 s)
  | .release =>
    let s := (s.updRail z fun r => { r with seq := .none, reqB := false, wr := none, faulty := true, pgood := false })
    s.setFld (F.RAIL_ZSTAT_FAULT_SRC z) 7
  | .retry => railOff z s

/-- A STATUS_WORD of a sequence's polls shows a fault while ZEN_N is low: FAULT_SRC 2 and event 54 (R112). -/
def seqFault (z : Zone) (s : State) : State :=
  if s.rail.z[z].seq == .bringup then nextBringups (judgeFaulty z 2 s)
  else raiseAll 54 z.val ((seqFailed z s).setFld (F.RAIL_ZSTAT_FAULT_SRC z) 2)

/-- Targets and ZEN_N of DARK and SAFE-DARK (R118): ZEN_N high, 6.00 V written after the tick as downward writes.
A crossover release and a stranded-zone retry go on. -/
def railsDark (s : State) : State :=
  s.forEach allZones fun z s =>
    if s.rail.z[z].seq = .release ∨ s.rail.z[z].seq = .retry then
      s.updRail z fun r => { r with reqA := false, up := false }
    else
      let s := s.updRail z fun r =>
        { r with reqA := false, reqB := false, up := false, seq := .none, pgood := false, back := false }
      let s := s.setFld (F.RAIL_ZREQ_VERIFIED z) 0
      let s := if railState s z = 1 then s.setFld (F.RAIL_ZSTAT_STATE z) 0 else s
      if isCrossed s z then s.setFld (F.RAIL_ZREQ_TARGET z) 300
      else if target s z = 300 then s else writeVout z 300 false s

/-- The first `n` logic rails are turned off with OPERATION = 0x00, the last first (R120 step 5, R399 step 4, R402). -/
def logicOff (n : Nat) (s : State) : State :=
  let off := ((List.finRange 8).filter (·.val < n)).reverse.map fun i => (i, (0 : Byte))
  { s with pwr := { s.pwr with logicOps := s.pwr.logicOps ++ off } }

end Sys2Proof.Machine
end

