-- ==== Sys2Proof/Machine/Safe.lean ====
section
/-! DEFINITION. Cut paths (R324), lock-out records (R337 to R339, R432) and the outputs FALLBACK_REQ and SAFE_OK
(R344, R345). -/

namespace Sys2Proof.Machine

def maskBit (m : Nat) (z : Zone) : Bool := m.testBit z.val

/-- Demands that cut both paths of zone `z`: lock-outs, inhibits, the LOWLIGHT cut, the stop detector, a self-check
difference, a freeze, an always-on brown-out. -/
def cutDemand (s : State) (z : Zone) : Bool :=
  s.bit F.SAFE_STAT_DEV_LOCK || isLocked s z || s.safe.inhCut || s.safe.oscStop || s.safe.selfBad
    || (s.mode == .lowlight && !maskBit (s.fld F.SAFE_CFG_LL_ZMASK) z)
    || s.diag.frzCut.getLsbD z.val || s.pwr.brownOut || s.pwr.inReset

/-- `z` is cut through both paths: a demand, or it is stranded (R116). -/
def cutBoth (s : State) (z : Zone) : Bool := cutDemand s z || isStranded s z

/-- Path (a), the zone source enable, is asserted (R88, R324). -/
def srcEnabled (s : State) (z : Zone) : Bool :=
  s.stk.powered && s.rail.z[z].reqA && !cutBoth s z && !s.safe.blind.getLsbD z.val && !s.safe.gwCut.getLsbD z.val
    && !s.safe.coreGw.getLsbD z.val

/-- ZEN_N[z] is driven low: requested and not cut, for the fed zone of a pair as well (R115). A stranded zone's is
low only in its retry (R116). -/
def zenLow (s : State) (z : Zone) : Bool :=
  s.rail.z[z].reqB && !cutDemand s z && !(feedsPair s z && cutDemand s (partner z))
    && (!isStranded s z || s.rail.z[z].seq == .retry || s.rail.z[z].back)

/-- Path (b) of zone `z` is on: the ZEN_N of the regulator that feeds it is low (R115). -/
def pathB (s : State) (z : Zone) : Bool := zenLow s (feeder s z)

/-- Zone `z` is cut through either path. -/
def zoneCut (s : State) (z : Zone) : Bool := !srcEnabled s z || !pathB s z

/-- SAFE_ZONES.ZCUT. -/
def zcut (s : State) : Nat := zmask (zoneCut s)

/-- Is any lock-out present? -/
def anyLock (s : State) : Bool := s.bit F.SAFE_STAT_DEV_LOCK || s.fld F.SAFE_ZONES_ZLOCK ≠ 0

/-- Write AON_MODE.LOCKED, DEV_CAUSE and ZLOCK (R432); the always-on domain takes nothing during a brown-out.
DEDUCED: log 58. -/
def writeAonLocks (s : State) : State :=
  if s.pwr.brownOut then s
  else
    let s := s.setBit F.AON_MODE_LOCKED (s.bit F.SAFE_STAT_DEV_LOCK)
    let s := s.setFld F.AON_MODE_DEV_CAUSE (s.fld F.SAFE_LOCK_DEV_CAUSE)
    s.setFld F.AON_MODE_ZLOCK (s.fld F.SAFE_ZONES_ZLOCK)

/-- One lock-out in the safety record (R339). -/
def lockRecord (dev : Bool) (z cause : Nat) (s : State) : State :=
  let s := (s.incWrap F.SAFE_LOCK_LOCK_SEQ).setFld F.SAFE_LOCK_LAST_CAUSE cause
  let s := s.setBit F.SAFE_LOCK_LAST_DEV dev
  let s := if dev then s else s.setFld F.SAFE_LOCK_LAST_ZONE z
  { s with safe := { s.safe with lastUptime := s.uptime } }

/-- Lock out a zone (R337); a zone already locked out is not locked out again (R339). It is out of service until
an UNLOCK brings it up again (R348). DEDUCED: log 93. -/
def zoneLockout (z : Zone) (cause : Nat) (s : State) : State :=
  if isLocked s z then s
  else
    let s := lockRecord false z.val cause s
    let s := s.setFld F.SAFE_ZONES_ZLOCK (s.fld F.SAFE_ZONES_ZLOCK ||| 2 ^ z.val)
    let s := railOff z s
    writeAonLocks (raiseAll 32 (z.val + cause * 256) s)

/-- The record and event 33 of a device lock-out (R338, R339). -/
def deviceRecord (cause : Nat) (s : State) : State :=
  let s := lockRecord true 0 cause s
  let s := if s.bit F.SAFE_STAT_DEV_LOCK then s else s.setFld F.SAFE_LOCK_DEV_CAUSE cause
  let s := s.setBit F.SAFE_STAT_DEV_LOCK true
  writeAonLocks (raiseAll 33 (cause * 256 + s.fld F.SAFE_LOCK_LOCK_SEQ * 65536) s)

/-- Conditions that hold FALLBACK_REQ asserted (R344), or released to its pull-up, which requests the fallback too (R428).
DEDUCED: log 79. -/
def fallbackCond (s : State) : Bool :=
  !s.mode.dieOn || s.mode == .boot || s.mode == .safeDark || s.bit F.THRM_STAT_THERM_STOP || s.pwr.inReset
    || s.pwr.brownOut || s.safe.oscStop
    || allZones.any fun z => maskBit (s.fld F.SAFE_CFG_FB_ZMASK) z && (isLocked s z || isStranded s z)

/-- SAFE_OK toggles (R345): after BOOT (R454) and not in SAFE-DARK, the safety core runs, the self-check passes.
DEDUCED: log 79. -/
def okRuns (s : State) : Bool :=
  s.mode.dieOn && s.mode != .safeDark && s.mode != .boot && s.fld F.SAFE_CORE_STATE = 0 && !s.safe.oscStop && !s.safe.selfBad && !s.pwr.inReset

/-- What follows from the state at once: FALLBACK_REQ is asserted, SAFE_OK runs or is held low. DEDUCED: log 79. -/
def settle (s : State) : State :=
  let s := if fallbackCond s then s.setBit F.SAFE_STAT_FALLBACK true else s
  let s := s.setBit F.SAFE_STAT_SAFE_OK_RUN (okRuns s)
  if okRuns s then s else { s with safe := { s.safe with okLevel := false } }

/-- The end of every step: raises are handled in order and the outputs follow. -/
def finish (s : State) : Out := .next (settle (flushEvents s))

end Sys2Proof.Machine
end

