-- ==== Sys2Proof/Machine/RegView.lean ====
section
/-! DEFINITION. What a register reads as (R12, R15, R131, R443 to R446): stored registers, fields computed from other
state, windows, and the access rules of a read. -/

namespace Sys2Proof.Machine

/-! ### Fields computed from other state -/

/-- Put `v` in bits [lo + n - 1 : lo] of a word. -/
def ins (lo n v : Nat) (w : Word) : Word := Fld.into ⟨0, lo, n⟩ w v

/-- BRTH_TABn.STATE codes. -/
def BerthSt.code : BerthSt → Nat
  | .free => 0 | .filling => 1 | .ready => 2 | .inFlight => 3 | .retiring => 4

/-- Pending return packets of context `c` (R475). -/
def pendingOf (s : State) (c : Ctx) : Nat :=
  match s.ifaceOf c with
  | none => 0
  | some i => ((s.outq[ifaceIx i]).events.filter (·.ctx == c)).length + ((s.outq[ifaceIx i]).resps.filter (·.ctx == c)).length

/-- Are the pins of R454 in their operation: CALIBRATE and later modes, and no reset? -/
def pinsServed (s : State) : Bool := s.mode.dieOn && s.mode != .boot && !s.pwr.inReset

/-- INT_N[c] is driven low (R437, R276, R280); in WAKE, BOOT and a reset it is not driven (R454). -/
def intLow (s : State) (c : Ctx) : Bool :=
  pinsServed s && (((s.ctx[c]).pend &&& (s.ctx[c]).mask) != 0 ||
    (s.bit (F.HCTX_CFG_RESP_INT c) && (s.ifaceOf c == some .spi || s.ifaceOf c == some .can) && pendingOf s c ≠ 0))

/-- Payload bytes that wait in a queue buffer. DESIGN CHOICE: log 44. -/
def usedBytes (q : List RxPkt) : Nat := q.foldl (fun n p => n + p.bytes.length) 0

/-- Credits a packet of `len` payload bytes uses (R250). -/
def credits (len : Nat) : Nat := max 1 (ceilDiv len 256)

/-- Credits that wait in a queue buffer. DESIGN CHOICE: log 44. -/
def usedCredits (q : List RxPkt) : Nat := q.foldl (fun n p => n + credits p.bytes.length) 0

/-- Free bytes of the SPI buffers (R276). DESIGN CHOICE: log 44. -/
def spiFree (s : State) (m : Bool) : Nat :=
  if m then 4096 - usedBytes s.rxM[(2 : Fin 4)] else 16384 - usedBytes s.rxF[(2 : Fin 4)]

/-- Free credits of a port (R250). -/
def credFree (s : State) (p : Port) (m : Bool) : Nat :=
  let i := ifaceIx (ifaceOfPort p)
  if m then 64 - usedCredits s.rxM[i] else 256 - usedCredits s.rxF[i]

/-- Bypassed pixels of a zone: the set bypass bits of its strings. -/
def bypCount (s : State) (z : Zone) : Nat :=
  s.stk.bypass.foldl (fun n c => if zoneOfStr c.1 = z.val then
    n + ((List.range 8).filter fun k => c.2.getLsbD k).length else n) 0

/-- Tiles of zone `z` whose state meets `p`. -/
def tilesIn (s : State) (z : Zone) (p : Nat → Bool) : Nat :=
  ((List.range 32).filter fun j => p (Sparse.get (Sparse.all 0) s.stk.tileState (tileOfZone z.val j))).length

/-- 2-bit entries packed into a word. -/
def packPairs (f : Nat → Nat) : Nat := (List.range 16).foldl (fun m i => m + (f i % 4) * 4 ^ i) 0

/-- Fields that other state determines, placed into the stored word `w` of address `a`. -/
def computed (s : State) (a : Nat) (w : Word) : Word :=
  if a = 0x4 then ins 28 4 s.mode.code (ins 27 1 (s.fld F.THRM_STAT_THERM_STOP) (ins 26 1 (s.fld F.SAFE_STAT_DEV_LOCK) w))
  else if a = 0x20000 then ins 28 4 s.mode.code (ins 19 1 s.pwr.req.isSome.toNat w)
  else if a = 0x20104 then ins 28 4 s.mode.code w
  else if a = 0x20110 then BitVec.ofNat 32 s.uptime
  else if a = 0x30000 then BitVec.ofNat 32 (allCtx.foldl (fun m c => if intLow s c then m + 2 ^ c.val else m) 0)
  else if 0x30040 ≤ a ∧ a < 0x30080 then
    let c : Ctx := Fin.ofNat 4 ((a - 0x30040) / 16)
    match (a - 0x30040) % 16 with
    | 0 => ((s.ctx[c]).pend).extractLsb' 0 32
    | 4 => ((s.ctx[c]).pend).extractLsb' 32 32
    | 8 => ((s.ctx[c]).mask).extractLsb' 0 32
    | _ => ((s.ctx[c]).mask).extractLsb' 32 32
  else if a = 0x40004 then
    match s.long with
    | none => 0
    | some l => ins 31 1 1 (ins 29 2 l.ctx.val (ins 16 8 l.code (ins 0 16 (min 65535 ((s.now - l.since) / 100000)) 0)))
  else if a = 0x40014 then ins 16 15 (spiFree s false) (ins 0 13 (spiFree s true) 0)
  else if a = 0x50008 ∨ a = 0x50108 then
    let p : Port := Fin.ofNat 2 ((a - 0x50008) / 256)
    ins 16 9 (credFree s p false) (ins 0 7 (credFree s p true) 0)
  else if a = 0x50014 ∨ a = 0x50114 then
    ins 0 6 (s.outq[ifaceIx (ifaceOfPort (Fin.ofNat 2 ((a - 0x50014) / 256)))]).events.length w
  else if a = 0x70004 then ins 16 13 (freeGran s) (ins 0 13 (largestFree s) 0)
  else if a = 0x70010 then
    BitVec.ofNat 32 (packPairs fun l => match (s.br.owner)[Fin.ofNat 16 l] with | some c => c.val | none => 0)
  else if a = 0x70014 then
    ins 16 16 s.br.skipped.toNat (ins 0 16 (zmask fun l => ((s.br.owner)[l]).isSome) 0)
  else if 0x70040 ≤ a ∧ a < 0x70050 then ins 16 13 (granUsed s (Fin.ofNat 4 ((a - 0x70040) / 4))) w
  else if 0x70080 ≤ a ∧ a < 0x70090 then ins 8 7 (berthsUsed s (Fin.ofNat 4 ((a - 0x70080) / 4))) w
  else if 0x70100 ≤ a ∧ a < 0x70200 then
    let b := s.berth (Fin.ofNat 64 ((a - 0x70100) / 4))
    if b.st = .free then 0
    else ins 29 3 b.st.code (ins 27 2 b.owner.val (ins 26 1 b.fence.toNat (ins 13 13 b.base (ins 0 13 b.size 0))))
  else if a = 0x8001C then BitVec.ofNat 32 s.since
  else if 0x80020 ≤ a ∧ a < 0x80030 then
    match (s.ctx[(Fin.ofNat 4 ((a - 0x80020) / 4) : Ctx)]).commit with
    | none => w
    | some k => ins 31 1 1 (ins 30 1 k.targeted.toNat w)
  else if a = 0x90004 ∨ a = 0xA0004 then
    let g := s.eng (if a = 0x90004 then .a else .b)
    ins 29 3 g.role.code (ins 28 1 g.imgValid.toNat w)
  else if a = 0x90008 ∨ a = 0xA0008 then
    let g := s.eng (if a = 0x90008 then .a else .b)
    if g.imgValid then g.imgCrc else 0
  else if 0xB0040 ≤ a ∧ a < 0xB0080 then
    let z : Zone := Fin.ofNat 16 ((a - 0xB0040) / 4)
    ins 16 16 s.ffn.phi[z] (ins 0 16 (match s.ffn.fade[z] with | some f => f.frames - f.i | none => 0) 0)
  else if a = 0xC0004 then ins 31 1 s.tl.selB.toNat w
  else if 0xD0080 ≤ a ∧ a < 0xD00C0 then
    let z : Zone := Fin.ofNat 16 ((a - 0xD0080) / 4)
    ins 31 1 (srcEnabled s z).toNat (ins 30 1 (zenLow s z).toNat (ins 29 1 (isCrossed s z).toNat
      (ins 23 6 (tilesIn s z (· ≥ 2)) (ins 17 6 (tilesIn s z (· == 1)) (ins 0 17 (min 131071 (bypCount s z)) 0)))))
  else if 0xE0080 ≤ a ∧ a < 0xE0100 then
    BitVec.ofNat 32 (packPairs fun i => Sparse.get (Sparse.all 0) s.diag.tiles (16 * ((a - 0xE0080) / 4) + i))
  else if a = 0x11000C then ins 16 16 (zcut s) w
  else if a = 0x120004 then ins 27 3 s.dplx.hmA.code (ins 24 3 s.dplx.hmB.code w)
  else w

/-- Bits of address `a` whose older value the model does not keep: a mixed read of them is free.
DESIGN CHOICE: log 8. -/
def unkeptBits (a : Nat) : Word :=
  if a = 0x11000C then 0xFFFF0000 else if 0xD0080 ≤ a ∧ a < 0xD00C0 then 0x1FFFF else 0

/-- What the register at `a` held before its latest change (R15). DESIGN CHOICE: log 8. -/
def oldWord (s : State) (a : Nat) : Word :=
  if a = 0x8001C then BitVec.ofNat 32 (s.since - 1)
  else if a = 0x20110 then BitVec.ofNat 32 (s.uptime - 1)
  else Sparse.get regReset s.old a

/-! ### Shared and shadowed registers -/

/-- ENGx_BUDGET and ENGx_PARAMn are one register for both engines; they stand at ENGA's address. -/
def canon (a : Nat) : Nat :=
  if a = 0xA000C ∨ (0xA0100 ≤ a ∧ a < 0xA0200) then a - 0x10000 else a

/-- RWS bits of an address, the curve and polygon windows included; byte 1 of a polygon is reserved (R220). -/
def rwsMask (a : Nat) : Word :=
  if 0xB1000 ≤ a ∧ a < 0xB3000 then 0xFFFFFFFF
  else if a = 0xB3000 then 0xFFFF
  else if 0xB4000 ≤ a ∧ a < 0xB4200 then (if a % 16 = 0 then 0xFFFF00FF else 0xFFFFFFFF)
  else match regRow a with
    | some r => r.rws
    | none => 0

/-- The value context `c` reads for RWS bits: its own shadow value, or the value in force (R12). -/
def shadowWord (s : State) (c : Ctx) (a : Nat) : Word :=
  match Sparse.get (Sparse.all none) (s.ctx[c]).shadow.words a with
  | some w => w
  | none => s.reg a

/-- The word a coherent read of a register returns to context `c`. -/
def viewReg (c : Ctx) (s : State) (a : Nat) : Word :=
  let a := canon a
  let m := rwsMask a
  let wo := match regRow a with | some r => r.wo | none => 0
  ((computed s a (s.reg a) &&& ~~~m) ||| (shadowWord s c a &&& m)) &&& ~~~wo

/-! ### Windows -/

def wordOf (bs : List Byte) : Word := BitVec.ofNat 32 (leNat bs)

/-- The scratch and program memory windows of an engine (ENGx_WINSEL). -/
def viewEngWin (s : State) (e : Side) (o : Nat) : Word :=
  let x := sideIx e
  if o < 0x8000 then
    let c : Cluster := Fin.ofNat 8 (s.fld (F.ENG_WINSEL_SCR_CLUS x))
    wordOf (getBytes ((s.eng e).cl[c]).scratch (s.fld (F.ENG_WINSEL_SCR_PAGE x) * 16384 + (o - 0x4000)) 4)
  else Sparse.get (Sparse.all 0) (s.eng e).pm (s.fld (F.ENG_WINSEL_PM_PAGE x) * 8192 + (o - 0x8000) / 4)

/-- The optics window: H at 0xB8000, V at 0xB9000. -/
def viewOptics (s : State) (a : Nat) : Word :=
  let i := (a - 0xB8000) / 2
  if 0xB8000 ≤ a ∧ a < 0xB9800 then
    ((Sparse.get (Sparse.all 0) s.ffn.optics (i + 1)) ++ (Sparse.get (Sparse.all 0) s.ffn.optics i) : BitVec 32)
  else 0

/-- Kinds of place in the control address space (R443). -/
inductive Place where
  | reg                         -- a register, a window of RWS words or an unassigned offset of a block
  | engWin (e : Side)
  | optics
  | trim
  | map
  | berth (o : Nat)
  | outside
  deriving DecidableEq, Repr

/-- DESIGN CHOICE: log 32. -/
def placeOf (a : Nat) : Place :=
  if a < 0x150000 then
    let o := a % 0x10000
    if a / 0x10000 = 9 ∧ 0x4000 ≤ o then .engWin .a
    else if a / 0x10000 = 10 ∧ 0x4000 ≤ o then .engWin .b
    else if 0xB8000 ≤ a ∧ a < 0xB9800 then .optics
    else .reg
  else if 0x1000000 ≤ a ∧ a < 0x1040000 then .trim
  else if 0x1100000 ≤ a ∧ a < 0x1180000 then .map
  else if 0x10000000 ≤ a ∧ a < 0x11800000 then .berth (a - 0x10000000)
  else .outside

/-- Is the logic of address `a` without power or clock (R445)? -/
def accessOff (s : State) (a : Nat) : Bool :=
  let eng (e : Side) : Bool := !(s.eng e).powered || (s.eng e).gated
  let o := a % 0x10000
  match a / 0x10000 with
  | 5 => !s.mode.dieOn
  | 9 => eng .a && !(o = 0xC || (0x100 ≤ o && o < 0x200))
  | 10 => eng .b && !(o = 0xC || (0x100 ≤ o && o < 0x200))
  | 13 => !s.stk.powered
  | _ => 0x1000000 ≤ a && a < 0x1040000 && !s.stk.powered

/-! ### Reads -/

/-- Gray code of a count, and the count that a Gray code presents. -/
def toGray (w : Word) : Word := w ^^^ (w >>> 1)

def ofGray (g : Word) : Word := [1, 2, 4, 8, 16].foldl (fun x n => x ^^^ (x >>> n)) g

/-- A plain read mixes old and new bits of the fields that only REG_SNAP reads coherently (R15); SEQ_FRAME crosses in
Gray code, so of a count by one it reads the old or the new value (R68, R429). DESIGN CHOICE: log 8. -/
def mixed (s : State) (a : Nat) (w : Word) : Word × State :=
  let m : Word := match regRow a with | some r => r.snap | none => 0
  if m = 0 then (w, s)
  else if a = 0x80014 then
    let (f, t) := s.draw
    (ofGray ((toGray w &&& ~~~f) ||| (toGray (oldWord s a) &&& f)), t)
  else
    let (f, t) := s.draw
    let old := (oldWord s a &&& ~~~unkeptBits a) ||| (~~~w &&& unkeptBits a)
    let x := m &&& f
    ((w &&& ~~~x) ||| (old &&& x), t)

/-- A read of the window word at `a` of engine `e` meets a single-bit error in its 64-bit word of scratch, or in its
word of program memory: it is corrected and counted (R152, R164). DEDUCED: log 123. -/
def countWin (e : Side) (a : Nat) (win : List Nat) (s : State) : State :=
  if a % 0x10000 < 0x8000 then
    if win.any fun x => x / 8 = a / 8 then s.inc (F.ENG_ECC_SCR_CORR (sideIx e)) else s
  else if win.contains a then s.inc (F.ENG_ECC_PM_CORR (sideIx e)) else s

/-- The findings that remain when the word at `a` has been read: it is corrected in memory. -/
def leftAfter (a : Nat) (x : HostEnv) : HostEnv :=
  { x with ecc := x.ecc.filter fun h => h.off / 8 ≠ (a - 0x10000000) / 8 || a < 0x10000000
           win := x.win.filter fun b => b / 8 ≠ a / 8 || (b ≠ a && 0x8000 ≤ a % 0x10000) }

/-- Read the word at `a` for context `c` (R131, R444, R445). `snap`: as REG_SNAP, coherently.
DESIGN CHOICE: log 32. -/
def readWord (c : Ctx) (snap : Bool) (x : HostEnv) (a : Nat) (s : State) : Nat × Word × State :=
  if a % 4 ≠ 0 then (1, 0, s)
  else if accessOff s a then (5, 0, s)
  else match placeOf a with
    | .outside => (1, 0, s)
    | .reg =>
      if snap then (0, viewReg c s a, s)
      else let (w, t) := mixed s (canon a) (viewReg c s a); (0, w, t)
    | .engWin e => (0, viewEngWin s e (a % 0x10000), countWin e a x.win s)
    | .optics => (0, viewOptics s a, s)
    | .trim => (0, wordOf ((List.range 4).map fun i => Sparse.get (Sparse.all 0) s.stk.trim (a - 0x1000000 + i)), s)
    | .map => (0, wordOf (getBytes s.diag.map (a - 0x1100000) 4), s)
    | .berth o =>
      match berthAt s o with
      | some n =>
        if (s.berth n).owner = c then
          let (bs, t) := readBerth o 4 x.ecc s
          (0, wordOf bs, t)
        else (2, 0, s)
      | none =>
        if 0x1600000 ≤ o then let (bs, t) := readBerth o 4 x.ecc s; (0, wordOf bs, t)
        else (0, 0, s)

/-- Read `n` words from `a` upwards; ACCESS_OFF wins, else the first failure (R445). DEDUCED: log 33. -/
def readWords (c : Ctx) : HostEnv → Nat → Nat → State → Nat × List Byte × State
  | _, 0, _, s => (0, [], s)
  | x, n + 1, a, s =>
    let (st, w, s) := readWord c false x (a % 2 ^ 32) s
    let (st', bs, s) := readWords c (leftAfter (a % 2 ^ 32) x) n (a + 4) s
    (if st = 5 ∨ st' = 5 then 5 else if st ≠ 0 then st else st', wordBytes4 w ++ bs, s)
where
  wordBytes4 (w : Word) : List Byte := toLe 4 w.toNat

/-- The addresses of the snapshot group of `a` (R68, R274). -/
def snapGroup (a : Nat) : List Nat :=
  if a = 0x80014 ∨ a = 0x80018 ∨ a = 0x8001C then [0x80014, 0x80018, 0x8001C] else [a]

/-- A coherent read of the group of `a` (R274). DEDUCED: log 33. -/
def readSnap (c : Ctx) (x : HostEnv) : List Nat → State → Nat × List Byte × State
  | [], s => (0, [], s)
  | a :: as, s =>
    let (st, w, s) := readWord c true x a s
    let (st', bs, s) := readSnap c x as s
    (if st ≠ 0 then st else st', toLe 4 w.toNat ++ bs, s)

end Sys2Proof.Machine
end

