-- ==== Sys2Proof/Machine/Resp.lean ====
section
/-! DEFINITION. Statuses, response messages and the management channel (R265 to R269, R467). -/

namespace Sys2Proof.Machine

/-- Status codes (R467). -/
inductive Status where
  | ok | badArg | denied | modeReject | busy | accessOff | authFail | storeTemp | timeout
  deriving DecidableEq, Repr

def Status.code : Status → Nat
  | .ok => 0 | .badArg => 1 | .denied => 2 | .modeReject => 3 | .busy => 4 | .accessOff => 5
  | .authFail => 6 | .storeTemp => 7 | .timeout => 8

/-- A 32-bit word as four little-endian bytes. -/
def wordBytes (w : Word) : List Byte := toLe 4 w.toNat

/-- One record of a response message (R265). -/
def recBytes (r : RespRec) : List Byte :=
  [BitVec.ofNat 8 r.code, BitVec.ofNat 8 r.idx, BitVec.ofNat 8 r.status, if r.final then 1 else 0]
    ++ toLe 2 r.data.length ++ [0, 0] ++ r.data

/-- A response message (R265). -/
def respBytes (mseq : Word) (gap late m : Bool) (recs : List RespRec) : List Byte :=
  wordBytes mseq ++
    [BitVec.ofNat 8 recs.length, BitVec.ofNat 8 (gap.toNat * 4 + late.toNat * 2 + m.toNat), 0, 0]
    ++ recs.flatMap recBytes

/-- Queue a response message on the context's interface (R475). -/
def queueResp (c : Ctx) (bytes : List Byte) (s : State) : State :=
  match s.ifaceOf c with
  | none => s
  | some i => s.updOut i fun q => { q with resps := q.resps ++ [{ ctx := c, bytes := bytes }] }

/-- Unsent response messages of a context (R272). -/
def unsent (s : State) (c : Ctx) : Nat :=
  match s.ifaceOf c with
  | none => 0
  | some i => ((s.outq[ifaceIx i]).resps.filter fun r => r.ctx == c).length

/-- Is no harbourmaster ACTIVE (R319)? DEDUCED: log 128. -/
def noHm (s : State) : Bool := s.dplx.hmA != .active && s.dplx.hmB != .active

/-- The running LONG command ends, with its final record to be sent by LONG_COMPLETION. -/
def setFinal (st : Status) (data : List Byte) (s : State) : State :=
  { s with long := s.long.map fun l => { l with final := some (st.code, data) } }

/-- Queue a final record, or let it wait while its context has 32 unsent responses (R272). DESIGN CHOICE: log 7. -/
def queueFinal (c : Ctx) (bytes : List Byte) (s : State) : State :=
  if 32 ≤ unsent s c then { s with finals := s.finals ++ [⟨c, bytes⟩] } else queueResp c bytes s

/-- Send the completion of the running LONG command and free the channel (R268); without an active harbourmaster no
final record is sent (R319). -/
def sendFinal (st : Status) (data : List Byte) (s : State) : State :=
  match s.long with
  | none => s
  | some l =>
    let r : RespRec := { code := l.code, idx := l.idx, status := st.code, final := true, data := data }
    let free : State := { s with long := none }
    if noHm s then free else queueFinal l.ctx (respBytes l.mseq false true true [r]) free

/-- Queue the final records for which there is room now, in order. -/
def flushFinals (s : State) : State :=
  let waiting := s.finals
  ({ s with finals := [] } : State).forEach waiting fun r => queueFinal r.ctx r.bytes

/-- Status named by a code. -/
def Status.ofCode : Nat → Status
  | 0 => .ok | 1 => .badArg | 2 => .denied | 3 => .modeReject | 4 => .busy | 5 => .accessOff
  | 6 => .authFail | 7 => .storeTemp | _ => .timeout

/-- The LONG command that runs with code `code` and whose work is not done. -/
def State.longRuns (s : State) (code : Nat) : Bool :=
  match s.long with
  | some l => l.code == code && l.final.isNone
  | none => false

/-- Event 52 to the requesting context (R398): requested mode, current mode, status. DEDUCED: log 45. -/
def rejectModeReq (c : Ctx) (target : Nat) (st : Status) (s : State) : State :=
  raiseTo 52 (target + s.mode.code * 16 + st.code * 256) [c] s

end Sys2Proof.Machine
end

