-- ==== Sys2Proof/Machine/Packets.lean ====
section
/-! DEFINITION. Packets of R247 and the return traffic of an interface (R252, R253, R280), and the start of training
of a Ranfer port (R239, R257). -/

namespace Sys2Proof.Machine

/-- A packet: header of R247, payload, payload CRC (R248). -/
def packet (type : Nat) (q : Bool) (c : Ctx) (sq : Byte) (payload : List Byte) : List Byte :=
  let h : List Byte := [BitVec.ofNat 8 (16 * type + 4 * q.toNat + c.val), sq] ++ toLe 2 payload.length ++ [0, 0]
  let crc := if payload.isEmpty then 0 else (crc32c payload).toNat
  h ++ toLe 2 (crc16 h).toNat ++ payload ++ toLe 4 crc

/-- The payload of an event packet (R253). -/
def eventPayload (e : EvtPkt) : List Byte :=
  [BitVec.ofNat 8 e.evt, BitVec.ofNat 8 (128 * e.ovf.toNat + e.ctx.val), 0, 0] ++ wordBytes e.frame ++ wordBytes e.info
    ++ toLe 4 e.since

/-- The oldest pending return packet of an interface, events first (R252): type, context, payload. -/
def nextReturn (q : OutQ) : Option (Nat × Ctx × List Byte) :=
  match q.events with
  | e :: _ => some (3, e.ctx, eventPayload e)
  | [] =>
    match q.resps with
    | r :: _ => some (2, r.ctx, r.bytes)
    | [] => none

/-- Drop the packet `nextReturn` gives. -/
def dropReturn (q : OutQ) : OutQ :=
  match q.events with
  | _ :: es => { q with events := es }
  | [] => { q with resps := q.resps.drop 1 }

/-- SEQ of the next return packet of an interface. -/
def txSeq (s : State) : Iface → Byte
  | .portA => BitVec.ofNat 8 (s.fld (F.LINK_PSTAT_TX_SEQ 0))
  | .portB => BitVec.ofNat 8 (s.fld (F.LINK_PSTAT_TX_SEQ 1))
  | .spi => s.spi.txSeq
  | .can => s.can.txSeq

/-! ### Blocks of a lane (R236) -/

/-- The block types that end a packet with 0 to 7 bytes. -/
def termTypes : List Byte := [0x87, 0x99, 0xAA, 0xB4, 0xCC, 0xD2, 0xE1, 0xFF]

/-- A control block, its type byte first, 0x00 behind what `bs` gives. -/
def ctrlBlock (bs : List Byte) : Block := ⟨true, bs ++ List.replicate (8 - bs.length) 0⟩

/-- Data blocks and the terminate block that carry `bs`; `k` bounds the number of blocks. -/
def tailBlocks : Nat → List Byte → List Block
  | 0, _ => []
  | k + 1, bs =>
    if bs.length < 8 then [ctrlBlock (termTypes.getD bs.length 0 :: bs)]
    else ⟨false, bs.take 8⟩ :: tailBlocks k (bs.drop 8)

/-- The blocks that carry a packet: SOP with its first 7 bytes, data, terminate. -/
def frame (p : List Byte) : List Block := ctrlBlock (0x78 :: p.take 7) :: tailBlocks (p.length + 1) (p.drop 7)

/-- The packet bytes behind a SOP, and whether they end in one terminate block and nothing else. -/
def unframeTail : List Block → List Byte × Bool
  | [] => ([], false)
  | b :: bs =>
    if b.ctrl then
      match termTypes.findIdx? (· == byteAt b.bytes 0) with
      | some n => ((b.bytes.drop 1).take n, bs.isEmpty)
      | none => ([], false)
    else
      let (r, ok) := unframeTail bs
      (b.bytes ++ r, ok)

/-- The packet bytes in received blocks, and whether their framing holds. -/
def unframe : List Block → List Byte × Bool
  | [] => ([], false)
  | b :: bs =>
    if b.ctrl && byteAt b.bytes 0 == 0x78 then
      let (r, ok) := unframeTail bs
      ((b.bytes.drop 1).take 7 ++ r, ok)
    else ([], false)

/-- The TB block of the return lane. -/
def tbBlock : Block := ctrlBlock (0x2D :: List.replicate 6 0x5A)

/-- The training burst that ends return idle: 1.0 µs, 23 blocks at 1.5 Gb/s (R244, R246). DESIGN CHOICE: log 154. -/
def burst (idle : Bool) : List Block := if idle then List.replicate 23 tbBlock else []

/-- Blocks leave on the return lane of a port, behind a burst where it was idle. -/
def emit (p : Port) (bs : List Block) (s : State) : State :=
  (s.updPort p fun q => { q with sent := burst (s.bit (F.LINK_PSTAT_RET_IDLE p)) ++ bs }).setBit (F.LINK_PSTAT_RET_IDLE p) false

/-- What `f` sends follows what was sent just before. -/
def thenSend (p : Port) (f : State → State) (s : State) : State :=
  let t := f s
  t.updPort p fun q => { q with sent := (s.port[p]).sent ++ q.sent }

/-- Note `bytes` as the latest sent on an interface. -/
def noteSent (i : Iface) (bytes : List Byte) (s : State) : State :=
  match i with
  | .portA => emit 0 (frame bytes) s
  | .portB => emit 1 (frame bytes) s
  | .spi => { s with spi := { s.spi with sent := bytes } }
  | .can => { s with can := { s.can with sent := bytes } }

/-- Frames leave the CAN FD controller under the identifier of register `f` (R280). -/
def noteCan (f : Fld) (bytes : List Byte) (s : State) : State :=
  let w := if s.can.ctrl.getLsbD 2 then 2 ^ 29 else 2 ^ 11
  { s with can := { s.can with sent := bytes, sentId := s.fld f % w } }

/-- Advance the SEQ of an interface. -/
def bumpSeq (i : Iface) (s : State) : State :=
  match i with
  | .portA => s.incWrap (F.LINK_PSTAT_TX_SEQ 0)
  | .portB => s.incWrap (F.LINK_PSTAT_TX_SEQ 1)
  | .spi => { s with spi := { s.spi with txSeq := s.spi.txSeq + 1 } }
  | .can => { s with can := { s.can with txSeq := s.can.txSeq + 1 } }

/-- Data length that holds `n` bytes of a CAN FD frame. -/
def canDlc (n : Nat) : Nat := ([0, 1, 2, 3, 4, 5, 6, 7, 8, 12, 16, 20, 24, 32, 48].find? fun d => n ≤ d).getD 64

/-- The frames that carry a packet (R278), segment `i` first; at most `k` of them. -/
def canSegments : Nat → Nat → List Byte → List Byte
  | 0, _, _ => []
  | k + 1, i, bs =>
    let last := bs.length ≤ 63
    let ctl : Byte := BitVec.ofNat 8 ((if i = 0 then 128 else 0) + (if last then 64 else 0) + i % 64)
    if last then ctl :: bs ++ List.replicate (canDlc (bs.length + 1) - (bs.length + 1)) 0
    else (ctl :: bs.take 63) ++ canSegments k (i + 1) (bs.drop 63)

/-- An immediate response of CAN FD has left: its manifest leaves the window (R280). -/
def canWindow (pl : List Byte) (s : State) : State :=
  let f := byteAt pl 5
  if f.getLsbD 1 then s
  else if f.getLsbD 0 then { s with can := { s.can with outM := s.can.outM - 1 } }
  else { s with can := { s.can with outF := s.can.outF - 1 } }

/-- The queue whose head an interface sends next: an interrupted READ of a response is taken up again first (R276). -/
def headQueue (i : Iface) (s : State) : OutQ :=
  let q := s.outq[ifaceIx i]
  if i = .spi ∧ s.spi.cutResp then { q with events := [] } else q

/-- The head of an interface leaves its queue. -/
def dropHead (i : Iface) (s : State) : State :=
  if i = .spi ∧ s.spi.cutResp then
    s.updOut i fun q => { q with resps := q.resps.drop 1 }
  else s.updOut i dropReturn

/-! ### Training -/

/-- Does port `p` use lane `l`: enabled, and lane 1 with LANES only? -/
def laneInUse (s : State) (p : Port) (l : Nat) : Bool :=
  s.bit (F.LINK_PCFG_EN p) && (l = 0 || s.bit (F.LINK_PCFG_LANES p))

/-- Both lanes of a port lose lock and use; the input of a lane that is not in use reads as idle.
DESIGN CHOICE: log 155. -/
def lanesDown (p : Port) (s : State) : State :=
  s.forEach [0, 1] fun l s =>
    ((s.setFld (F.LINK_LANE_LOCK p l) 0).setFld (F.LINK_LANE_USED p l) 0).when (!laneInUse s p l)
      fun s => s.setFld (F.LINK_LANE_SQUELCH p l) 1

/-- Step 1 of R239: the port sends TB blocks, STATE = TRAINING; RETRAIN_CNT counts every start after the first
(R240). -/
def startTraining (p : Port) (s : State) : State :=
  let s := s.when (s.port[p]).trained (State.inc (F.LINK_LOCK_RETRAIN_CNT p))
  let s := (lanesDown p s).setFld (F.LINK_PSTAT_STATE p) 1
  let s := (s.setFld (F.LINK_PSTAT_RET_IDLE p) 0).setFld (F.LINK_PSTAT_LANE1_USED p) 0
  s.updPort p fun q => { q with trained := true, sent := [tbBlock] }

/-- A port whose configuration changed trains anew, or is down while EN = 0 (R239, R257). -/
def retrainPort (p : Port) (s : State) : State :=
  let s := s.updPort p fun q => { q with reconfig := false, retrainAfter := none }
  if s.bit (F.LINK_PCFG_EN p) then startTraining p s
  else
    let s := (lanesDown p s).setFld (F.LINK_PSTAT_STATE p) 0
    (s.setFld (F.LINK_PSTAT_RET_IDLE p) 0).setFld (F.LINK_PSTAT_LANE1_USED p) 0

/-- A response has left interface `i`: a port that waits for its last one trains anew (R257). -/
def responseLeft (i : Iface) (s : State) : State :=
  s.forEach [0, 1] fun (p : Port) s =>
    match (s.port[p]).retrainAfter with
    | some (j, n) =>
      if j ≠ i then s
      else if n ≤ 1 then retrainPort p s
      else s.updPort p fun q => { q with retrainAfter := some (j, n - 1) }
    | none => s

/-! ### Sending -/

/-- Send the next return packet of an interface whole; on CAN FD an event travels as its payload alone and a response
in segments (R280). -/
def sendNext (i : Iface) (s : State) : State :=
  match nextReturn (headQueue i s) with
  | none => s
  | some (t, c, pl) =>
    let s := dropHead i s
    let s : State := if i = .spi then { s with spi := { s.spi with cutResp := false } } else s
    let p := packet t false c (txSeq s i) pl
    let s :=
      if i = .can then
        if t = 3 then noteCan F.CANF_IDEVT_ID pl s
        else canWindow pl (bumpSeq i (noteCan F.CANF_IDRSP_ID (canSegments (p.length + 1) 0 p) s))
      else bumpSeq i (noteSent i p s)
    s.when (t = 2) (responseLeft i)

/-- The STATUS block and its limits (R236, R250). -/
def sendStatus (p : Port) (s : State) : State :=
  let f := (s.port[p]).usedF + BitVec.ofNat 16 (credFree s p false)
  let m := (s.port[p]).usedM + BitVec.ofNat 16 (credFree s p true)
  emit p [ctrlBlock ([0x4B, 0] ++ toLe 2 f.toNat ++ toLe 2 m.toNat ++ [(s.port[p]).lastSeq])]
    (s.updPort p fun q => { q with limF := f, limM := m, status := false })

def portState (s : State) (p : Port) : Nat := s.fld (F.LINK_PSTAT_STATE p)

/-- The ADAPT block (R236). -/
def sendAdapt (p : Port) (s : State) : State :=
  let up := decide (portState s p = 2)
  let b := up.toNat + 2 * s.fld (F.LINK_PSTAT_LANE1_USED p) + 4 * (s.port[p]).retrainReq.toNat
  emit p [ctrlBlock [0x66, BitVec.ofNat 8 b, BitVec.ofNat 8 (s.fld (F.LINK_LANE_FOM p 0))
    , BitVec.ofNat 8 (s.fld (F.LINK_LANE_FOM p 1))]]
    (s.updPort p fun q => { q with adapt := false, retrainReq := false })

/-- A pending ADAPT goes before anything else (R252). -/
def adaptFirst (p : Port) (f : State → State) (s : State) : State :=
  if (s.port[p]).adapt then thenSend p f (sendAdapt p s) else f s

/-- Does the return lane of a port carry packets: UP or FWD_IDLE? -/
def laneLive (s : State) (p : Port) : Bool := portState s p = 2 || portState s p = 3

/-- Are SPI and CAN FD served: from the end of BOOT, or under the firmware monitor (R393)? DEDUCED: log 51. -/
def busServed (s : State) : Bool := s.mode.dieOn && (s.mode != .boot || s.bit F.PWR_BOOTSTAT_FW_MON)

/-- Is the CAN FD controller on the bus: enabled and not bus-off? -/
def canOn (s : State) : Bool := busServed s && s.can.ctrl.getLsbD 0 && s.fld F.CANF_ERRC_STATE ≠ 2

/-- Can an interface send packets now? -/
def canSend (s : State) : Iface → Bool
  | .portA => laneLive s 0
  | .portB => laneLive s 1
  | .spi => busServed s
  | .can => canOn s

/-- Send everything pending on an interface that can send, in the order of R252. DESIGN CHOICE: log 55. -/
def sendAll (i : Iface) (s : State) : State :=
  let blocks (p : Port) (s : State) : State := adaptFirst p (fun s => s.when (s.port[p]).status (sendStatus p)) s
  if !canSend s i then s else
  let s := match i with
    | .portA => blocks 0 s
    | .portB => blocks 1 s
    | _ => s
  s.forEach (List.range ((s.outq[ifaceIx i]).events.length + (s.outq[ifaceIx i]).resps.length)) fun _ s => sendNext i s

end Sys2Proof.Machine
end

