-- ==== Sys2Proof/Machine/Pins.lean ====
section
/-! DEFINITION. The levels at the pins: the pad groups (R405, R454) and the lands that nothing drives (R468). -/

namespace Sys2Proof.Machine

/-- Lands that the device does not drive at times, or never drives high (R468). -/
inductive Land
  | zenN (z : Zone) | fallbackReq | safeOk | intN (c : Ctx) | mpScl | mpSda | pmb (b : Fin 3) | spiMiso | tdo | hoa0 | hob0
  deriving DecidableEq, Repr

/-- The level of a land that the device does not drive (R468): the pull-ups and the pull-down that the lamp maker must
fit; SPI_MISO, TDO, HOA0 and HOB0 have no level, so theirs is the free bit `f`. DESIGN CHOICE: log 62. -/
def undrivenLevel (l : Land) (f : Word) : Bool :=
  match l with
  | .safeOk => false
  | .spiMiso | .tdo | .hoa0 | .hob0 => f.getLsbD 1
  | _ => true

/-- The level at a land while no transfer, test or training drives it: what the device drives, else what the lamp's circuit
sets (R118, R344, R345, R437, R468). -/
def landLevel (l : Land) (s : State) : Bool :=
  match l with
  | .zenN z => !zenLow s z
  | .fallbackReq => s.bit F.SAFE_STAT_FALLBACK || fallbackCond s
  | .safeOk => s.safe.okLevel
  | .intN c => !intLow s c
  | l => undrivenLevel l (Config.free s.free)

/-- FSYNC_OUT is high: for 8 µs from T_k + FSO_DELAY while the sequencer runs with FSO_EN = 1 (R51). -/
def fsyncOutHigh (s : State) : Bool :=
  s.bit F.SEQ_CTRL_FSO_EN && s.seq.running &&
    match s.seq.fsyncOut with
    | some r => decide (r ≤ s.now) && decide (s.now < r + 800)
    | none => false

/-- The eight pins of the pad groups, from bit 0: INT_N[3:0], SPI_MISO, CAN_TX, FSYNC_OUT, CLKOUT. -/
def padWord (ints : Ctx → Bool) (miso fsync clk : Bool) : BitVec 8 :=
  BitVec.ofNat 8 (allCtx.foldl (fun m c => if ints c then m + 2 ^ c.val else m) 0 + 16 * miso.toNat + 32 +
    64 * fsync.toNat + 128 * clk.toNat)

/-- The CLAMP value of every group (R405), which is also what WAKE and BOOT show after the release (R454): INT_N not
driven, SPI_MISO at high impedance, so a free level (R468), CAN_TX high, FSYNC_OUT and CLKOUT low. -/
def clampLevels (f : Word) : BitVec 8 :=
  padWord (fun c => undrivenLevel (.intN c) f) (undrivenLevel .spiMiso f) false false

/-- Levels that the pins of the pad groups show while no group is clamped or held, and that LATCH groups capture (R405):
open-drain INT_N low for what is pending (R437), SPI_MISO between segments at high impedance, CAN_TX recessive,
FSYNC_OUT within 8 µs of its rise (R51), CLKOUT at a phase the spec leaves open. DESIGN CHOICE: log 62. -/
def padLevels (s : State) : BitVec 8 × State :=
  let (f, t) := s.draw
  (if pinsServed s then
    padWord (fun c => !intLow s c) (undrivenLevel .spiMiso f) (fsyncOutHigh s) (s.fld F.CLK_OUT_SRC ≠ 0 && f.getLsbD 0)
   else clampLevels f, t)

/-- Pins of group `g` in a word of pad levels. -/
def groupMask (g : Nat) : BitVec 8 := if g = 0 then 15 else BitVec.ofNat 8 (2 ^ (g + 3))

/-- The pins of the pad groups (R405, R454): a reset clamps every group; else a held group keeps what it captured, the
others are clamped from SLEEP entry or supply loss to the end of WAKE. DESIGN CHOICE: log 62. -/
def pinLevels (s : State) : BitVec 8 :=
  let clamp := clampLevels (Config.free s.free)
  let held (g : Nat) : Bool := (s.fld F.AON_PADCFG_HELD).testBit g && s.pwr.padCap.getLsbD g
  (List.range 5).foldl (fun m g =>
    let v := if s.pwr.inReset then clamp else if held g then s.pwr.padLevel
      else if s.pwr.clamped then clamp else (padLevels s).1
    m ||| (v &&& groupMask g)) 0

end Sys2Proof.Machine
end

