-- ==== Sys2Proof/Machine/Crypto.lean ====
section
/-! DEFINITION. SHA-256, HMAC-SHA-256 (R263) and ECDSA P-256 verification (R203, R328, R474). -/

namespace Sys2Proof.Machine

/-! ### SHA-256

The constants are the roots they are defined as, and a round keeps the last four values of each of the two sequences
that SHA-256 computes. -/

/-- The largest number below 2^b whose k-th power is at most `n`, above the bits `r` already found. -/
def rootBits (k n : Nat) : Nat → Nat → Nat
  | 0, r => r
  | b + 1, r => rootBits k n b (if (r + 2 ^ b) ^ k ≤ n then r + 2 ^ b else r)

/-- The first 32 bits of the fractional part of the k-th root of `p`. -/
def rootFraction (k p : Nat) : Word := BitVec.ofNat 32 (rootBits k (p * 2 ^ (32 * k)) 37 0)

/-- The first 64 primes. -/
def shaPrimes : List Nat :=
  (List.range 312).filter fun n => 1 < n && (List.range 18).all fun d => d < 2 || n ≤ d || n % d ≠ 0

/-- The constant of every round: cube roots. -/
def shaRoots : List Word := shaPrimes.map (rootFraction 3)

/-- A word from four big-endian bytes. -/
def beWord (bs : List Byte) : Word := bs.foldl (fun w b => (w <<< 8) ||| b.setWidth 32) 0

/-- The four big-endian bytes of a word. -/
def wordBe (w : Word) : List Byte := (toLe 4 w.toNat).reverse

/-- The bytes in groups of `n`; `k` bounds the number of groups. -/
def groups (n : Nat) : Nat → List Byte → List (List Byte)
  | 0, _ => []
  | k + 1, bs => bs.take n :: groups n k (bs.drop n)

/-- Padding to a whole number of 64-byte blocks. -/
def shaPad (bs : List Byte) : List Byte :=
  let n := bs.length
  bs ++ [0x80] ++ List.replicate ((119 - n % 64) % 64) 0 ++ (toLe 8 (8 * n)).reverse

/-- `x` turned right by each of `places`, combined. -/
def turns (x : Word) (places : List Nat) : Word := places.foldl (fun y n => y ^^^ x.rotateRight n) 0

/-- The words of a block, newest first, extended by one. -/
def shaExtend (w : List Word) : List Word :=
  let spread (i p q n : Nat) : Word := let x := w.getD i 0; turns x [p, q] ^^^ (x >>> n)
  (spread 1 17 19 10 + w.getD 6 0 + spread 14 7 18 3 + w.getD 15 0) :: w

/-- The two sequences of SHA-256, each by its last four values, newest first. -/
structure ShaRegs where
  x : List Word
  y : List Word

/-- One round under the sum of its constant and its word. -/
def shaStep (v : ShaRegs) (kw : Word) : ShaRegs :=
  let a (i : Nat) : Word := v.x.getD i 0
  let e (i : Nat) : Word := v.y.getD i 0
  let t := kw + e 3 + (e 2 ^^^ (e 0 &&& (e 1 ^^^ e 2))) + turns (e 0) [6, 11, 25]
  let vote := (a 0 &&& (a 1 ||| a 2)) ||| (a 1 &&& a 2)
  ⟨(t + vote + turns (a 0) [2, 13, 22]) :: v.x.take 3, (a 3 + t) :: v.y.take 3⟩

/-- The chaining value `h` after one block. -/
def shaBlock (roots h : List Word) (blk : List Byte) : List Word :=
  let first := (groups 4 16 blk).map beWord
  let words := ((List.range 48).foldl (fun w _ => shaExtend w) first.reverse).reverse
  let v := (List.zipWith (· + ·) roots words).foldl shaStep ⟨h.take 4, h.drop 4⟩
  List.zipWith (· + ·) h (v.x ++ v.y)

/-- SHA-256 digest, 32 bytes; the chaining value starts as square roots. -/
def sha256 (bs : List Byte) : List Byte :=
  let p := shaPad bs
  let start := (shaPrimes.take 8).map (rootFraction 2)
  ((groups 64 (p.length / 64) p).foldl (shaBlock shaRoots) start).flatMap wordBe

/-- HMAC-SHA-256 under a key of at most 64 bytes. -/
def hmac (key msg : List Byte) : List Byte :=
  let k := key ++ List.replicate (64 - key.length) 0
  sha256 (k.map (· ^^^ 0x5c) ++ sha256 (k.map (· ^^^ 0x36) ++ msg))

/-! ### ECDSA over P-256 -/

def pP : Nat := 0xffffffff00000001000000000000000000000000ffffffffffffffffffffffff
def pN : Nat := 0xffffffff00000000ffffffffffffffffbce6faada7179e84f3b9cac2fc632551
def pB : Nat := 0x5ac635d8aa3a93e7b3ebbd55769886bc651d06b0cc53b0f63bce3c3e27d2604b
def pG : Nat × Nat :=
  (0x6b17d1f2e12c4247f8bce6e563a440f277037d812deb33a0f4a13945d898c296,
   0x4fe342e2fe1a7f9b8ee7eb4a7c0f9e162bce33576b315ececbb6406837bf51f5)

/-- b^e modulo m over `k` bits of e. -/
def powMod (m : Nat) : Nat → Nat → Nat → Nat
  | 0, _, _ => 1 % m
  | k + 1, b, e =>
    let r := powMod m k (b * b % m) (e / 2)
    if e % 2 = 1 then b * r % m else r

/-- Inverse modulo a prime. -/
def invMod (m a : Nat) : Nat := powMod m 256 (a % m) (m - 2)

/-- A point in Jacobian coordinates; z = 0 is the point at infinity. -/
abbrev Jac := Nat × Nat × Nat

def jDouble (q : Jac) : Jac :=
  let (x, y, z) := q
  if z = 0 then q else
  let d := z * z % pP
  let g := y * y % pP
  let b := x * g % pP
  let a := 3 * ((x + pP - d) * (x + d) % pP) % pP
  let x3 := (a * a + 8 * (pP - b)) % pP
  let z3 := 2 * y * z % pP
  let y3 := (a * (4 * b + pP - x3) + 8 * (pP - g * g % pP)) % pP
  (x3, y3, z3)

def jAdd (q r : Jac) : Jac :=
  let (x1, y1, z1) := q
  let (x2, y2, z2) := r
  if z1 = 0 then r else if z2 = 0 then q else
  let z1z := z1 * z1 % pP
  let z2z := z2 * z2 % pP
  let u1 := x1 * z2z % pP
  let u2 := x2 * z1z % pP
  let s1 := y1 * (z2 * z2z % pP) % pP
  let s2 := y2 * (z1 * z1z % pP) % pP
  if u1 = u2 then (if s1 = s2 then jDouble q else (1, 1, 0)) else
  let h := (u2 + pP - u1) % pP
  let rr := (s2 + pP - s1) % pP
  let hh := h * h % pP
  let hhh := h * hh % pP
  let v := u1 * hh % pP
  let x3 := (rr * rr + (pP - hhh) + 2 * (pP - v)) % pP
  let y3 := (rr * (v + pP - x3) + (pP - s1 * hhh % pP)) % pP
  (x3, y3, z1 * z2 % pP * h % pP)

/-- k × q over the low `n` bits of k. -/
def jMul : Nat → Nat → Jac → Jac
  | 0, _, _ => (1, 1, 0)
  | n + 1, k, q =>
    let r := jMul n (k / 2) (jDouble q)
    if k % 2 = 1 then jAdd q r else r

def onCurve (q : Nat × Nat) : Bool :=
  q.1 < pP && q.2 < pP && q ≠ (0, 0) && q.2 * q.2 % pP == (q.1 * q.1 % pP * q.1 + 3 * (pP - q.1) + pB) % pP

/-- A big-endian number. -/
def beNat (bs : List Byte) : Nat := leNat bs.reverse

/-- Does (r, s) verify for the digest of `msg` under the public key? -/
def ecdsaVerify (key : Nat × Nat) (msg : List Byte) (r s : Nat) : Bool :=
  if !onCurve key || r = 0 || s = 0 || pN ≤ r || pN ≤ s then false
  else
    let e := beNat (sha256 msg)
    let w := invMod pN s
    let q := jAdd (jMul 256 (e * w % pN) (pG.1, pG.2, 1)) (jMul 256 (r * w % pN) (key.1, key.2, 1))
    if q.2.2 = 0 then false
    else
      let zi := invMod pP q.2.2
      q.1 * (zi * zi % pP) % pP % pN == r

end Sys2Proof.Machine
end

