-- ==== Sys2Proof/Machine/Store.lean ====
section
/-! DEFINITION. The program store (R409 to R411): map, commit records, valid banks; and the checks of a Molia image
(R201 to R204) and of a signature block (R203). -/

namespace Sys2Proof.Machine

/-- Erased store bytes read 0xFF (assumption 4). PRESUMED: log 4. -/
def storeByte (s : State) (a : Nat) : Byte := Sparse.get (Sparse.all 0xFF) s.store.mem a

def storeBytes (s : State) (a n : Nat) : List Byte := (List.range n).map fun i => storeByte s (a + i)

def putStore (a : Nat) (bs : List Byte) (s : State) : State :=
  { s with store := { s.store with
      mem := (bs.foldl (fun (m : Sparse Byte × Nat) b => (Sparse.put (Sparse.all 0xFF) m.1 m.2 b, m.2 + 1))
        (s.store.mem, a)).1 } }

/-- Erase `n` bytes from `a`. PRESUMED: log 4. -/
def eraseStore (a n : Nat) (s : State) : State :=
  { s with store := { s.store with mem := s.store.mem.filter fun c => c.1 < a || a + n ≤ c.1 } }

/-- Base of bank `b` of partition `p` and its size (R409). -/
def bankBase (p b : Nat) : Nat :=
  match p with
  | 0 => 0x100000 + 0x100000 * b
  | 1 => 0x300000 + 0x200000 * b
  | 2 => 0x700000 + 0x200000 * b
  | 3 => 0xB00000 + 0x10000 * b
  | 4 => 0xB40000 + 0x40000 * b
  | _ => 0xC00000 + 0x800000 * b

def bankSize (p : Nat) : Nat :=
  match p with
  | 0 => 0x100000
  | 1 => 0x200000
  | 2 => 0x200000
  | 3 => 0x10000
  | 4 => 0x40000
  | _ => 0x800000

/-- Address of record `k` of slot `i` of partition `p`. -/
def recAddr (p i k : Nat) : Nat := 0x2000 * p + 0x1000 * i + 32 * k

/-- A commit record as read (R410). -/
structure CommitRec where
  slot : Nat
  k : Nat
  bank : Nat
  gen : Nat
  len : Nat
  crc : Nat
  deriving DecidableEq, Repr

/-- The record at slot `i`, index `k`, if its MAGIC, PART and REC_CRC pass (R411). -/
def readRec (s : State) (p i k : Nat) : Option CommitRec :=
  let b := storeBytes s (recAddr p i k) 32
  if b.take 4 = [0x43, 0x4D, 0x49, 0x54] && leAt b 4 1 = p && leAt b 0x1C 4 = (crc32 (b.take 28)).toNat then
    some { slot := i, k := k, bank := leAt b 5 1, gen := leAt b 8 4, len := leAt b 12 4, crc := leAt b 16 4 }
  else none

/-- Is GEN `a` later than `b`, modulo 2^32? -/
def genLater (a b : Nat) : Bool := 0 < signed 32 (a + 2 ^ 32 - b % 2 ^ 32)

/-- The records of both slots of partition `p` that pass (R411). -/
def goodRecs (s : State) (p : Nat) : List CommitRec :=
  (List.range 2).flatMap fun i => (List.range 128).filterMap fun k => readRec s p i k

/-- The record with the latest GEN. -/
def newestRec (rs : List CommitRec) : Option CommitRec :=
  rs.foldl (fun best r => match best with
    | none => some r
    | some q => if genLater r.gen q.gen then some r else best) none

/-- The record with the latest GEN of partition `p` (R411). -/
def latestRec (s : State) (p : Nat) : Option CommitRec := newestRec (goodRecs s p)

/-- Is record `k` of slot `i` erased? PRESUMED: log 4. -/
def recErased (s : State) (p i k : Nat) : Bool := (storeBytes s (recAddr p i k) 32).all (· == 0xFF)

/-- The bank STORE_WRITE and HOT_SWAP write: the one that is not valid; A where none is (R411). -/
def inactiveBank (s : State) (p : Nat) : Nat :=
  match latestRec s p with
  | some r => 1 - r.bank
  | none => 0

/-- STOR_BANK and the STOR registers of partition `p` (R417). -/
def loadStor (p : Nat) (s : State) : State :=
  match latestRec s p with
  | some r =>
    ((((s.setFld ⟨0x130004, 2 * p, 2⟩ r.bank).setFld (F.STOR_GEN_VALUE p) r.gen).setFld
      (F.STOR_LEN_VALUE p) r.len).setFld (F.STOR_CRC_VALUE p) r.crc)
  | none =>
    (((s.setFld ⟨0x130004, 2 * p, 2⟩ 2).setFld (F.STOR_GEN_VALUE p) 0).setFld
      (F.STOR_LEN_VALUE p) 0).setFld (F.STOR_CRC_VALUE p) 0

/-- Append a commit record for bank `bank` with `len` content bytes (R410). -/
def writeRec (p bank len : Nat) (s : State) : State :=
  let (slot, gen) := match latestRec s p with
    | some r => (r.slot, r.gen + 1)
    | none => (0, 1)
  let used := (List.range 128).filter fun k => !recErased s p slot k
  let k := (used.max?.map (· + 1)).getD 0
  let (slot, k, s) := if k < 128 then (slot, k, s) else (1 - slot, 0, eraseStore (recAddr p (1 - slot) 0) 0x1000 s)
  let crc := (crc32 (storeBytes s (bankBase p bank) len)).toNat
  let b := [0x43, 0x4D, 0x49, 0x54] ++ toLe 1 p ++ toLe 1 bank ++ [0, 0] ++ toLe 4 gen ++ toLe 4 len ++ toLe 4 crc
    ++ toLe 4 s.uptime ++ [0, 0, 0, 0]
  loadStor p (putStore (recAddr p slot k) (b ++ toLe 4 (crc32 b).toNat) s)

/-- The content that record `r` of partition `p` names, if its DATA_CRC passes (R406). -/
def recContent (s : State) (p : Nat) (r : CommitRec) : Option (List Byte) :=
  let c := storeBytes s (bankBase p r.bank) r.len
  if (crc32 c).toNat = r.crc then some c else none

/-- The content of the valid bank of partition `p`, if its DATA_CRC passes (R406). -/
def validContent (s : State) (p : Nat) : Option (List Byte) :=
  match latestRec s p with
  | none => none
  | some r => recContent s p r

/-! ### Signature blocks and image checks -/

/-- Does the 80-byte block at `o` verify over the bytes before it, with the key its KEY_SLOT names (R203)? -/
def sigPasses (key : Nat → Option (Nat × Nat)) (bs : List Byte) (o : Nat) : Bool :=
  let blk := (bs.drop o).take 80
  match key (leAt blk 0 1) with
  | none => false
  | some k => blk.length = 80 && ((blk.drop 1).take 15).all (· == 0)
      && ecdsaVerify k (bs.take o) (leAt blk 16 32) (leAt blk 48 32)

/-- A section table entry (R202). -/
structure Section where
  type : Nat
  sflags : Nat
  offset : Nat
  size : Nat
  dest : Nat
  deriving DecidableEq, Repr

def sectionAt (bs : List Byte) (i : Nat) : Section :=
  let o := 64 + 16 * i
  { type := leAt bs o 2, sflags := leAt bs (o + 2) 2, offset := leAt bs (o + 4) 4, size := leAt bs (o + 8) 4
    dest := leAt bs (o + 12) 4 }

def sections (bs : List Byte) : List Section := (List.range (leAt bs 0x0A 2)).map (sectionAt bs)

/-- Do two sections overlap? One of size 0 does when its OFFSET lies inside the other. DESIGN CHOICE: log 153. -/
def overlaps (a b : Section) : Bool := a.offset < b.offset + b.size && b.offset < a.offset + a.size

/-- IMG_CRC over the image with its own field counted as 0, or over its signed part (R204); of a part that is longer than
what the source holds, the bytes there are. DESIGN CHOICE: log 166. -/
def imgCrc (bs : List Byte) (l : Nat) : Word := crc32 (bs.take 0x28 ++ [0, 0, 0, 0] ++ (bs.take l).drop 0x2C)

/-- Key slot `i` of the checked configuration block, if a key is installed (R203, R328). -/
def molKey (s : State) (i : Nat) : Option (Nat × Nat) :=
  match s.safe.molKeys[i]? with
  | some k => if k = (0, 0) then none else some k
  | none => none

/-- The checks of R204 on the bytes a source holds, in order: the number of the first that fails, or 0. -/
def imageCheck (s : State) (bs : List Byte) : Nat :=
  let isz := leAt bs 0x0C 4
  let sc := leAt bs 0x0A 2
  let flags := leAt bs 0x1C 4
  let sigOff := leAt bs 0x2C 4
  let cw := leAt bs 0x18 4
  let ss := sections bs
  let stop := if flags % 2 = 1 then sigOff else isz
  if leAt bs 0 4 ≠ 0x494C4F4D || bs.length < 64 then 1
  else if leAt bs 4 2 ≠ 1 || leAt bs 6 2 ≠ 1 || leAt bs 8 2 ≠ 64 || leAt bs 0x26 2 ≠ 0 || leAt bs 0x30 16 ≠ 0
    || flags > 1 then 2
  else if sc = 0 || sc > 8 || isz < 64 + 16 * sc || isz > 2097152 || isz > bs.length then 3
  else if ss.any (fun x => x.type = 0 || x.type > 3 || x.sflags ≠ 0 || x.dest ≠ 0)
    || (ss.filter fun x => x.type = 1).length ≠ 1 then 4
  else if ss.any (fun x => x.offset % 16 ≠ 0 || x.offset < 64 + 16 * sc || x.offset + x.size > stop)
    || (List.range sc).any (fun i => (List.range i).any fun j => overlaps (sectionAt bs i) (sectionAt bs j)) then 5
  else if cw = 0 || cw > 32768 || ss.any (fun x => x.type = 1 && x.size ≠ 4 * cw) then 6
  else if cw ≤ leAt bs 0x10 4 || cw ≤ leAt bs 0x14 4 then 7
  else if leAt bs 0x28 4 ≠ (imgCrc bs stop).toNat then 8
  else if flags = 0 then (if sigOff ≠ 0 || s.safe.cfgFlags.getLsbD 0 then 9 else 0)
  else if sigOff % 16 ≠ 0 || isz ≠ sigOff + 80 || !sigPasses (molKey s) bs sigOff then 9
  else 0

/-- Step 1 of a cold start (R169): memories, registers V, P and S and queues of the engine to 0, no image; the registers of
its register block stay. DESIGN CHOICE: log 148. -/
def clearEngine (e : Side) (s : State) : State :=
  s.updEng e fun g => { role := g.role, powered := g.powered, gated := g.gated, tx := g.tx }

/-- Load a checked image (R169 steps 2 and 3, R202). -/
def loadImage (e : Side) (bs : List Byte) (s : State) : State :=
  let cw := leAt bs 0x18 4
  let off := (((sections bs).filter fun x => x.type = 1).map (·.offset)).headD 0
  let words := (List.range cw).map fun i => (i, BitVec.ofNat 32 (leAt bs (off + 4 * i) 4))
  (clearEngine e s).updEng e fun g =>
    { g with imgValid := true, imgCrc := BitVec.ofNat 32 (leAt bs 0x28 4), codeWords := cw
             frameEntry := leAt bs 0x10 4, tileEntry := leAt bs 0x14 4
             pm := words.filter fun c => c.2 ≠ 0 }

/-- Cold start from the image bytes `bs` (R169): the failed check of R204, or 0, and the state. -/
def coldStartFrom (e : Side) (bs : List Byte) (s : State) : Nat × State :=
  let k := imageCheck s bs
  (k, if k = 0 then loadImage e bs s else clearEngine e s)

/-- Cold start from the valid MOL bank; no valid bank or a bad DATA_CRC leaves no image. -/
def coldStart (e : Side) (s : State) : State :=
  match validContent s 1 with
  | some bs => (coldStartFrom e bs s).2
  | none => clearEngine e s

/-- IMG_CRC of the valid MOL bank, if it holds one. -/
def molCrc (s : State) : Option Word := (validContent s 1).map fun bs => BitVec.ofNat 32 (leAt bs 0x28 4)

/-! ### Optics table -/

/-- Is the table of R215 valid? -/
def opticsValid (bs : List Byte) : Bool :=
  6148 ≤ bs.length && leAt bs 6144 4 = (crc32 (bs.take 6144)).toNat
    && (List.range 2047).all (fun x => signed 16 (leAt bs (2 * x) 2) < signed 16 (leAt bs (2 * x + 2) 2))
    && (List.range 1023).all (fun y => signed 16 (leAt bs (4096 + 2 * y + 2) 2) < signed 16 (leAt bs (4096 + 2 * y) 2))

/-- Load the optics table from the valid OPT bank; OPT_VALID shows whether it is valid (R215). The bank's DATA_CRC is that
of all its LENGTH bytes (R406, R410). DESIGN CHOICE: log 167. -/
def loadOptics (s : State) : State :=
  match validContent s 4 with
  | some bs =>
    let h := (List.range 2048).map fun x => (x, BitVec.ofNat 16 (leAt bs (2 * x) 2))
    let v := (List.range 1024).map fun y => (2048 + y, BitVec.ofNat 16 (leAt bs (4096 + 2 * y) 2))
    let s : State := { s with ffn := { s.ffn with optics := (h ++ v).filter fun c => c.2 ≠ 0 } }
    s.setBit F.FFN_STAT_OPT_VALID (opticsValid bs)
  | none => s.setBit F.FFN_STAT_OPT_VALID false

/-- Store bytes in the uniformity region (R123), with fresh check bits. -/
def putUni (off : Nat) (bs : List Byte) (s : State) : State :=
  let a := 0x1600000 + off
  let cells := (bs.zipIdx.map fun c => (a + c.2, c.1)).filter fun c => c.2 ≠ 0
  { s with br := { s.br with
      mem := (s.br.mem.filter fun c => c.1 < a) ++ cells ++ (s.br.mem.filter fun c => a + bs.length ≤ c.1)
      poison := s.br.poison.filter fun c => c.1 < a / 8 || (a + bs.length) / 8 ≤ c.1 } }

/-- Load the uniformity region from the valid UNI bank, or fill it with 224 (R406, R407). -/
def loadUni (s : State) : State :=
  match validContent s 2 with
  | some bs => (putUni 0 (bs.take 0x200000 ++ List.replicate (0x200000 - bs.length) 0) s).setBit F.PWR_BOOTSTAT_UNI_BAD false
  | none => (putUni 0 (List.replicate 0x200000 224) s).setBit F.PWR_BOOTSTAT_UNI_BAD true

end Sys2Proof.Machine
end

