-- ==== Sys2Proof/Machine/SafeCfg.lean ====
section
/-! DEFINITION. The safety configuration block (R328) and its checks (R329), and the firmware signature (R474). -/

namespace Sys2Proof.Machine

/-- The reserved bytes of R328 before 0x0240: offset and count. A reserved bit of another byte is not loaded. -/
def cfgReserved : List (Nat × Nat) :=
  [(0x58, 8), (0xB8, 8), (0x135, 11)]
  ++ (List.range 4).flatMap (fun c => [(0x15 + 16 * c, 3), (0x1C + 16 * c, 4)])
  ++ (List.range 4).map (fun w => (0x10B + 12 * w, 1))

/-- BIND code of context `c`. -/
def cfgBind (bs : List Byte) (c : Nat) : Nat := leAt bs (0x10 + 16 * c) 1

/-- LENGTH of the block. -/
def cfgLen (bs : List Byte) : Nat := leAt bs 8 4

def cfgSum (f : Nat → Nat) (n : Nat) : Nat := ((List.range n).map f).sum

/-- Form of the block: MAGIC, VERSION, LENGTH, reserved bytes, quotas, BIND codes (R258, R329). -/
def cfgFormOk (bs : List Byte) : Bool :=
  let n := cfgLen bs
  bs.take 4 = [0x53, 0x46, 0x43, 0x46] && leAt bs 4 2 = 1
    && n % 16 = 0 && decide (0x240 ≤ n) && decide (n ≤ 65456) && decide (n + 80 ≤ bs.length)
    && cfgReserved.all (fun r => ((bs.drop r.1).take r.2).all (· == 0))
    && ((bs.take n).drop 0x240).all (· == 0)
    && decide (cfgSum (fun c => leAt bs (0x12 + 16 * c) 2) 4 ≤ 5632)
    && decide (cfgSum (fun c => leAt bs (0x14 + 16 * c) 1) 4 ≤ 64)
    && (List.range 4).all (fun c => decide (cfgBind bs c ≤ 4))
    && [3, 4].all fun b => decide (((List.range 4).filter fun c => cfgBind bs c = b).length ≤ 1)

/-- The checks of R329 on the bytes a bank holds: 0 passed, 1 form, 2 signature. -/
def cfgCheck (bs : List Byte) : Nat :=
  if !cfgFormOk bs then 1
  else if sigPasses (fun i => if i = 0 then some Config.configKey else none) bs (cfgLen bs) then 0 else 2

/-- Does a firmware image of these bytes carry a good signature (R474)? -/
def fwPasses (bs : List Byte) : Bool :=
  decide (80 ≤ bs.length) && sigPasses (fun i => if i = 0 then some Config.firmwareKey else none) bs (bs.length - 80)

end Sys2Proof.Machine
end

