-- ==== Sys2Proof/Machine/Jobs.lean ====
section
/-! DEFINITION. The work of a LONG command on berths and the program store while it runs: the reading of its berth
(R208), its checks (R204, R412), the erase and program operations of R413 under the window of R390, how far it has come
(R417), and what a pre-emption or a reset leaves of it (R269). -/

namespace Sys2Proof.Machine

/-! ### The store window (R390) -/

/-- May the store be erased or programmed? -/
def storeWindow (s : State) : Bool :=
  let t := s.fldI F.THRM_TEMP_DIE
  !s.bit F.THRM_STAT_DIE_FAIL && s.therm.dieValid && decide (-250 ≤ t) && decide (t ≤ 950)

/-- A command ended by the window is counted and raises event 60. -/
def storeCold (s : State) : State := raiseAll 60 (s.fld F.THRM_TEMP_DIE) (s.inc F.STOR_ERR_TEMP_BLK)

/-! ### Checks of what was read -/

/-- Response payload of PROG_LOAD and HOT_SWAP: CHECK and IMG_CRC. -/
def checkData (check : Nat) (crc : Word) : List Byte := [BitVec.ofNat 8 check, 0, 0, 0] ++ wordBytes crc

/-- Status that R207 gives a CHECK. -/
def checkStatus : Nat → Status
  | 0 => .ok
  | 9 => .authFail
  | 12 => .modeReject
  | _ => .badArg

/-- IMG_CRC as the response carries it: 0 when check 1 to 7 failed. -/
def respCrc (check : Nat) (bs : List Byte) : Word :=
  if 1 ≤ check && check ≤ 7 then 0 else BitVec.ofNat 32 (leAt bs 0x28 4)

/-- Checks of R204 and EXP_CRC on the bytes read. -/
def loadCheck (s : State) (bs : List Byte) (expCrc : Nat) : Nat :=
  match imageCheck s bs with
  | 0 => if expCrc ≠ 0 ∧ leAt bs 0x28 4 ≠ expCrc then 10 else 0
  | k => k

/-- The content check of partition `p` (R412). DEDUCED: log 47. -/
def contentCheck (s : State) (p : Nat) (bs : List Byte) : Status :=
  match p with
  | 0 => if fwPasses bs then .ok else .authFail
  | 1 => match imageCheck s bs with | 0 => .ok | 9 => .authFail | _ => .badArg
  | 3 => match cfgCheck bs with | 0 => .ok | 2 => .authFail | _ => .badArg
  | 4 => if opticsValid bs then .ok else .badArg
  | _ => .ok

/-- The check of a job's bytes: CHECK of an image, and the status. -/
def jobCheck (s : State) (j : LongJob) : Nat × Status :=
  match j.kind with
  | .storeWrite =>
    if j.want ≠ 0 ∧ j.want ≠ (crc32 j.data).toNat then (0, .badArg) else (0, contentCheck s j.part j.data)
  | .storeRead => (0, .ok)
  | _ => let k := loadCheck s j.data j.want; (k, checkStatus k)

/-! ### Operations on the store -/

/-- The bytes a job writes: all it read, or the image at the start of the berth (R212). -/
def LongJob.out (j : LongJob) : List Byte :=
  match j.kind with
  | .storeWrite => j.data
  | .hotSwap => j.data.take (leAt j.data 0x0C 4)
  | _ => []

/-- 4 KiB units of a job: sectors it writes, or units that STORE_READ moves. -/
def LongJob.total (j : LongJob) : Nat :=
  if j.kind == .storeRead then j.len / 4096 else ceilDiv j.out.length 4096

/-- The next operation of a job on the store: an erase (R413 step 2), a unit programmed and read back (step 3), the
commit record (step 4). -/
inductive StoreOp where
  | erase (i : Nat)
  | program (i : Nat)
  | record
  deriving DecidableEq, Repr

def LongJob.next (j : LongJob) : Option StoreOp :=
  if !j.checked then none
  else if j.kind != .storeRead && j.erased < j.total then some (.erase j.erased)
  else if j.units < j.total then some (.program j.units)
  else if j.commit && !j.recorded then some .record
  else none

/-- Where sector `i` of a job lies in the store. -/
def LongJob.at (j : LongJob) (i : Nat) : Nat := bankBase j.part j.bank + j.off + 4096 * i

/-- The findings that meet an operation, in their order: failures of the erase at step 2 of R413, of the programming or
the comparison at step 3, any of them at the record, whose sector follows the last one. DESIGN CHOICE: log 48. -/
def LongJob.findings (j : LongJob) (op : StoreOp) : List FlashFail :=
  if j.kind == .storeRead then [] else j.env.flash.filter fun f => match op with
    | .erase i => f.sector = i && f.step == .erase
    | .program i => f.sector = i && f.step != .erase
    | .record => f.sector = j.total

/-- The failures of an operation until it succeeds or has failed twice: it is retried once (R413). -/
def LongJob.failures (j : LongJob) (op : StoreOp) : List FlashStep :=
  ((j.findings op).flatMap fun f => if f.again then [f.step, f.step] else [f.step]).take 2

/-- Does an operation fail a second time (R413)? -/
def LongJob.failsTwice (j : LongJob) (op : StoreOp) : Bool := (j.failures op).length == 2

/-- Count one failure of a sector (STOR_ERR). -/
def countFail (k : FlashStep) (s : State) : State :=
  s.inc (if k == .compare then F.STOR_ERR_VERIFY_FAIL else F.STOR_ERR_PROG_FAIL)

/-- Count the failures of an operation. -/
def countFails (j : LongJob) (op : StoreOp) (s : State) : State := (j.failures op).foldl (fun s k => countFail k s) s

/-- `n` free words as bytes: content the spec leaves open. DESIGN CHOICE: log 48. -/
def freeBytes (n : Nat) (s : State) : List Byte × State :=
  ((List.range n).flatMap fun i => toLe 4 (Config.free (s.free + i)).toNat, { s with free := s.free + n })

/-- Sector `i` of a job holds open content: its erase or program failed, or was cut. DESIGN CHOICE: log 48. -/
def spoilSector (j : LongJob) (i : Nat) (s : State) : State :=
  let (x, s) := freeBytes 1024 s
  putStore (j.at i) x (eraseStore (j.at i) 4096 s)

/-- An operation that succeeds, at once or when it is retried. -/
def doOp (op : StoreOp) (j : LongJob) (s : State) : LongJob × State :=
  let s := countFails j op s
  match op with
  | .erase i => ({ j with erased := i + 1 }, eraseStore (j.at i) 4096 s)
  | .program i =>
    ({ j with units := i + 1 },
      if j.kind == .storeRead then s else putStore (j.at i) ((j.out.drop (4096 * i)).take 4096) s)
  | .record => ({ j with recorded := true }, writeRec j.part j.bank (j.off + j.out.length) s)

/-- Up to `n` operations, while the window is open and none fails twice (R390, R413). -/
def runOps : Nat → LongJob → State → LongJob × State
  | 0, j, s => (j, s)
  | n + 1, j, s =>
    match j.next with
    | none => (j, s)
    | some op =>
      if j.cold then (j, s)
      else if j.kind != .storeRead && !storeWindow s then ({ j with cold := true }, s)
      else if j.failsTwice op then (j, s)
      else
        let (j, s) := doOp op j s
        runOps n j s

/-- The operation that a job stops at has failed twice: both failures are counted and a sector of data is left open; a
record that fails is not written (R413). -/
def failOp (j : LongJob) (s : State) : State :=
  match j.next with
  | some (.erase i) => spoilSector j i (countFails j (.erase i) s)
  | some (.program i) => spoilSector j i (countFails j (.program i) s)
  | some .record => countFails j .record s
  | none => s

/-! ### Progress -/

/-- Words a job has still to read from its berth. -/
def LongJob.unread (j : LongJob) : Nat := if j.src.isSome then (j.len - j.data.length) / 4 else 0

/-- Read `n` more words of the source berth, each byte once (R208); after the last, the bytes are checked. -/
def readMore (n : Nat) (j : LongJob) (s : State) : LongJob × State :=
  match j.src with
  | none => (j, s)
  | some a =>
    let (bs, s) := readBerth (a + j.data.length) (4 * n) j.env.ecc s
    let j := { j with data := j.data ++ bs }
    (if j.unread = 0 && (jobCheck s j).2 == .ok && (j.kind == .storeWrite || j.kind == .hotSwap) then
      { j with checked := true } else j, s)

/-- Put a job back with what STOR_STAT shows of it (R417). -/
def putJob (j : LongJob) (s : State) : State :=
  let erasing := match j.next with | some (.erase _) => j.kind == .storeWrite | _ => false
  let s := (s.setBit F.STOR_STAT_ERASING erasing).setFld F.STOR_STAT_DONE j.units
  { s with long := s.long.map fun l => { l with job := some j } }

/-- The job of the running LONG command. -/
def State.job (s : State) : Option LongJob :=
  match s.long with
  | some l => l.job
  | none => none

/-- The running job comes an open way forward: as far as a free value takes it, but not to the command's end.
DESIGN CHOICE: log 7. -/
def advanceJob (s : State) : State :=
  match s.job with
  | none => s
  | some j =>
    let (w, s) := s.draw
    let k := w.toNat
    let r := min k j.unread
    let (j, s) := if r = 0 then (j, s) else readMore r j s
    let (j, s) := if j.unread = 0 then runOps ((k - r) % (2 * j.total + 2)) j s else (j, s)
    putJob j s

/-- The running job's work is done as far as it can be done. -/
def runJob (j : LongJob) (s : State) : LongJob × State :=
  let (j, s) := if j.unread = 0 then (j, s) else readMore j.unread j s
  runOps (2 * j.total + 1) j s

/-- No operation of the store runs any more. -/
def storeIdle (s : State) : State := (s.setBit F.STOR_STAT_BUSY false).setBit F.STOR_STAT_ERASING false

/-- The running job is cut (R269, R413): it has come an open way, and the operation under way leaves its sector
open. DESIGN CHOICE: log 48. -/
def cutJob (s : State) : State :=
  let s := advanceJob s
  storeIdle (match s.job with
    | some j => match j.next with
      | some (.erase i) => spoilSector j i s
      | some (.program i) => if j.kind == .storeRead then s else spoilSector j i s
      | _ => s
    | none => s)

/-- A PROG_LOAD that is cut leaves the engines as they were, BE-B without an image, or BE-B loaded and BE-A
without an image, which of them is open. DESIGN CHOICE: log 49. -/
def cutLoad (bs : List Byte) (s : State) : State :=
  let (w, s) := s.draw
  let drop (e : Side) (s : State) : State := (clearEngine e s).setRole e .offline
  match w.toNat % 3 with
  | 0 => s
  | 1 => drop .b s
  | _ => drop .a (loadImage .b bs s)

/-- What a cut LONG command reports (R269): a STORE_WRITE whose record is written is OK (R413); PROG_LOAD and HOT_SWAP
carry CHECK 0x0C (R207). -/
def cutReport (l : LongCmd) : Status × List Byte :=
  match l.job with
  | some j =>
    if j.kind == .storeWrite && j.recorded then (.ok, [])
    else if j.kind == .progLoad || j.kind == .hotSwap then (.modeReject, checkData 12 (respCrc 12 j.data))
    else (.modeReject, [])
  | none => (.modeReject, if l.code = 0x31 || l.code = 0x32 then checkData 12 0 else [])

/-- End a pre-empted LONG command (R269, R413). DEDUCED: log 83. -/
def preemptLong (s : State) : State :=
  if s.long.isNone then s
  else
    let s := cutJob s
    match s.long with
    | none => s
    | some l =>
      let s := match l.job with
        | some j => if j.kind == .progLoad && j.unread = 0 && (jobCheck s j).2 == .ok then cutLoad j.data s else s
        | none => s
      sendFinal (cutReport l).1 (cutReport l).2 s

end Sys2Proof.Machine
end

