-- ==== Sys2Proof/Machine/Modes.lean ====
section
/-! DEFINITION. Starting and stopping the sequencer (R42, R58, R476), mode changes (R393 to R398), device lock-outs
(R338), and what a mode change ends: calibration (R379), resynchronisation (R311), a running MODE_REQ (R316). -/

namespace Sys2Proof.Machine

/-! ### The sequencer -/

/-- Every cluster stops, part-way through its routine; tug entries not yet carried out are discarded (R154, R200).
DESIGN CHOICE: log 120. -/
def stopClusters (e : Side) (s : State) : State :=
  s.updEng e fun g =>
    { g with cl := g.cl.map fun c => { c with run := .idle, tugs := [], full := [] }, served := .replicate 8 [] }

/-- Composition ends on both sides. -/
def stopCompose (s : State) : State :=
  let s := stopClusters .b (stopClusters .a s)
  { s with ffn := { s.ffn with composing := false } }

/-- The sequencer starts from the stopped state: its next tick is T_0 (R42), before which no frame is composed and no
order sent. DESIGN CHOICE: log 142. -/
def seqStart (s : State) : State :=
  { s with seq := { s.seq with running := true, started := false, due := s.now * 256, order := none, swap := false
                               aborted := false, prevAborted := false, third := false, lastEdge := none, intervals := []
                               missed := 0, gotEdge := false, outside := 0, toRate := false }
           stk := { s.stk with back := .replicate 16 {}, orders := .replicate 16 none } }

/-- A pending set is discarded when the sequencer stops (R58); SEQ_COMMITFRMc names the last one applied again. -/
def dropCommit (c : Ctx) (s : State) : State :=
  match (s.ctx[c]).commit with
  | none => s
  | some _ =>
    (s.updCtx c fun x => { x with commit := none }).setFld (F.SEQ_COMMITFRM_APPLY_FRAME c) (s.ctx[c]).lastApplied.toNat

/-- The sequencer stops: R42, R58, R76, R132, R476; the frame in the back buffer is never displayed. Of SEQ_UNDERRUN
only the third abort's mark goes.
DEDUCED: log 22. DESIGN CHOICE: log 143. -/
def seqStop (s : State) : State :=
  let q : SeqState := { s.seq with running := false, started := false, order := none, swap := false
                                   aborted := false, prevAborted := false, third := false, fsyncOut := none }
  let k : StackState := { s.stk with front := [], trimEff := s.stk.trim, shorten := [], back := .replicate 16 {}
                                     orders := .replicate 16 none }
  let f : SafeState := { s.safe with held := .replicate 16 [], shown := .replicate 16 {}, seen := 0xFFFF
                                     blind := 0, gwCut := 0, coreGw := 0, optDue := [], optAt := [] }
  let d : DiagState := { s.diag with zcrcShown := .replicate 16 none, zcrcNext := .replicate 16 none }
  let s : State := { s with seq := q, stk := k, safe := f, diag := d }
  let s := s.forEach allCtx dropCommit
  let s := (s.setFld F.SEQ_PERIOD_PERIOD 0).setFld F.SEQ_LOCKSTAT_STATE 0
  berthTick [] (stopCompose s)

/-! ### Calibration and resynchronisation -/

/-- VF_CAL, T_CAL and ICODE_CAL that step 4 of CAL_ZONE has replaced hold their words again (R379). -/
def restoreCal (s : State) : State :=
  match s.cal.zone, s.cal.held with
  | some z, some (vf, tc, ic) =>
    ((s.setFld (F.RAIL_ZVF_VF_CAL z) vf).setFld (F.RAIL_ZVF_T_CAL z) tc).setFld (F.RAIL_ZCFG_ICODE_CAL z) ic
  | _, _ => s

/-- A running full calibration or CAL_ZONE is abandoned: its working trims are discarded and the trim window holds
the previous trims (R379). -/
def abandonCal (s : State) : State :=
  if s.bit F.CAL_STAT_RUNNING then
    let s := if s.cal.zone.isNone then { s with stk := { s.stk with trim := s.cal.prev, trimEff := s.cal.prev } } else s
    let s := restoreCal ((s.setBit F.CAL_STAT_RUNNING false).setFld F.CAL_STAT_LAST_RESULT 3)
    let s := s.setBit F.CAL_STAT_LAST_KIND s.cal.zone.isSome
    let s := match s.cal.zone with | some z => s.setFld F.CAL_STAT_LAST_ZONE z.val | none => s
    { s with cal := { s.cal with work := [], done := [], kept := [], zone := none, dark := false, committed := false
                                 ready := false, held := none, asked := [] } }
  else s

/-- Role of a unit. -/
def roleOf (s : State) : UnitNo → Role
  | .beA => s.engA.role
  | .beB => s.engB.role
  | .hmA => s.dplx.hmA
  | .hmB => s.dplx.hmB

def setUnitRole (u : UnitNo) (r : Role) (s : State) : State :=
  match u with
  | .beA => s.setRole .a r
  | .beB => s.setRole .b r
  | .hmA => { s with dplx := { s.dplx with hmA := r } }
  | .hmB => { s with dplx := { s.dplx with hmB := r } }

/-- Are the clocks of the unit's side gated (R427)? -/
def unitGated (s : State) (u : UnitNo) : Bool :=
  match u with
  | .beA => s.engA.gated
  | .hmA => s.engA.gated
  | .beB => s.engB.gated
  | .hmB => s.engB.gated

/-- Resynchronisation aborts with `cause` (R311). -/
def abortResync (cause : Nat) (s : State) : State :=
  match s.dplx.rsUnit with
  | none => s
  | some u =>
    let s := ((s.inc F.DPLX_RESYNC_AB_CNT).setFld F.DPLX_RESYNC_AB_CAUSE cause).setFld F.DPLX_STAT_RS_PHASE 0
    let s := raiseAll 28 ((unitIx u).val + cause * 16) s
    let s := { s with dplx := { s.dplx with rsUnit := none, rsDone := false } }
    if cause = 2 then setUnitRole u .failed s
    else if cause = 4 || cause = 5 then { s with dplx := { s.dplx with rsAgain := s.dplx.rsAgain ++ [u] } }
    else if cause = 6 then setUnitRole u .offline s
    else s

/-! ### Requests and LONG commands -/

/-- The mode reached, as the final record of MODE_REQ carries it (R395). -/
def modeWord (s : State) : List Byte := toLe 4 s.mode.code

/-- A running MODE_REQ ends with `st` (R396, R397). DEDUCED: log 84. -/
def endModeReq (st : Status) (s : State) : State :=
  match s.pwr.req with
  | none => s
  | some r =>
    let s := sendFinal st (modeWord s) { s with pwr := { s.pwr with req := none } }
    if st = .ok then s else rejectModeReq r.ctx r.target.code st s

/-- SAFE-DARK ends HOT_SWAP with CHECK 0x0C (R213); before the image is written preemptLong cuts its work.
DEDUCED: log 83. -/
def preemptHotSwap (s : State) : State :=
  match s.dplx.hot with
  | none => s
  | some h =>
    let s := { s with dplx := { s.dplx with hot := none } }
    if h.step = 1 then s
    else sendFinal .modeReject (checkData 12 h.crc) (s.updEng h.newSide fun g => { g with tileLimit := 0 })

/-- What entry to SAFE-DARK ends (R269, R316). DEDUCED: log 83. -/
def preemptAll (s : State) : State :=
  let s := preemptLong (preemptHotSwap (endModeReq .modeReject s))
  { s with cal := { s.cal with zone := none, dark := false, committed := false } }

/-! ### Mode changes -/

/-- Reloads that a change out of DARK or SERVICE makes before event 51: UNI and OPT from SERVICE to DARK
(R215, R412), engines whose image is not the valid MOL bank's (R210). DEDUCED: log 85. -/
def leaveReloads (m : Mode) (s : State) : State :=
  let s := if s.mode == .service && m == .dark then loadOptics (loadUni s) else s
  let differs (e : Side) : Bool := match molCrc s with
    | some c => !(s.eng e).imgValid || (s.eng e).imgCrc ≠ c
    | none => (s.eng e).imgValid
  if s.darkOrService && m != s.mode && (differs .a || differs .b) then coldStart .a (coldStart .b s) else s

/-- PROFILE returns to 0 and IST_EN to 1 on leaving SERVICE (R162, R368). -/
def leaveService (s : State) : State :=
  ((s.setFld ⟨0x90000, 0, 1⟩ 0).setFld ⟨0xA0000, 0, 1⟩ 0).setBit F.DIAG_CTRL_IST_EN true

/-- A unit starts a cold start (R169): powered, COLD-STARTING, loading. -/
def startCold (u : UnitNo) (s : State) : State :=
  let s := match unitSide u with
    | some e => clearEngine e (s.updEng e fun g => { g with powered := true })
    | none => s
  let s := setUnitRole u .coldStarting s
  { s with dplx := { s.dplx with loading := s.dplx.loading ||| BitVec.ofNat 4 (2 ^ (unitIx u).val)
                                 testing := s.dplx.testing &&& ~~~ BitVec.ofNat 4 (2 ^ (unitIx u).val) } }

/-- An engine that LOWLIGHT left unpowered is powered (R168): an OFFLINE one is cold-started, a FAILED one waits for
its recovery (R312). -/
def powerUnpowered (s : State) : State :=
  s.forEach sides fun e s =>
    if (s.eng e).powered then s
    else if (s.eng e).role == .offline then startCold (unitOfSide e) s
    else s.updEng e fun g => { g with powered := true }

/-- Publish a new non-zero challenge (R331). DEDUCED: log 74. -/
def publishQ (s : State) : State :=
  let (w, s) := s.draw
  let s := s.setFld F.SAFE_LEGACY_Q (1 + w.toNat % 65535)
  { s with safe := { s.safe with qAt := s.now } }

/-- Change the mode with a cause of event 51 (R398). In legacy mode the first entry to DARK publishes the challenge
(R331). DEDUCED: log 84, 137. -/
def enterMode (m : Mode) (cause : Nat) (s : State) : State :=
  let old := s.mode
  let s := leaveReloads m s
  let s := if old == .service then leaveService s else s
  let s := (s.setFld F.PWR_MODE_PREV old.code).setFld F.PWR_MODE_CAUSE cause
  let since := if old == .hold && s.pwr.hold == .underrun then some 0 else s.pwr.shownSince
  let s := { s with pwr := { s.pwr with mode := m, hold := if m == .hold then s.pwr.hold else .none, shownSince := since } }
  let s := raiseAll 51 (m.code + old.code * 16 + cause * 256) s
  let s := s.setBit F.SAFE_STAT_BW_HOLD (m == .hold)
  let s := if m.ticks && !s.seq.running then seqStart s else if !m.ticks && s.seq.running then seqStop s else s
  let s := if m == .dark || m == .safeDark then railsDark s else s
  let s := if m == .safeDark || m == .hold then stopCompose s else s
  let s := if m == .dark then
      let s := powerUnpowered s
      let s := s.setFld F.DIAG_FRZ_ZFRZ (s.fld F.DIAG_FRZ_ZFRZ &&& (~~~s.diag.frzKept).toNat)
      let s : State := { s with diag := { s.diag with frzKept := 0, frzCut := s.diag.frzCut &&& ~~~s.diag.frzKept } }
      if s.bit F.SAFE_STAT_ARCH_LEGACY && s.fld F.SAFE_LEGACY_Q = 0 then publishQ s else s
    else s
  { s with seq := { s.seq with wasLowlight := s.seq.wasLowlight || old == .lowlight } }

/-- A change the LX2100 makes itself: a running MODE_REQ ends with MODE_REJECT (R316). DEDUCED: log 84. -/
def ownChange (m : Mode) (cause : Nat) (s : State) : State := endModeReq .modeReject (enterMode m cause s)

/-- Enter HOLD (R66, R313, R213, R319), from the modes that have this change (R395). HOLD is timed from its entry tick
(R315). DEDUCED: log 135. -/
def enterHold (k : HoldKind) (s : State) : State :=
  if !s.mode.isBeam then s
  else
    let stay := k == .hm ||
      (k == .underrun && (match s.pwr.shownSince with | some n => decide (n < 256) | none => false))
    let s := { s with pwr := { s.pwr with hold := k, holdFrom := s.mode, holdStay := stay } }
    ownChange .hold (if k == .underrun then 4 else 2) s

/-- A device lock-out (R338): the record, then SAFE-DARK, which ends calibration, resynchronisation and every LONG
command. DEDUCED: log 83. -/
def deviceLockout (cause : Nat) (s : State) : State :=
  let s := deviceRecord cause s
  if s.mode == .safeDark then s
  else preemptAll (abortResync 6 (abandonCal (enterMode .safeDark 7 s)))

/-- A CAL_ZONE whose zone a safety demand has cut is abandoned, with final status MODE_REJECT (R379). -/
def calWatch (s : State) : State :=
  match s.cal.zone with
  | some z => if s.bit F.CAL_STAT_RUNNING && zoneCut s z then preemptLong (abandonCal s) else s
  | none => s

/-- The end of a step that may have cut a zone. -/
def finishCut (s : State) : Out := finish (calWatch s)

end Sys2Proof.Machine
end

