-- ==== Sys2Proof/Machine/DplxOps.lean ====
section
/-! DEFINITION. Failures of engines and harbourmasters, recovery attempts and role changes (R302 to R319), and what a
failure does to HOT_SWAP (R213). -/

namespace Sys2Proof.Machine

/-- Attempts left of a unit (DPLX_RECOV). -/
def attemptsFld : UnitNo → Fld
  | .beA => F.DPLX_RECOV_LEFT_A
  | .beB => F.DPLX_RECOV_LEFT_B
  | .hmA => F.DPLX_RECOV_LEFT_HA
  | .hmB => F.DPLX_RECOV_LEFT_HB

def unitBit (u : UnitNo) : BitVec 4 := BitVec.ofNat 4 (2 ^ (unitIx u).val)

/-- The other unit of a pair. -/
def otherUnit : UnitNo → UnitNo
  | .beA => .beB | .beB => .beA | .hmA => .hmB | .hmB => .hmA

def setPlan (u : UnitNo) (p : TestPlan) (s : State) : State :=
  { s with dplx := { s.dplx with plan := s.dplx.plan.set (unitIx u) p } }

/-- A unit stops any self-test, load or resynchronisation. -/
def unitIdle (u : UnitNo) (s : State) : State :=
  let s := { s with dplx := { s.dplx with testing := s.dplx.testing &&& ~~~ unitBit u
                                          loading := s.dplx.loading &&& ~~~ unitBit u
                                          rsAgain := s.dplx.rsAgain.filter (· ≠ u)
                                          rsQueue := s.dplx.rsQueue.filter (· ≠ u)
                                          relockWait := s.dplx.relockWait.filter (·.1 ≠ u) } }
  let s := setPlan u .none s
  if s.dplx.rsUnit = some u then
    { s with dplx := { s.dplx with rsUnit := none, rsDone := false } }.setFld F.DPLX_STAT_RS_PHASE 0
  else s

/-- A self-test starts, with the unit OFFLINE (R309). -/
def startTest (u : UnitNo) (p : TestPlan) (s : State) : State :=
  let s := setUnitRole u .offline (setPlan u p (unitIdle u s))
  { s with dplx := { s.dplx with testing := s.dplx.testing ||| unitBit u } }

/-- A recovery attempt: of an engine from its self-test (R312), of a harbourmaster from its cold start (R317). -/
def recover (u : UnitNo) (s : State) : State :=
  match unitSide u with
  | some _ => startTest u .recover s
  | none => startCold u (unitIdle u s)

/-- A recovery attempt starts, once the clocks of the unit's side run (R427); `uses`: it uses one of the unit's
attempts. -/
def startRecovery (u : UnitNo) (uses : Bool) (s : State) : State :=
  let f := attemptsFld u
  if unitGated s u then
    { s with dplx := { s.dplx with relockWait := s.dplx.relockWait.filter (·.1 ≠ u) ++ [(u, uses)] } }
  else recover u (if uses then s.setFld f (s.fld f - 1) else s)

/-- The automatic attempt after a failure, which uses one of the unit's attempts (R312). DEDUCED: log 127, 129. -/
def autoRecover (u : UnitNo) (s : State) : State :=
  if s.bit F.DPLX_CTRL_AUTO_RECOV && s.fld (attemptsFld u) ≠ 0 then startRecovery u true s else s

/-- The recoveries that waited for a side whose clocks run again start (R427). -/
def afterRelock (s : State) : State :=
  let ready := s.dplx.relockWait.filter fun w => !unitGated s w.1
  let s : State := { s with dplx := { s.dplx with relockWait := s.dplx.relockWait.filter fun w => unitGated s w.1 } }
  s.forEach ready fun w s => if roleOf s w.1 == .failed then startRecovery w.1 w.2 s else s

/-- Resynchronisation of a loaded unit starts: bulk phase (R310). One unit is resynchronised at a time; another
waits for the copier. -/
def startResync (u : UnitNo) (s : State) : State :=
  let s := setUnitRole u .coldStarting s
  match s.dplx.rsUnit with
  | some _ => { s with dplx := { s.dplx with rsQueue := s.dplx.rsQueue.filter (· ≠ u) ++ [u] } }
  | none =>
    let s := (s.setFld F.DPLX_STAT_RS_PHASE 1).setFld F.DPLX_STAT_RS_UNIT (unitIx u).val
    { s with dplx := { s.dplx with rsUnit := some u, rsDone := false, rsAgain := s.dplx.rsAgain.filter (· ≠ u) } }

/-- The copier is free: the unit that waited longest is resynchronised. -/
def nextResync (s : State) : State :=
  match s.dplx.rsUnit, s.dplx.rsQueue with
  | none, u :: us => startResync u { s with dplx := { s.dplx with rsQueue := us } }
  | _, _ => s

/-- The engine that HOT_SWAP loads, from step 3 on; before, the one that is STANDBY. -/
def hotSide (s : State) (h : HotSwap) : Side :=
  if 3 ≤ h.step then h.newSide
  else match s.withRole .standby with
    | some e => e
    | none => otherSide s.actSide

/-- HOT_SWAP ends before its roles change, with a status and a CHECK; what runs of its store write is cut. -/
def hotEnd (st : Status) (check : Nat) (s : State) : State :=
  match s.dplx.hot with
  | none => s
  | some h =>
    let s := if h.step = 1 then cutJob s else s
    let crc := match s.job with | some j => respCrc 12 j.data | none => h.crc
    let s := { s with dplx := { s.dplx with hot := none } }
    sendFinal st (checkData check crc) (s.updEng h.newSide fun g => { g with tileLimit := 0 })

/-- HOT_SWAP ends with CHECK 0x0B (R213): the new engine cold-starts from the old valid bank and is resynchronised; where
the old one has failed and HOLD waits for a warm frame, R314 follows. DEDUCED: log 132. -/
def hotFault (s : State) : State :=
  match s.dplx.hot with
  | none => s
  | some h =>
    let s := hotEnd (checkStatus 11) 11 (startCold (unitOfSide (hotSide s h)) s)
    -- no engine serves: R314 starts one at the next tick
    if s.mode == .hold && s.active.isNone then
      { s with dplx := { s.dplx with fo := some (s.fld F.DPLX_FOVER_LAST_CAUSE) } }
    else s

/-- The commit record of the image HOT_SWAP has placed in the inactive MOL bank. With the store window closed no
record is written and the command ends with STORE_TEMP (R390). DEDUCED: log 132. -/
def hotCommit (s : State) : State :=
  match s.dplx.hot with
  | none => s
  | some h =>
    if h.committed || h.step = 1 then s
    else if !storeWindow s then hotEnd .storeTemp 0 (storeCold s)
    else
      let s := writeRec 1 (inactiveBank s 1) h.len s
      { s with dplx := { s.dplx with hot := some { h with committed := true } } }

/-- A mode of BEAM becomes SIMPLEX (R305, R307, R320). DEDUCED: log 131. -/
def simplexIfBeam (s : State) : State := if s.mode == .beam then ownChange .simplex 2 s else s

/-- A FAILED engine, or the one that gives up its role to HOT_SWAP, cold-starts from the new valid bank (R212 step
8). DEDUCED: log 132. -/
def restartOld (e : Side) (s : State) : State := startCold (unitOfSide e) (stopClusters e s)

/-- Is engine `e` the one HOT_SWAP loads or warms (R213), or the one step 8 brings back? -/
def hotNew (s : State) (e : Side) : Bool :=
  match s.dplx.hot with
  | some h => h.step < 8 && hotSide s h == e
  | none => false

def hotOld (s : State) (e : Side) : Bool :=
  match s.dplx.hot with
  | some h => h.step = 8 && h.newSide != e && (s.eng e).role != .active
  | none => false

/-- An engine is recognised as failed with `cause` of DPLX_FOVER (R302). A failure of the engine that HOT_SWAP brings
back in step 8 does not stop the swap (R213). DEDUCED: log 127, 131, 132. -/
def engineFailed (e : Side) (cause : Nat) (s : State) : State :=
  let u := unitOfSide e
  let role := (s.eng e).role
  if role == .failed then s
  else if hotNew s e then
    let s := hotFault (simplexIfBeam s)
    if s.mode == .hold && s.active.isNone then { s with dplx := { s.dplx with fo := some cause } } else s
  else
    let s := stopClusters e s
    if hotOld s e then
      let s := if s.dplx.rsUnit = some u then abortResync 2 s else s
      restartOld e (setUnitRole u .failed (unitIdle u s))
    else if s.dplx.rsUnit = some u then autoRecover u (setUnitRole u .failed (abortResync 2 s))
    else if role == .active then
      let s := if s.dplx.rsUnit = some (otherUnit u) then abortResync 1 s else s
      let s := match s.dplx.hot with
        | some h => if h.step < 8 then hotCommit s else s
        | none => s
      let s := { s with dplx := { s.dplx with fo := some cause } }
      autoRecover u (setUnitRole u .failed (s.setFld F.DPLX_FOVER_LAST_CAUSE cause))
    else autoRecover u (setUnitRole u .failed (unitIdle u (if role == .standby then simplexIfBeam s else s)))

/-- Exchange the active harbourmaster: event 29 (R317, R318). -/
def hmSwitch (u : UnitNo) (cause : Nat) (s : State) : State :=
  let s := setUnitRole u .active s
  let s := s.setBit F.DPLX_STAT_ACT_HM (u == .hmB)
  raiseAll 29 cause ((s.inc F.DPLX_HM_SW_CNT).setFld F.DPLX_HM_LAST_CAUSE cause)

/-- A harbourmaster is recognised as failed (R302, R317, R319). DEDUCED: log 128. -/
def hmFailed (u : UnitNo) (cause : Nat) (s : State) : State :=
  let role := roleOf s u
  if role == .failed then s
  else if s.dplx.rsUnit = some u then autoRecover u (setUnitRole u .failed (abortResync 2 s))
  else
    let s := setUnitRole u .failed (unitIdle u s)
    if role == .active then
      if roleOf s (otherUnit u) == .standby then autoRecover u (hmSwitch (otherUnit u) cause s)
      -- R319: whatever brings the other one back has no active one to copy from
      else unitIdle (otherUnit u) (if s.dplx.rsUnit = some (otherUnit u) then abortResync 1 s else s)
    else autoRecover u s

/-- A unit is recognised as failed. -/
def unitFailed (u : UnitNo) (cause : Nat) (s : State) : State :=
  match unitSide u with
  | some e => engineFailed e cause s
  | none => hmFailed u cause s

/-- A mismatch of zone `z` of frame `frm` between the engines (R307, R308). Step 2 ends what step 1 has left due;
the engine of step 3 is brought back by no attempt of its own. DEDUCED: log 129, 134. -/
def mismatch (z : Zone) (frm : Word) (s : State) : State :=
  if s.bit (F.ENG_CTRL_PROFILE 0) || s.bit (F.ENG_CTRL_PROFILE 1) then s.inc F.DPLX_MISM_PROF_CNT
  else
    let s := (s.inc F.DPLX_MISM_MM_CNT).setFld F.DPLX_MISM_LAST_ZONE z.val
    let step := s.fld F.DPLX_MISM_MM_STEP
    let runs := step ≠ 0 && decide ((frm - s.dplx.mmStart).toNat ≤ 1000)
    let ev (n : Nat) (s : State) : State := raiseAll 30 (z.val + 16 * n) s
    let start (n : Nat) (r : Bool) (s : State) : State :=
      { s with dplx := { s.dplx with mmStart := frm, mmResync := r } }.setFld F.DPLX_MISM_MM_STEP n
    if !runs then ev 1 ((start 1 true s).setBit F.DPLX_STAT_SUSP_STBY true)
    else match s.withRole .standby with
      | none => ev step s
      | some e =>
        let u := unitOfSide e
        if step = 1 then ev 2 (startTest u .arbStandby (stopClusters e (simplexIfBeam (start 2 false s))))
        else
          let s := (simplexIfBeam s).setFld F.DPLX_MISM_MM_STEP 3
          ev 3 (setUnitRole u .failed (stopClusters e (unitIdle u s)))

/-- The comparison of zone `z` once the active copy's CRC has been confirmed and the standby has packed the zone.
DEDUCED: log 106. -/
def compareZone (z : Zone) (s : State) : State :=
  match s.active, s.withRole .standby with
  | some e, some f =>
    match ((s.eng e).pack[z]).zcrc, ((s.eng f).pack[z]).zcrc with
    | some x, some y => if x = y then s else mismatch z s.ffn.frm s
    | _, _ => s
  | _, _ => s

/-- A controlled swap is requested for the next tick (R306). -/
def requestSwap (s : State) : State := { s with dplx := { s.dplx with swap := true } }

end Sys2Proof.Machine
end

