-- ==== Sys2Proof/Machine/RegWrite.lean ====
section
/-! DEFINITION. One REG_WR pair, judged in the order of R444: permission, address, power, mode (R473), the target's
state (R131, R133), the value of each field; and what the write does. -/

namespace Sys2Proof.Machine

/-! ### Permission -/

/-- A permission bit of HCTX_PERMc (R259). -/
def hasPerm (s : State) (c : Ctx) (bit : Nat) : Bool := (s.reg (0x40040 + 0x20 * c.val)).getLsbD bit

/-- Context `c` may write where `a` lies, by the write mask of R259. -/
def maskOk (s : State) (c : Ctx) (a : Nat) : Bool :=
  let m := s.reg (0x40044 + 0x20 * c.val)
  if a < 0x150000 then m.getLsbD (a / 0x10000) && (a / 0x10000 ≠ 17 || hasPerm s c 4) && (a ≠ 8 || hasPerm s c 4)
  else if 0x1000000 ≤ a ∧ a < 0x1040000 then m.getLsbD 21
  else true

/-- Registers that one context alone may write: HCTX_CFGc (R281), EVT_PENDc (R438), ENGx_PARAMn (R170), polygons
(R220). The pixel map window takes no write (R367). DEDUCED: log 56. -/
def ownerOk (c : Ctx) (a : Nat) : Bool :=
  if 0x40040 ≤ a ∧ a < 0x400C0 ∧ (a - 0x40040) % 32 = 8 then (a - 0x40040) / 32 = c.val
  else if 0x30040 ≤ a ∧ a < 0x30080 ∧ (a - 0x30040) % 16 < 8 then (a - 0x30040) / 16 = c.val
  else if 0x90100 ≤ a ∧ a < 0x90200 then (a - 0x90100) / 64 = c.val
  else if 0xB4000 ≤ a ∧ a < 0xB4200 then (a - 0xB4000) / 128 = c.val
  else !(0x1100000 ≤ a && a < 0x1180000)

/-! ### Modes (R473) -/

/-- Bits of a register that accept writes only in DARK and SERVICE. -/
def darkMask (a : Nat) : Word :=
  if 0xD0040 ≤ a ∧ a < 0xD0080 then 0x3F                      -- ICODE (R75)
  else if a = 0x140000 then 0xFFFF003F                        -- RAIL_CTRL (R122)
  else if a = 0x140004 then 0xFFFF
  else if 0x140080 ≤ a ∧ a < 0x1400C0 then 0x07FF0000         -- VMAX
  else if a = 0x50000 ∨ a = 0x50100 then 0x00FF00FF           -- LINK_PCFGp but FOMTHR (R257)
  else if a = 0x60000 then 0x3D                               -- CANF (R282)
  else if a = 0x60004 then 0xFFFFFFFF
  else if a = 0x60008 then 0xFFFFFFF0
  else if a = 0xC0000 then 0x00FFFF00                         -- TLNK_CTRL (R296)
  else if a = 0x120000 then 0x000101FF                        -- HOLD_LIM, AUTO_RECOV (R322)
  else if a = 0xE0000 then 0xFF00                             -- SHORT_VF (R368)
  else if a = 0x100000 then 0x00FFFFFF                        -- THRM (R392)
  else if a = 0x100004 ∨ a = 0x100008 then 0xFFFFFFFF
  else if a = 0x10000C then 0x00FFFFFF
  else if a = 0x2000C then 0xFFFF                             -- SVC_ZMASK (R416)
  else if a = 0x10004 then 0x8F                               -- CLK_SSC, XLOW (R433)
  else if a = 0x1000C then 0x00FF0000
  else 0

/-- Does the mode rule of a field of `a` refuse the write of `v` by context `c`? -/
def modeRefuses (s : State) (c : Ctx) (a : Nat) (v : Word) : Bool :=
  let held := viewReg c s a
  let m := s.mode
  (!s.darkOrService && (v ^^^ held) &&& darkMask a != 0)
    || (a = 0xE0000 && m != .service && held.getLsbD 16 && !v.getLsbD 16)                 -- IST_EN (R368)
    || ((a = 0x90000 || a = 0xA0000) && m != .service && v.getLsbD 0)                     -- PROFILE (R162)
    || (a = 0x120000 && v.getLsbD 31 && m != .beam)                                       -- SWAP_REQ (R306)
    || (a = 0x120000 && (v.getLsbD 30 || v.getLsbD 29) && m != .dark && m != .simplex && m != .service)
    || (a = 0xD0010 && v &&& 0xFF00 != 0 && !s.darkOrService)                             -- OPEN (R95)
    || (a = 8 && v.getLsbD 0 && m != .dark && m != .safeDark && m != .service)            -- DO (R434)

/-! ### Values -/

/-- A field of the written word. -/
def vb (v : Word) (hi lo : Nat) : Nat := bitsOf v.toNat hi lo

def within (x lo hi : Nat) : Bool := lo ≤ x && x ≤ hi

/-- CLKOUT stays at or below 100 MHz (R425): only SYSCLK, 600 MHz, can exceed it. DEDUCED: log 63. -/
def clkOutOk (v : Word) : Bool := vb v 2 0 ≤ 5 && (vb v 2 0 ≠ 2 || 6 ≤ vb v 15 8 + 1)

/-- Does the value of each field pass? -/
def valueOk (s : State) (a : Nat) (v : Word) : Bool :=
  if a = 0x80004 then within (vb v 11 0) 1000 4000 && vb v 14 12 ≤ 4
  else if a = 0xD0000 then vb v 2 0 ≤ 4
  else if 0xD0040 ≤ a ∧ a < 0xD0080 then vb v 5 0 ≤ 48
  else if a = 0x140000 then vb v 31 24 ≠ 0 && vb v 5 4 ≠ 3 && vb v 3 2 ≠ 3 && vb v 1 0 ≠ 3
  else if 0x140080 ≤ a ∧ a < 0x1400C0 then within (vb v 26 16) 300 1350 && vb v 3 0 ≤ 8
  else if a = 0x70000 then vb v 3 0 ≠ 0
  else if a = 0x9000C then vb v 15 0 ≠ 0
  else if a = 0xB0000 then vb v 5 4 ≠ 3
  else if a = 0x50000 ∨ a = 0x50100 then vb v 2 1 ≠ 3
  else if a = 0x60004 then
    within (vb v 31 24) 1 32 && within (vb v 23 16) 2 255 && within (vb v 15 8) 1 64 && within (vb v 7 0) 1 64
  else if a = 0x60008 then
    within (vb v 31 28) 1 8 && within (vb v 27 22) 1 32 && within (vb v 21 17) 1 16 && within (vb v 16 12) 1 16
  else if a = 0xC0000 then vb v 23 16 ≠ 0 && vb v 15 8 ≠ 0
  else if a = 0x120000 then
    within (vb v 8 0) 20 500 && (!v.getLsbD 30 || s.engB.role == .failed) && (!v.getLsbD 29 || s.engA.role == .failed)
  else if a = 0x100000 then within (vb v 23 16) 25 150 && within (vb v 15 8) 5 100 && within (vb v 7 0) 90 135
  else if a = 0x100004 ∨ a = 0x100008 then vb v 31 16 ≠ 0 && vb v 15 0 ≠ 0
  else if a = 0x10000C then vb v 23 16 ≠ 0 && vb v 15 0 ≠ 0
  else if a = 0x10004 then vb v 1 0 ≠ 3
  else if a = 0x10008 then clkOutOk v
  else if a = 8 then vb v 15 8 = 0xC3
  else if a = 0xD0010 then vb v 15 8 &&& (s.fld F.STK_XOVER_CROSSED ^^^ 0xFF) = 0
  else true

/-! ### Effects -/

/-- Counter fields that any non-zero value clears (R281, BRTH_FAULTc.COUNT); other W1C bits clear one by one. -/
def counterFields (a : Nat) : List (Nat × Nat) :=
  if a = 0x40010 ∨ (0x40040 ≤ a ∧ a < 0x400C0 ∧ (a - 0x40040) % 32 = 20) then [(31, 24), (23, 16), (15, 8), (7, 0)]
  else if a = 0x60018 then [(7, 0)]
  else if a = 0x6001C then [(31, 24), (23, 16), (15, 8)]
  else if 0x70050 ≤ a ∧ a < 0x70060 then [(15, 0)]
  else []

/-- Bits that a W1C write of `v` clears. -/
def clearedBits (a : Nat) (w1c v : Word) : Word :=
  match counterFields a with
  | [] => v &&& w1c
  | fs => fs.foldl (fun m f => if vb v f.1 f.2 = 0 then m else m ||| ins f.2 (f.1 + 1 - f.2) (2 ^ (f.1 + 1 - f.2) - 1) 0) 0

/-- Put several fields to 0. -/
def clearFlds (l : List Fld) (s : State) : State := s.forEach l fun f s => s.setFld f 0

/-- The counts that a CNT_CLR of register `a` clears. -/
def countsOf (a : Nat) : List Fld :=
  if a = 0x80044 then [F.SEQ_UNDERRUN_UR_TOTAL]
  else if a = 0xD000C then [F.STK_CODESAT_SAT_CNT]
  else if a = 0x140008 then [F.RAIL_NAKCNT_FAIL0, F.RAIL_NAKCNT_FAIL1, F.RAIL_NAKCNT_FAIL2]
  else if 0x140140 ≤ a ∧ a < 0x140180 then [⟨a, 16, 8⟩, ⟨a, 8, 8⟩, ⟨a, 0, 8⟩]
  else if a = 0x70000 then [F.BRTH_ECC_CORR, F.BRTH_ECC_UNCORR, F.BRTH_ECCADDR_VALID]
  else if a = 0x90010 ∨ a = 0xA0010 then [⟨a, 16, 16⟩]
  else if a = 0x9001C ∨ a = 0xA001C then [⟨a, 16, 16⟩, ⟨a, 0, 8⟩, ⟨a + 4, 16, 16⟩, ⟨a + 4, 0, 16⟩]
  else if a = 0xB0008 then [F.FFN_OBJSTAT_BAD, F.FFN_OBJSTAT_DUP]
  else if a = 0x50010 ∨ a = 0x50110 then
    [⟨a - 4, 0, 32⟩, ⟨a, 16, 8⟩, ⟨a, 8, 8⟩, ⟨a, 0, 8⟩, ⟨a + 4, 16, 16⟩]
  else if a = 0xC0000 then
    [F.TLNK_STAT_ZCMD_REJ, F.TLNK_STAT_NAK_CNT, F.TLNK_STAT_ORD_MISS, F.TLNK_RTN_RTN0_CRCERR, F.TLNK_RTN_RTN1_CRCERR]
      ++ (List.range 32).map fun i => ⟨0xC0040 + 4 * i, 16, 8⟩
  else if a = 0x12000C then
    [F.DPLX_FOVER_FO_CNT, F.DPLX_MISM_MM_CNT, F.DPLX_MISM_PROF_CNT, F.DPLX_RESYNC_RS_CNT, F.DPLX_RESYNC_AB_CNT
    , F.DPLX_HM_SW_CNT]
  else if a = 0x110014 then [F.SAFE_OPT_DEFER_CNT, F.SAFE_OPT_RETRY_CNT, F.SAFE_OPT_FAIL_CNT]
  else if a = 0x11001C then [F.SAFE_GW_VIOL_CNT]
  else if a = 0xE0000 then
    [F.DIAG_IST_CYCLES, F.DIAG_IST_SKIP_LAST, F.DIAG_RB_MISM_CNT, F.DIAG_RB_CONF_CNT, F.DIAG_FRZ_UNAVAIL
    , F.DIAG_FRZ_MISM_CNT]
  else if a = 0x130008 then [F.STOR_ERR_TEMP_BLK, F.STOR_ERR_VERIFY_FAIL, F.STOR_ERR_PROG_FAIL]
  else if a = 0x10010 then [F.CLK_EVT_FORCED_CNT, F.CLK_EVT_UNLOCK_CNT]
  else if a = 0x30004 then
    ⟨a, 0, 24⟩ :: (List.range 64).map fun e => F.EVT_CNT_COUNT e
  else []

/-- The bit that clears the counts of register `a`. -/
def clrBit (a : Nat) : Option Nat :=
  if a = 0x80044 ∨ a = 0x90010 ∨ a = 0xA0010 ∨ a = 0x9001C ∨ a = 0xA001C ∨ a = 0x11001C then some 15
  else if a = 0x110014 then some 30
  else if a = 0x12000C ∨ a = 0x10010 then some 0
  else if 0x140140 ≤ a ∧ a < 0x140180 then some 25
  else if (countsOf a).isEmpty then none
  else some 31

/-- Forget the error windows of every lane, whose count TLNK_CTRL.CNT_CLR clears; with the count DEGR falls (R293). -/
def clearWindows (s : State) : State :=
  let s := clearFlds ((List.range 32).map fun i => ⟨0xC0040 + 4 * i, 29, 1⟩) s
  s.forEach sides fun e s => s.updEng e fun g => { g with tx := g.tx.map fun t => { t with window := [] } }

/-- Forget the cycles of the in-service test, which DIAG_CTRL.CNT_CLR clears. -/
def clearCycles (s : State) : State := { s with diag := { s.diag with cycles := 0 } }

/-- A release of crossover is started for each crossed pair named by `bits` (R95). DEDUCED: log 96. -/
def openPairs (bits : Nat) (s : State) : State :=
  s.forEach allZones fun z s =>
    if bits.testBit (z.val / 2) && isCrossed s z && s.rail.z[z].seq = .none then
      startSeq z .release s
    else s

/-- Unreleased groups named in `bits` are released, from the end of WAKE (R405). DESIGN CHOICE: log 62. -/
def releasePads (bits : Nat) (s : State) : State :=
  if s.mode == .sleep || s.mode == .wake || s.mode == .off then s
  else
    let held := s.fld F.AON_PADCFG_HELD
    let k : BitVec 5 := BitVec.ofNat 5 bits
    let s := s.setFld F.AON_PADCFG_HELD ((BitVec.ofNat 5 held &&& ~~~k).toNat)
    { s with pwr := { s.pwr with padCap := s.pwr.padCap &&& ~~~k } }

/-- What a write of `v` does beside the register's own bits. -/
def sideEffect (c : Ctx) (a : Nat) (v old : Word) (s : State) : State :=
  let s := match clrBit a with
    | some b => if v.getLsbD b then
        (if a = 0xC0000 then clearWindows else if a = 0xE0000 then clearCycles else id) (clearFlds (countsOf a) s) else s
    | none => s
  if a = 0x50020 ∨ a = 0x50024 ∨ a = 0x50120 ∨ a = 0x50124 then
    if v.getLsbD 8 then s.setFld ⟨a, 16, 8⟩ (s.fld ⟨a, 24, 8⟩) else s
  else if a = 0x50000 ∨ a = 0x50100 then
    if (v ^^^ old) &&& 0x00FF00FF != 0 then s.updPort (Fin.ofNat 2 ((a - 0x50000) / 256)) fun q => { q with reconfig := true } else s
  else if a = 0xD0010 then openPairs (vb v 15 8) s
  else if a = 0x120000 then
    let s := if v.getLsbD 31 then requestSwap s else s
    let s := if v.getLsbD 29 then startRecovery .beA false s else s
    let s := if v.getLsbD 30 then startRecovery .beB false s else s
    s.setFld F.SAFE_STAT_BW_HOLDLIM (vb v 8 0)
  else if a = 0x2010C then releasePads (vb v 12 8) s
  else if a = 8 then
    if v.getLsbD 0 then { s with pwr := { s.pwr with swReset := true } } else s
  else if 0x30040 ≤ a ∧ a < 0x30080 ∧ (a - 0x30040) % 16 < 8 then
    let m : BitVec 64 := if (a - 0x30040) % 16 = 0 then v.setWidth 64 else v.setWidth 64 <<< 32
    s.updCtx c fun k => { k with pend := k.pend &&& ~~~m }
  else s

/-- RWS bits of `a` that a write reaches: bits that the mode does not accept stay as if not written (R473). -/
def rwsWritten (s : State) (a : Nat) : Word := if s.darkOrService then rwsMask a else rwsMask a &&& ~~~darkMask a

/-- Write an assigned register: RW bits at once, RWS bits into the shadow set of the context, W1C bits cleared. -/
def putReg (c : Ctx) (a : Nat) (v : Word) (s : State) : State :=
  let rw := match regRow a with | some r => r.rw | none => 0
  let w1c := match regRow a with | some r => r.w1c | none => 0
  let rws := rwsWritten s a
  let old := s.reg a
  let new := ((old &&& ~~~rw) ||| (v &&& rw)) &&& ~~~(clearedBits a w1c v)
  let s := if new = old then s else s.setReg a new
  let s := if rws = 0 then s else s.updCtx c fun k =>
    { k with shadow := { k.shadow with words := Sparse.put (Sparse.all none) k.shadow.words a (some (v &&& rws)) } }
  sideEffect c a v old s

/-- Store a trim word: reserved bits read 0, and a trim stored while the sequencer is stopped acts at once (R76). -/
def putTrim (a : Nat) (v : Word) (s : State) : State :=
  let m := (List.range 4).foldl (fun (m : Sparse Byte) i =>
    Sparse.put (Sparse.all 0) m (a + i) (BitVec.ofNat 8 (vb v (8 * i + 5) (8 * i)))) s.stk.trim
  let k := { s.stk with trim := m }
  { s with stk := if s.seq.running then k else { k with trimEff := m } }

/-- Write through an engine's windows (R171). -/
def putEngWin (e : Side) (o : Nat) (v : Word) (s : State) : State :=
  let x := sideIx e
  if o < 0x8000 then
    let c : Cluster := Fin.ofNat 8 (s.fld (F.ENG_WINSEL_SCR_CLUS x))
    s.updCl e c fun k => { k with scratch := putBytes k.scratch (s.fld (F.ENG_WINSEL_SCR_PAGE x) * 16384 + (o - 0x4000)) (toLe 4 v.toNat) }
  else
    s.updEng e fun g => { g with pm := Sparse.put (Sparse.all 0) g.pm (s.fld (F.ENG_WINSEL_PM_PAGE x) * 8192 + (o - 0x8000) / 4) v }

/-! ### Berth writes (R133) -/

/-- Is the berth named by a pending assignment: a pending commit whose enabled layer entry names it? -/
def pendingNames (s : State) (n : BerthNo) : Bool :=
  allCtx.any fun c => match (s.ctx[c]).commit with
    | none => false
    | some k => k.set.layers.any fun l =>
        (byteAt l.2 0).getLsbD 4 && !(byteAt l.2 0).getLsbD 5 && (byteAt l.2 2).toNat % 64 = n.val

/-- A write of `bs` at offset `o` of berth `n` by its owner, under R133; a LONG command that reads a berth meanwhile
has come as far as it has (R208). -/
def writeBerth (c : Ctx) (n : BerthNo) (o : Nat) (bs : List Byte) (s : State) : Nat × State :=
  let b := s.berth n
  let store (s : State) : State := putBerthBytes (b.base * 4096 + o) bs (advanceJob s)
  let drop (cause : Nat) : Nat × State :=
    (2, raiseTo 17 (cause + n.val * 16) [c] (berthFault c cause n.val 0 s))
  match b.st with
  | .free => (1, s)
  | .filling => (0, store s)
  | .ready => if pendingNames s n then drop 2 else (0, (store s).updBerth n fun b => { b with st := .filling })
  | .inFlight => drop 1
  | .retiring => drop 1

/-! ### One pair -/

/-- Is `a` an assigned register or RWS window word? DEDUCED: log 56. -/
def assigned (a : Nat) : Bool :=
  (regRow a).isSome || (0xB1000 ≤ a && a ≤ 0xB3000) || (0xB4000 ≤ a && a < 0xB4200)

/-- One REG_WR pair of context `c` (R444). DEDUCED: log 40, 56. -/
def regWrite (c : Ctx) (addr : Nat) (v : Word) (s : State) : Nat × State :=
  let a := canon addr
  if !maskOk s c addr then (2, s.inc (F.HCTX_ERR_DENY_CNT c))
  else if addr % 4 ≠ 0 then (1, s)
  else if !ownerOk c a then (2, s)
  else match placeOf a with
    | .outside => (1, s)
    | .optics => if accessOff s addr then (5, s) else (0, s)
    | .map => (2, s)
    | .reg =>
      if !assigned a then (1, s)
      else if accessOff s addr then (5, s)
      else if modeRefuses s c a v then (3, s)
      else if !valueOk s a v then (1, s)
      else (0, putReg c a v s)
    | .engWin e =>
      if accessOff s addr then (5, s)
      else if (s.eng e).role ≠ .offline then (3, s)
      else (0, putEngWin e (a % 0x10000) v s)
    | .trim =>
      if accessOff s addr then (5, s)
      else if !s.darkOrService then (3, s)
      else (0, putTrim (a - 0x1000000) v s)
    | .berth o =>
      match berthAt s o with
      | none => (2, s)
      | some n =>
        if (s.berth n).owner ≠ c then (2, s)
        else writeBerth c n (o - (s.berth n).base * 4096) (toLe 4 v.toNat) s

end Sys2Proof.Machine
end

