-- ==== Sys2Proof/Machine/Power.lean ====
section
/-! DEFINITION. What resets keep (R431), entry to SLEEP (R399) and the start of a reset (R430, R434). -/

namespace Sys2Proof.Machine

/-- Registers held outside the controller die: the always-on map, CAL_COUNT, CAL_STAMP, SYS_RSTCAUSE (R431). -/
def aonHeld (a : Nat) : Bool := (0x20100 ≤ a && a < 0x20118) || a = 0xF0004 || a = 0xF0008 || a = 0xC

/-- The crossed-over zones keep their state in the stack (R95); their own regulators count as faulty.
DEDUCED: log 86. -/
def keepCrossed (from_ : State) (s : State) : State :=
  s.forEach allZones fun z s =>
    if isCrossed from_ z then
      ((setCrossedBit z true s).setFld (F.RAIL_ZSTAT_STATE z) 2).updRail z fun r => { r with faulty := true }
    else s

/-- A LONG command that runs is cut without a final record (R269). The controller die returns to its reset values, but
what an interface sent last has left the chip; the stack keeps trims, bypass bits and crossover with `keepStack`, and the logic rails stay on (R430). The stop latch of
R428 stays. The mode is `m`. DEDUCED: log 60, 86. -/
def dieReset (keepStack : Bool) (m : Mode) (s : State) : State :=
  let s := abandonCal (cutJob s)
  let t : State := { pending := s.pending, now := s.now, free := s.free }
  let t := { t with
    regs := s.regs.filter fun c => aonHeld c.1
    store := { mem := s.store.mem, cfgSkip := s.store.cfgSkip }
    port := s.port.map fun q => { sent := q.sent }
    spi := { sent := s.spi.sent }
    can := { sent := s.can.sent, sentId := s.can.sentId }
    pwr := { mode := m, upFrom := s.pwr.upFrom, wakeAt := s.pwr.wakeAt, brownOut := s.pwr.brownOut,
             clamped := true, logicOps := s.pwr.logicOps, padCap := s.pwr.padCap, padLevel := s.pwr.padLevel, mpAddr := s.pwr.mpAddr,
             railsUp := if keepStack && s.pwr.railsUp = 8 then 8 else 0 }
    safe := { oscStop := s.safe.oscStop } }
  if keepStack then
    keepCrossed s { t with stk := { powered := s.stk.powered, trim := s.stk.trim, trimEff := s.stk.trim,
                                    bypass := s.stk.bypass } }
  else t

/-- Ports that drive their return lane send an EI block (R399 step 2). -/
def portsIdle (s : State) : State :=
  s.forEach [0, 1] fun (p : Port) s =>
    if portState s p = 0 || s.bit (F.LINK_PSTAT_RET_IDLE p) then s
    else thenSend p (emit p [ctrlBlock [0x55]]) s

/-- Steps 2 to 5 of R399: lock-outs recorded, the ports idle, pads held, the stack cut, the logic rails off; the mode is
SLEEP. DESIGN CHOICE: log 62. -/
def sleepEntry (s : State) : State :=
  let s := portsIdle (writeAonLocks s)
  let (lv, s) := padLevels s
  let latch := s.fld F.AON_PADCFG_LATCH
  let s := s.setFld F.AON_PADCFG_HELD latch
  let s := { s with pwr := { s.pwr with padCap := BitVec.ofNat 5 latch, padLevel := lv } }
  logicOff 8 (dieReset false .sleep { s with pwr := { s.pwr with logicOps := [] } })

/-- A RESET_N or software reset starts (R430): every zone is cut, LAST and RST_CNT record it. With VDD_AON still below
its limit the device stays in SAFE-DARK (R403). DEDUCED: log 58, 60. -/
def startReset (cause : Nat) (s : State) : State :=
  if s.pwr.brownOut then s else
  let s := (dieReset true .wake s).setFld F.SYS_RSTCAUSE_LAST cause
  let s := s.inc F.SYS_RSTCAUSE_RST_CNT
  { s with pwr := { s.pwr with inReset := true, wakeAt := s.now } }

/-- Port `p` has a new configuration: it trains anew when the responses now on interface `i`, the writer's, have left
(R257). DESIGN CHOICE: log 55. -/
def retrainLater (i : Option Iface) (p : Port) (s : State) : State :=
  match i with
  | none => retrainPort p s
  | some i =>
    let n := (s.outq[ifaceIx i]).resps.length
    if n = 0 then retrainPort p s else s.updPort p fun q => { q with retrainAfter := some (i, n) }

/-- What has waited for a response happens: ports train anew (R257), a software reset (R434) or entry to SLEEP with its
final record (R399); before these two all that waits on the interface is sent. DESIGN CHOICE: log 55. -/
def afterOne (a : AfterResp) (s : State) : State :=
  let i := s.ifaceOf a.ctx
  let sent (s : State) : State := match i with | some i => flushFinals (sendAll i s) | none => s
  let s := s.forEach a.ports (retrainLater i)
  if a.reset then startReset 3 (sent s)
  else if a.sleep && (s.pwr.req.map (·.target)) == some .sleep then
    sleepEntry (sent (sendFinal .ok (toLe 4 1) (sent s)))
  else s

/-- What waits for responses that have been queued happens; at most `k` entries. -/
def runAfterUpTo : Nat → State → State
  | 0, s => s
  | k + 1, s => match s.after.find? fun a => !s.opens.any (·.id = a.resp) with
    | some a => runAfterUpTo k (afterOne a { s with after := s.after.erase a })
    | none => s

def runAfter (s : State) : State := runAfterUpTo s.after.length s

end Sys2Proof.Machine
end

