-- ==== Sys2Proof/Machine/ShortCmds.lean ====
section
/-! DEFINITION. The SHORT and FRAME commands (R271, R273): what each does once the checks 1 to 5 of R270 have passed.
Payload checks are step 6 of R270, reserved bits included (R472). -/

namespace Sys2Proof.Machine

/-- The outcome of one command: status, FINAL, response data. -/
structure Reply where
  st : Nat
  final : Bool := true
  data : List Byte := []
  deriving DecidableEq, Repr

abbrev badArg (s : State) : Reply × State := ({ st := 1 }, s)

/-- Context `c` lacks the ownership a command needs (R270 step 3, R273). DEDUCED: log 40. -/
abbrev notOwner (c : Ctx) (s : State) : Reply × State := ({ st := 2 }, s.inc (F.HCTX_ERR_DENY_CNT c))

/-- Bits [hi:lo] of byte `o` of a payload. -/
def pbits (p : List Byte) (o hi lo : Nat) : Nat := bitsOf (byteAt p o).toNat hi lo

/-- Are bytes `o` to `o + n - 1` of a payload 0? -/
def zeros (p : List Byte) (o n : Nat) : Bool := ((p.drop o).take n).all (· == 0)

/-! ### Registers and PING (R274) -/

/-- A read of STOR_STAT shows how far the running LONG command has come (R417). -/
def readStat (a n : Nat) (s : State) : State :=
  if a ≤ 0x130000 && 0x130000 < a + 4 * n then advanceJob s else s

/-- REG_RD. -/
def cmdRegRd (h : HostHdr) (p : List Byte) (s : State) : Reply × State :=
  let a := leAt p 0 4
  let n := leAt p 4 4
  if p.length ≠ 8 ∨ a % 4 ≠ 0 ∨ n = 0 ∨ n > 64 then badArg s
  else
    let (st, bs, s) := readWords h.ctx h.env n a (readStat a n s)
    ({ st := st, data := bs }, s)

/-- The pairs of a REG_WR from index `i`, up to the first that fails. -/
def writePairs (c : Ctx) (p : List Byte) : Nat → Nat → State → Reply × State
  | 0, _, s => ({ st := 0 }, s)
  | n + 1, i, s =>
    match regWrite c (leAt p (8 * i) 4) (BitVec.ofNat 32 (leAt p (8 * i + 4) 4)) s with
    | (0, s) => writePairs c p n (i + 1) s
    | (st, s) => ({ st := st, data := toLe 4 i }, s)

/-- REG_WR. -/
def cmdRegWr (h : HostHdr) (p : List Byte) (s : State) : Reply × State :=
  if p.length % 8 ≠ 0 ∨ p.length = 0 ∨ p.length > 256 then badArg s
  else writePairs h.ctx p (p.length / 8) 0 s

/-- REG_SNAP. -/
def cmdRegSnap (h : HostHdr) (p : List Byte) (s : State) : Reply × State :=
  let a := leAt p 0 4
  if p.length ≠ 4 ∨ a % 4 ≠ 0 then badArg s
  else
    let (st, bs, s) := readSnap h.ctx h.env (snapGroup a) (readStat a 1 s)
    ({ st := st, data := bs }, s)

/-- PING. -/
def cmdPing (p : List Byte) (s : State) : Reply × State :=
  if p.length > 64 then badArg s else ({ st := 0, data := p }, s)

/-! ### Berths (R128 to R134) -/

/-- BERTH_ALLOC: first fit, lowest FREE number; the failed case in BRTH_FAULTc.CAUSE (R128). DESIGN CHOICE: log 30. -/
def cmdBerthAlloc (h : HostHdr) (p : List Byte) (s : State) : Reply × State :=
  let c := h.ctx
  let size := leAt p 0 2 % 8192
  let fail (cause : Nat) : Reply × State := ({ st := 1 }, berthFault c cause 0 0 s)
  if p.length ≠ 4 ∨ leAt p 0 2 ≥ 8192 ∨ !zeros p 2 2 then badArg s
  else if size = 0 ∨ size > 5632 then fail 8
  else match allBerths.find? fun n => (s.berth n).st = .free with
    | none => fail 6
    | some n =>
      if granUsed s c + size > s.fld (F.BRTH_QUOTA_GRAN_QUOTA c) ∨ berthsUsed s c + 1 > s.fld (F.BRTH_BCNT_BERTH_QUOTA c)
      then fail 5
      else match firstFit s size with
        | none => fail 7
        | some b =>
          let s := s.updBerth n fun _ => { st := .filling, owner := c, base := b, size := size, zfill := true }
          ({ st := 0, data := [BitVec.ofNat 8 n.val, 0] ++ toLe 2 b }, s)

/-- The payload of BERTH_READY and BERTH_FREE: berth and FENCE. -/
def berthArg (p : List Byte) : Option (BerthNo × Bool) :=
  if p.length ≠ 4 ∨ pbits p 0 7 6 ≠ 0 ∨ pbits p 1 7 1 ≠ 0 ∨ !zeros p 2 2 then none
  else some (Fin.ofNat 64 (pbits p 0 5 0), pbits p 1 0 0 = 1)

/-- Does another context own berth `n` (R130)? -/
def othersBerth (s : State) (c : Ctx) (n : BerthNo) : Bool := (s.berth n).st ≠ .free && (s.berth n).owner ≠ c

/-- Arm the fence of a berth (R134). -/
def armFence (n : BerthNo) (f : Bool) (s : State) : State :=
  if f then s.updBerth n fun b => { b with fence := true } else s

/-- BERTH_FREE (R133). A zero-fill in progress has ended before this runs (R129). -/
def cmdBerthFree (h : HostHdr) (p : List Byte) (s : State) : Reply × State :=
  let n : BerthNo := Fin.ofNat 64 (pbits p 0 5 0)
  if othersBerth s h.ctx n then notOwner h.ctx s
  else match berthArg p with
    | none => badArg s
    | some (n, f) =>
      match (s.berth n).st with
      | .free => badArg s
      | .filling => ({ st := 0 }, berthToFree n (armFence n f s))
      | .ready => ({ st := 0 }, berthToFree n (armFence n f s))
      | .inFlight => ({ st := 0 }, (armFence n f s).updBerth n fun b => { b with st := .retiring })
      | .retiring => ({ st := 0 }, armFence n f s)

/-- BERTH_READY (R133). -/
def cmdBerthReady (h : HostHdr) (p : List Byte) (s : State) : Reply × State :=
  let n : BerthNo := Fin.ofNat 64 (pbits p 0 5 0)
  if othersBerth s h.ctx n then notOwner h.ctx s
  else match berthArg p with
    | none => badArg s
    | some (n, f) =>
      match (s.berth n).st with
      | .free => badArg s
      | .retiring => badArg s
      | .filling => ({ st := 0 }, (armFence n f s).updBerth n fun b => { b with st := .ready })
      | .ready => ({ st := 0 }, armFence n f s)
      | .inFlight => ({ st := 0 }, armFence n f s)

/-- BERTH_WRITE (R130, R133). -/
def cmdBerthWrite (h : HostHdr) (p : List Byte) (s : State) : Reply × State :=
  let n : BerthNo := Fin.ofNat 64 (pbits p 0 5 0)
  let o := leAt p 4 4
  let len := p.length - 8
  if othersBerth s h.ctx n then notOwner h.ctx s
  else if p.length < 8 ∨ p.length % 4 ≠ 0 ∨ pbits p 0 7 6 ≠ 0 ∨ !zeros p 1 3 ∨ o % 4 ≠ 0 ∨ (s.berth n).st = .free
      ∨ o + len > (s.berth n).size * 4096 then badArg s
  else
    let (st, s) := writeBerth h.ctx n o (p.drop 8) s
    ({ st := st }, s)

/-! ### Layers (R135 to R140) -/

/-- Bits of M sub-sampling: 0 for a format without an M plane. -/
def mSub : Nat → Nat
  | 3 => 2 | 4 => 4 | 5 => 2 | 6 => 4 | _ => 0

/-- Least I_STRIDE of a format for width `w` (R135). -/
def leastI (f w : Nat) : Nat :=
  match f with
  | 1 => 5 * ceilDiv w 4
  | 5 => 5 * ceilDiv w 4
  | 2 => 2 * w
  | 6 => 2 * w
  | _ => w

/-- Layer parameters as a payload of LAYER_SET holds them. -/
structure LayerPar where
  layer : Fin 16
  enable : Bool
  release : Bool
  fmt : Nat
  blend : Nat
  berth : BerthNo
  srcW : Nat
  srcH : Nat
  iStride : Nat
  mStride : Nat
  mOff : Nat
  dstW : Nat
  dstH : Nat
  dstX : Int
  dstY : Int
  deriving DecidableEq, Repr

def layerPar (p : List Byte) : LayerPar :=
  { layer := Fin.ofNat 16 (pbits p 0 3 0), enable := pbits p 0 4 4 = 1, release := pbits p 0 5 5 = 1
    fmt := pbits p 1 2 0, blend := pbits p 1 5 3, berth := Fin.ofNat 64 (pbits p 2 5 0), srcW := leAt p 4 2
    srcH := leAt p 6 2, iStride := leAt p 8 2, mStride := leAt p 10 2, mOff := leAt p 12 4
    dstX := signed 16 (leAt p 16 2), dstY := signed 16 (leAt p 18 2), dstW := leAt p 20 2, dstH := leAt p 22 2 }

/-- R138 against a berth of `size` bytes. -/
def fitsBerth (l : LayerPar) (size : Nat) : Bool :=
  let m := mSub l.fmt
  decide (l.iStride * l.srcH ≤ size) &&
    (m = 0 || (decide (l.mOff + l.mStride * ceilDiv l.srcH m ≤ size) && l.mOff % 64 = 0
      && decide (l.iStride * l.srcH ≤ l.mOff)))

/-- Ranges, strides and scale of R139, R472. -/
def layerOk (l : LayerPar) (p : List Byte) : Bool :=
  let m := mSub l.fmt
  p.length = 32 && pbits p 0 7 6 = 0 && pbits p 1 7 7 = 0 && pbits p 2 7 6 = 0 && zeros p 24 8
    && l.fmt ≤ 6 && l.blend ≤ 4 && within l.srcW 1 2048 && within l.srcH 1 1024
    && within l.dstW 1 8192 && within l.dstH 1 4096
    && decide (-2048 ≤ l.dstX) && decide (l.dstX ≤ 4095) && decide (-1024 ≤ l.dstY) && decide (l.dstY ≤ 2047)
    && l.iStride % 16 = 0 && decide (leastI l.fmt l.srcW ≤ l.iStride)
    && (if m = 0 then l.mStride = 0 && l.mOff = 0
        else l.mStride % 16 = 0 && decide (2 * ceilDiv l.srcW m ≤ l.mStride))
    && decide (l.srcW ≤ 4 * l.dstW) && decide (l.dstW ≤ 16 * l.srcW)
    && decide (l.srcH ≤ 4 * l.dstH) && decide (l.dstH ≤ 16 * l.srcH)

/-- May context `c` own layer `l` by its pin mask (R140)? -/
def pinAllows (s : State) (l : Fin 16) (c : Ctx) : Bool :=
  (s.reg (0x70018 + 4 * (l.val / 8))).getLsbD (4 * (l.val % 8) + c.val)

/-- Layer ownership (R140) and the ownership of the berth named (R139) deny a LAYER_SET. -/
def layerDenied (s : State) (c : Ctx) (l : LayerPar) : Bool :=
  let others := match (s.br.owner)[l.layer] with | some d => d ≠ c | none => false
  others || !pinAllows s l.layer c || (l.enable && !l.release && othersBerth s c l.berth)

/-- LAYER_SET (R139, R140). -/
def cmdLayerSet (h : HostHdr) (p : List Byte) (s : State) : Reply × State :=
  let l := layerPar p
  let uses := l.enable && !l.release
  if layerDenied s h.ctx l then notOwner h.ctx s
  else if !layerOk l p || (uses && !fitsBerth l ((s.berth l.berth).size * 4096)) then badArg s
  else
    let s := { s with br := { s.br with owner := s.br.owner.set l.layer (some h.ctx) } }
    ({ st := 0 }, s.updCtx h.ctx fun k =>
      { k with shadow := { k.shadow with layers := Sparse.put (Sparse.all []) k.shadow.layers l.layer.val p } })

/-! ### Objects, fades, pitch and yaw -/

/-- The 16-byte entries of an object list. -/
def objEntries (p : List Byte) : List ObjEntry :=
  (List.range (pbits p 0 7 0)).map fun i => { bytes := (p.drop (4 + 16 * i)).take 16 }

/-- OBJ_LIST (R23, R217): the latest list waits for the latch. -/
def cmdObjList (h : HostHdr) (p : List Byte) (s : State) : Reply × State :=
  let n := pbits p 0 7 0
  if n > 64 ∨ !zeros p 1 3 ∨ p.length ≠ 4 + 16 * n then badArg s
  else ({ st := 0 }, s.updCtx h.ctx fun k => { k with objNew := some (objEntries p) })

/-- FADE (R225): one entry for each zone of ZMASK in the shadow set (R471). -/
def cmdFade (h : HostHdr) (p : List Byte) (s : State) : Reply × State :=
  let zm := leAt p 0 2
  if p.length ≠ 8 ∨ zm = 0 ∨ pbits p 6 7 1 ≠ 0 ∨ !zeros p 7 1 then badArg s
  else
    let e : FadeEntry := { target := leAt p 2 2, frames := leAt p 4 2, log := pbits p 6 0 0 = 1, carried := false }
    ({ st := 0 }, s.updCtx h.ctx fun k =>
      { k with shadow := { k.shadow with
          fades := (allZones.filter (maskBit zm)).foldl (fun m z => Sparse.put (Sparse.all none) m z.val (some e))
            k.shadow.fades } })

/-- PITCH_YAW (R216). -/
def cmdPitchYaw (h : HostHdr) (p : List Byte) (s : State) : Reply × State :=
  let a := signed 16 (leAt p 0 2)
  let b := signed 16 (leAt p 2 2)
  if p.length ≠ 8 ∨ !zeros p 4 4 ∨ a < -600 ∨ a > 600 ∨ b < -1800 ∨ b > 1800 then badArg s
  else ({ st := 0 }, s.updCtx h.ctx fun k =>
    { k with shadow := { k.shadow with pitchYaw := some (BitVec.ofNat 16 (leAt p 0 2), BitVec.ofNat 16 (leAt p 2 2)) } })

/-! ### COMMIT (R53 to R58) -/

/-- COMMIT: the acknowledgement names the frame, late targets are rolled forward, the shadow set is copied. Before T_0
of a run k is what SEQ_FRAME still shows of the run before. DESIGN CHOICE: log 142. -/
def cmdCommit (h : HostHdr) (p : List Byte) (s : State) : Reply × State :=
  let c := h.ctx
  let k := s.fld F.SEQ_FRAME_FRAME
  let targeted := pbits p 0 0 0 = 1
  let a := signed 32 (leAt p 4 4 + 2 ^ 32 - k)
  if !s.seq.running then ({ st := 3 }, s)
  else if p.length ≠ 8 ∨ pbits p 0 7 1 ≠ 0 ∨ !zeros p 1 3 ∨ (targeted ∧ a > 1024) then badArg s
  else
    let late := targeted && decide (a < 2)
    let f : Word := BitVec.ofNat 32 (if targeted && !late then leAt p 4 4 else k + 2)
    let s := s.updCtx c fun x =>
      let sh := { x.shadow with fades := x.shadow.fades.map fun e => (e.1, e.2.map fun v => { v with carried := true }) }
      { x with shadow := sh, commit := some { applyFrame := f, targeted := targeted, set := sh } }
    let s := s.setFld (F.SEQ_COMMITFRM_APPLY_FRAME c) f.toNat
    let s := if late then raiseTo 3 f.toNat [c] (s.setBit (F.SEQ_COMMITSTAT_ROLLED c) true) else s
    ({ st := 0, data := wordBytes f }, s)

/-! ### Events and the safety record -/

/-- EVT_MASK (R438). -/
def cmdEvtMask (h : HostHdr) (p : List Byte) (s : State) : Reply × State :=
  if p.length ≠ 8 then badArg s
  else ({ st := 0 }, s.updCtx h.ctx fun k => { k with mask := BitVec.ofNat 64 (leAt p 0 8) })

/-- EVT_ACK (R438). -/
def cmdEvtAck (h : HostHdr) (p : List Byte) (s : State) : Reply × State :=
  if p.length ≠ 8 then badArg s
  else ({ st := 0 }, s.updCtx h.ctx fun k => { k with pend := k.pend &&& ~~~BitVec.ofNat 64 (leAt p 0 8) })

/-- A failure of the watchdog: the third in a row locks the device out (R331). DEDUCED: log 74. -/
def watchdogFail (s : State) : State :=
  if s.fld F.SAFE_LEGACY_QA_CONSEC ≥ 2 then
    publishQ (deviceLockout 7 (raiseAll 39 1 (s.setFld F.SAFE_LEGACY_QA_CONSEC 0)))
  else publishQ (s.inc F.SAFE_LEGACY_QA_CONSEC)

/-- Judge the answer `a` to the challenge `q` (R331). DEDUCED: log 74. -/
def judgeAnswer (a q : Nat) (s : State) : State :=
  let cur := s.fld F.SAFE_LEGACY_Q
  let want := (crc16 (toLe 2 cur ++ [s.safe.sealByte])).toNat
  let t := s.now - s.safe.qAt
  if cur = 0 then s
  else if q = cur ∧ a = want ∧ 1000000 ≤ t ∧ t ≤ 10000000 then publishQ (s.setFld F.SAFE_LEGACY_QA_CONSEC 0)
  else watchdogFail s

/-- The 32-byte safety record (R349). -/
def safetyRecord (s : State) : List Byte :=
  let fl (f : Fld) (n : Nat) : Nat := if s.bit f then 2 ^ n else 0
  toLe 2 (s.fld F.SAFE_LOCK_LOCK_SEQ) ++ toLe 1 (s.fld F.SAFE_LOCK_LAST_CAUSE)
    ++ toLe 1 (if s.bit F.SAFE_LOCK_LAST_DEV then 255 else s.fld F.SAFE_LOCK_LAST_ZONE)
    ++ toLe 4 s.safe.lastUptime ++ toLe 2 (s.fld F.SAFE_ZONES_ZLOCK) ++ toLe 2 (zcut s)
    ++ toLe 1 (fl F.SAFE_STAT_DEV_LOCK 0 + fl F.SAFE_STAT_FALLBACK 1 + fl F.SAFE_STAT_SAFE_OK_RUN 2
        + fl F.SAFE_INH_A_FILT 3 + fl F.SAFE_INH_B_FILT 4 + fl F.SAFE_LOCK_UNL_WIN 5 + fl F.SAFE_STAT_ARCH_LEGACY 6)
    ++ toLe 1 (s.fld F.SAFE_GW_VIOL) ++ toLe 2 (s.fld F.SAFE_STRAP_BOOT) ++ toLe 2 (s.fld F.SAFE_STRAP_LAST)
    ++ toLe 2 (s.fld F.SAFE_LEGACY_Q) ++ [0, 0, 0, 0] ++ toLe 4 (s.fld F.SEQ_FRAME_FRAME) ++ [0, 0, 0, 0]

/-- SAFE_STATUS (R349). DEDUCED: log 40. -/
def cmdSafeStatus (h : HostHdr) (p : List Byte) (s : State) : Reply × State :=
  if p.length = 0 then ({ st := 0, data := safetyRecord s }, s)
  else if p.length ≠ 4 then badArg s
  else if !hasPerm s h.ctx 4 then ({ st := 2, data := safetyRecord s }, s.inc (F.HCTX_ERR_DENY_CNT h.ctx))
  else if !s.bit F.SAFE_STAT_ARCH_LEGACY then badArg s
  else
    let s := judgeAnswer (leAt p 0 2) (leAt p 2 2) s
    ({ st := 0, data := safetyRecord (settle s) }, s)

end Sys2Proof.Machine
end

