-- ==== Sys2Proof/Machine/Fill.lean ====
section
/-! DEFINITION. Response messages under assembly (R265), and the end of a zero-fill with the commands that waited for
it (R129). -/

namespace Sys2Proof.Machine

/-- Insert a record in the order of its command. -/
def insertRec (r : RespRec) : List RespRec → List RespRec
  | [] => [r]
  | q :: qs => if r.idx < q.idx then r :: q :: qs else q :: insertRec r qs

/-- Change the open response `id`. -/
def updOpen (id : Nat) (f : OpenResp → OpenResp) (s : State) : State :=
  { s with opens := s.opens.map fun o => if o.id = id then f o else o }

/-- Does a command get a record (R265)? FRAME commands get one only for a status, for data or under ACK_ALL. -/
def needsRecord (ackAll : Bool) (code : Nat) (r : Reply) : Bool :=
  ackAll || r.st ≠ 0 || !r.data.isEmpty || !(0x12 ≤ code && code ≤ 0x13 || 0x20 ≤ code && code ≤ 0x24)

/-- Enter a command's record into its response. -/
def addRecord (id : Nat) (ackAll : Bool) (code idx : Nat) (r : Reply) (s : State) : State :=
  if needsRecord ackAll code r then
    updOpen id (fun o => { o with recs := insertRec ⟨code, idx, r.st, r.final, r.data⟩ o.recs }) s
  else s

/-- Queue the response `id` once no command of it waits and its context has room for it (R272). -/
def closeResp (id : Nat) (s : State) : State :=
  match s.opens.find? fun o => o.id = id && o.held = 0 && unsent s o.ctx < 32 with
  | none => s
  | some o =>
    queueResp o.ctx (respBytes o.mseq o.gap false o.m o.recs) { s with opens := s.opens.filter fun x => x.id ≠ id }

/-- Queue every final record and finished response for which there is room now. DESIGN CHOICE: log 44. -/
def closeReady (s : State) : State :=
  let s := flushFinals s
  s.forEach (s.opens.map (·.id)) closeResp

/-- What a command of response `id` has asked for that waits for the response is noted (R257, R399, R434). -/
def noteAfter (id : Nat) (c : Ctx) (s : State) : State :=
  let ports : List Port := [0, 1].filter fun p => (s.port[p]).reconfig
  let sleep := (s.pwr.req.map (·.target)) == some .sleep && !s.after.any (·.sleep)
  if ports.isEmpty && !s.pwr.swReset && !sleep then s
  else
    let a : AfterResp := { resp := id, ctx := c, ports := ports, reset := s.pwr.swReset, sleep := sleep }
    let s := s.forEach ports fun p s => s.updPort p fun q => { q with reconfig := false }
    { s with after := s.after ++ [a], pwr := { s.pwr with swReset := false } }

/-! ### Commands that wait for a zero-fill (R129) -/

/-- The berth that the word at address `a` lies in. -/
def berthOf (s : State) (a : Nat) : Option BerthNo :=
  match placeOf a with
  | .berth o => berthAt s o
  | _ => none

/-- The berths that a command names, or in which its register addresses lie; a snapshot touches a word as a read of it
does. DEDUCED: log 31. -/
def touched (s : State) (code : Nat) (p : List Byte) : List BerthNo :=
  match code with
  | 0x12 => [Fin.ofNat 64 (pbits p 0 5 0)]
  | 0x13 => [Fin.ofNat 64 (pbits p 0 5 0)]
  | 0x01 => ((List.range (min 64 (leAt p 4 4))).filterMap fun i => berthOf s (leAt p 0 4 + 4 * i)).eraseDups
  | 0x02 => ((List.range (p.length / 8)).filterMap fun i => berthOf s (leAt p (8 * i) 4)).eraseDups
  | 0x03 => (berthOf s (leAt p 0 4)).toList
  | _ => []

/-- The berths whose zero-fill a command of context `c` waits for. -/
def fillsFor (s : State) (c : Ctx) (code : Nat) (p : List Byte) : List BerthNo :=
  (touched s code p).filter fun n => (s.berth n).zfill && (s.berth n).owner = c

/-- The berths in whose lists a command of context `c` waits: those under fill, and those that commands before it still
wait for (R129). DEDUCED: log 31. -/
def waitsFor (s : State) (c : Ctx) (code : Nat) (p : List Byte) : List BerthNo :=
  (touched s code p).filter fun n => ((s.berth n).zfill || !(s.berth n).held.isEmpty) && (s.berth n).owner = c

/-- Put `x` behind what waits for each berth of `ns`. -/
def holdIn (x : Held) (ns : List BerthNo) (s : State) : State :=
  s.forEach ns fun n s => s.updBerth n fun b => { b with held := b.held ++ [x] }

/-- A command that can wait for a zero-fill. -/
def heldCmd (code : Nat) (h : HostHdr) (p : List Byte) (s : State) : Reply × State :=
  match code with
  | 0x01 => cmdRegRd h p s
  | 0x02 => cmdRegWr h p s
  | 0x03 => cmdRegSnap h p s
  | 0x12 => cmdBerthWrite h p s
  | _ => cmdBerthReady h p s

/-- Carry out a command that waited, and queue its response when it was the last; one that by now touches a berth
allocated since, still under fill, waits on. DEDUCED: log 31. -/
def runHeld (x : Held) (s : State) : State :=
  let ns := fillsFor s x.hdr.ctx x.code x.payload
  if ns.isEmpty then
    let (r, s) := heldCmd x.code x.hdr x.payload s
    let s := noteAfter x.resp x.hdr.ctx (addRecord x.resp x.hdr.ackAll x.code x.idx r s)
    closeResp x.resp (updOpen x.resp (fun o => { o with held := o.held - 1 }) s)
  else holdIn x ns s

/-- `x` leaves every list it waits in. -/
def unhold (x : Held) (s : State) : State :=
  { s with br := { s.br with tab := s.br.tab.map fun b => { b with held := b.held.filter (· ≠ x) } } }

/-- The first command of a list that waits in no other list behind a fill or behind another command. -/
def readyHeld (s : State) : Option Held :=
  allBerths.findSome? fun n => match (s.berth n).held.head? with
    | some x =>
      if allBerths.all fun m => !(s.berth m).held.contains x || (!(s.berth m).zfill && (s.berth m).held.head? == some x)
      then some x else none
    | none => none

/-- Carry out the commands whose fills have ended, each list in its order; at most `k` of them. -/
def runReady : Nat → State → State
  | 0, s => s
  | k + 1, s => match readyHeld s with
    | some x => runReady k (runHeld x (unhold x s))
    | none => s

/-- How many places commands wait in. -/
def heldCount (s : State) : Nat := (allBerths.map fun n => (s.berth n).held.length).sum

/-- The fill of berth `n` ends: its memory is zero, and of the commands that waited those run, in order, that wait for
no other berth (R129). DEDUCED: log 31. -/
def fillDone (n : BerthNo) (s : State) : State :=
  let b := s.berth n
  if b.zfill then
    let s := zeroGranules b.base b.size ((advanceJob s).updBerth n fun b => { b with zfill := false })
    runReady (heldCount s) s
  else s

/-- BERTH_FREE ends the fill of its berth, and nothing waits in its list any more: a command that waits for another
berth too waits for that alone. DEDUCED: log 31. -/
def freeHeld (n : BerthNo) (s : State) : State :=
  let s := fillDone n s
  let elsewhere (x : Held) : Bool := allBerths.any fun m => m ≠ n && (s.berth m).held.contains x
  let only := (s.berth n).held.filter fun x => !elsewhere x
  (s.updBerth n fun b => { b with held := [] }).forEach only runHeld

end Sys2Proof.Machine
end

