-- ==== Sys2Proof/Machine/BerthCmds.lean ====
section
/-! DEFINITION. What berth memory does by itself: the end of a zero-fill (R129), the scrub (R126), the reload of a
uniformity granule (R125). -/

namespace Sys2Proof.Machine

/-- ZERO_FILL_DONE: the fill of berth `n` ends (R129). -/
def execZeroFillDone (n : BerthNo) (s : State) : Out :=
  finish (if s.mode.dieOn && !s.pwr.inReset then runAfter (fillDone n s) else s)

/-- SCRUB: one access at offset `off` with its findings (R126). -/
def execScrub (off : Nat) (ecc : List EccHit) (s : State) : Out :=
  finish (if s.mode.dieOn && !s.pwr.inReset && decide (off < berthMemBytes) then (readBerth (off / 8 * 8) 8 ecc s).2 else s)

/-- Bytes of uniformity granule `g` as the valid UNI bank gives them; 224 where the region was filled (R407). -/
def uniGranule (s : State) (g : Nat) : List Byte :=
  match latestRec s 2 with
  | some r => if s.bit F.PWR_BOOTSTAT_UNI_BAD then List.replicate 4096 224
              else storeBytes s (bankBase 2 r.bank + 4096 * g) 4096
  | none => List.replicate 4096 224

/-- UNI_RELOAD: the harbourmaster reloads granule `g` of the uniformity region (R125). -/
def execUniReload (g : Fin 512) (s : State) : Out :=
  finish (if s.mode.dieOn && !s.pwr.inReset then putUni (4096 * g.val) (uniGranule s g.val) s else s)

end Sys2Proof.Machine
end

