-- ==== Sys2Proof/Machine/Engine.lean ====
section
/-! DEFINITION. A cluster's routines (R146 to R150, R159, R165): their start, their end, hand-off, barriers, tug
queues, exceptions and budget overruns. -/

namespace Sys2Proof.Machine

def State.cluster (s : State) (e : Side) (c : Cluster) : ClusterState := (s.eng e).cl[c]

/-- The tile at dispatch position `n` of cluster `c` (R147). -/
def tileAtPos (c : Cluster) (n : Nat) : Nat :=
  let i := c.val + 8 * n
  tileOfZone (i % 16) (i / 16)

/-- A routine starts: V, P and the hand-off buffer read 0, S and scratch keep their values (R146, R148). -/
def startRoutine (e : Side) (c : Cluster) (tile pc count : Nat) (s : State) : State :=
  s.updCl e c fun k =>
    { k with v := [], p := [], buf := [], tile := tile, pc := pc, lastPc := pc, run := .running, retired := 0
             count := count }

/-- Has cluster `k` arrived at barrier `i` of engine `g`, or ended its frame (R150)? -/
def arrived (g : EngineState) (i : Byte) (k : Cluster) : Bool :=
  (Sparse.get (Sparse.all 0) g.bar i.toNat).getLsbD k.val || g.cl[k].run == .idle

def barrierMet (g : EngineState) (i : Byte) : Bool := allClusters.all (arrived g i)

/-- Clusters that wait at a barrier that is met go on. -/
def releaseBarriers (e : Side) (s : State) : State :=
  s.updEng e fun g => { g with cl := g.cl.map fun k =>
    match k.run with
    | .waitBar i => if barrierMet g i then { k with run := .running } else k
    | _ => k }

/-- The cluster's frame has ended: CLUS_DONE; when all have, ENGx_PEAK takes the frame's largest count. -/
def endFrame (e : Side) (c : Cluster) (s : State) : State :=
  let x := sideIx e
  let s := s.updCl e c fun k => { k with run := .idle, pos := 64 }
  let s := s.setFld (F.ENG_STAT_CLUS_DONE x) (s.fld (F.ENG_STAT_CLUS_DONE x) ||| 2 ^ c.val)
  let s := if s.fld (F.ENG_STAT_CLUS_DONE x) = 255 then
      (s.setFld (F.ENG_PEAK_PEAK_INSTR x) (min 65535 (s.eng e).peak)).setFld (F.ENG_PEAK_PEAK_TILE x) (s.eng e).peakTile
    else s
  releaseBarriers e s

/-- A routine's count enters the frame's peak. -/
def notePeak (e : Side) (c : Cluster) (s : State) : State :=
  let k := s.cluster e c
  s.updEng e fun g => if k.count > g.peak then { g with peak := k.count, peakTile := k.tile % 512 } else g

/-- YIELD stalls while both hand-off buffers are held; else the next tile starts, or the frame ends after the 64th
(R147, R148). -/
def nextTile (e : Side) (c : Cluster) (s : State) : State :=
  let k := s.cluster e c
  if k.full.length ≥ 2 then s.updCl e c fun k => { k with run := .waitBuf }
  else if k.pos ≥ 64 then endFrame e c s
  else
    let s := s.updCl e c fun k => { k with pos := k.pos + 1 }
    startRoutine e c (tileAtPos c k.pos) (s.eng e).tileEntry (if k.pos = 0 then k.count else 0) s

/-- Hand off `rows` of the cluster's tile (R148). -/
def handOff (e : Side) (c : Cluster) (rows : Sparse (Vector Half 64)) (s : State) : State :=
  s.updCl e c fun k => { k with full := k.full ++ [{ tile := k.tile, frm := k.frm, rows := rows }], buf := [] }

/-- Hand off every tile of the frame from position `n` on with intensity 0 (R150, R159). DEDUCED: log 121. -/
def handOffRest (e : Side) (c : Cluster) (n : Nat) (s : State) : State :=
  s.updCl e c fun k => { k with
    full := k.full ++ (((List.range 64).drop n).map fun i => { tile := tileAtPos c i, frm := k.frm, rows := [] })
    buf := [] }

/-- A routine ends: in FRAME_ENTRY nothing is handed off. -/
def endRoutine (e : Side) (c : Cluster) (s : State) : State :=
  let k := s.cluster e c
  if k.pos = 0 then nextTile e c s
  else nextTile e c (handOff e c k.buf (notePeak e c s))

/-! ### Tugs (R155 to R158) -/

/-- 64-bit words of scratch that [a, a + n) touches; the latch page is no scratch (R152). -/
def scrWords (a n : Nat) : Nat := (min (a + n) 0x40000 + 7) / 8 - min a 0x40000 / 8

/-- 64-bit words that [a, a + n) covers in part, which a write to it reads first. -/
def partWords (a n : Nat) : Nat :=
  if a / 8 = (a + n) / 8 then (if n = 0 then 0 else 1) else (if a % 8 = 0 then 0 else 1) + (if (a + n) % 8 = 0 then 0 else 1)

/-- `k` corrected errors met in `w` words of scratch, at most one for each word (R152). DEDUCED: log 123. -/
def countWords (e : Side) (w k : Nat) (s : State) : State := s.addFld (F.ENG_ECC_SCR_CORR (sideIx e)) (min w k)

/-- Corrected errors of scratch met over [a, a + n). -/
def countScr (e : Side) (a n k : Nat) (s : State) : State := countWords e (scrWords a n) k s

/-- The words of scratch in which an entry can meet an error: those it reads and those it writes in part. -/
def tugWords (t : Tug) : Nat := (if t.berth.isNone then scrWords t.src t.len else 0) + partWords t.dst t.len

/-- Does the other engine compose the same frame in step, so that one berth read serves both (R158)? -/
def inStep (s : State) (e : Side) (c : Cluster) : Bool :=
  let o := s.eng (otherSide e)
  o.powered && (o.role == .active || o.role == .standby) && o.cl[c].run != .idle
    && o.cl[c].frm = (s.cluster e c).frm

/-- The first `n` bytes of entry `t`. A berth read that the other engine has made for the same request gives its data
here too; another one serves both, and `ecc` are the findings it meets in berth memory (R158). -/
def tugData (e : Side) (c : Cluster) (t : Tug) (n : Nat) (ecc : List EccHit) (s : State) : List Byte × State :=
  let k := s.cluster e c
  match t.berth with
  | none => ((List.range n).map fun i =>
      if t.src + i < 0x40000 then Sparse.get (Sparse.all 0) k.scratch (t.src + i)
      else Sparse.get (Sparse.all 0) s.ffn.page (t.src + i - 0x40000), s)
  | some b =>
    match (s.eng e).served[c].find? fun x => x.1 = t with
    | some x => (x.2.take n, s.updEng e fun g =>
        { g with served := g.served.set c (g.served[c].eraseP fun y => y.1 = t) })
    | none =>
      let (bs, s) := readBerth ((s.berth b).base * 4096 + t.src) n ecc s
      (bs, if inStep s e c then s.updEng (otherSide e) fun g => { g with served := g.served.set c (g.served[c] ++ [(t, bs)]) }
        else s)

/-- Move the first `n` bytes of entry `t`, with `scr` errors corrected in scratch. -/
def moveTug (e : Side) (c : Cluster) (t : Tug) (n : Nat) (ecc : List EccHit) (scr : Nat) (s : State) : State :=
  let (bs, s) := tugData e c t n ecc s
  let s := countWords e (tugWords { t with len := n }) scr s
  s.updCl e c fun k => { k with scratch := putBytes k.scratch t.dst bs }

/-- Carry out the first entry of the tug queue. DESIGN CHOICE: log 120. -/
def tugStep (e : Side) (c : Cluster) (ecc : List EccHit) (scr : Nat) (s : State) : State :=
  match (s.cluster e c).tugs with
  | [] => s
  | t :: ts => (moveTug e c t t.len ecc scr s).updCl e c fun k => { k with tugs := ts }

/-- Carry out every entry that waits, meeting `scr` corrected errors of scratch. -/
def drainTugs (e : Side) (c : Cluster) (scr : Nat) (s : State) : State :=
  let w := ((s.cluster e c).tugs.map tugWords).sum
  countWords e w scr (s.forEach (List.range (s.cluster e c).tugs.length) fun _ s => tugStep e c [] 0 s)

/-- A frame is aborted while the first entry of cluster `c` is in progress: both engines stop at the same byte, which
timing decides and the model leaves free, and the bytes already written stay (R200). DESIGN CHOICE: log 120. -/
def cutTug (c : Cluster) (s : State) : State :=
  let (w, s) := s.draw
  s.forEach sides fun e s =>
    match (s.cluster e c).tugs with
    | [] => s
    | t :: _ => moveTug e c t (w.toNat % (t.len + 1)) [] 0 s

/-! ### Program exceptions and budget overruns -/

/-- Does engine `e` run the new image of HOT_SWAP before its roles change (R213)? -/
def warming (s : State) (e : Side) : Bool :=
  match s.dplx.hot with
  | some h => h.newSide == e && 3 ≤ h.step && h.step < 8
  | none => false

/-- The tile is lost: handed off with intensity 0, or all tiles if the routine is FRAME_ENTRY. DEDUCED: log 121. -/
def loseTile (e : Side) (c : Cluster) (s : State) : State :=
  let s := notePeak e c s
  if (s.cluster e c).pos = 0 then endFrame e c (handOffRest e c 0 s)
  else nextTile e c (handOff e c [] s)

/-- Record an exception in ENGx_EXC and raise event 18 or 19 (R165, R166). DEDUCED: log 122. -/
def recordExc (e : Side) (c : Cluster) (cause pc : Nat) (s : State) : State :=
  let x := sideIx e
  let k := s.cluster e c
  let tile := if k.pos = 0 then 0 else k.tile
  let s := ((s.setFld (F.ENG_EXC_CAUSE x) cause).setFld (F.ENG_EXC_CLUSTER x) c.val).setBit (F.ENG_EXC_IN_ENTRY x)
    (k.pos = 0)
  let s := (s.setFld (F.ENG_EXC_TILE x) tile).setFld (F.ENG_EXC_PC x) pc
  raiseAll (18 + x) (cause + c.val * 16 + tile * 256) s

/-- A program exception (R165), with `scr` errors of scratch corrected while the tug completes its entries; in the new
engine of HOT_SWAP it ends the swap (R213). DEDUCED: log 121. -/
def programExc (e : Side) (c : Cluster) (cause pc scr : Nat) (s : State) : State :=
  let s := (recordExc e c cause pc s).inc (F.ENG_EXCCNT_PROG_CNT (sideIx e))
  if warming s e then hotFault s else loseTile e c (drainTugs e c scr s)

/-- The limit of a routine's count: TL while warming under HOT_SWAP, else TILE_LIMIT in force. -/
def tileLimit (s : State) (e : Side) : Nat :=
  if (s.eng e).tileLimit = 0 then s.fld F.ENG_BUDGET_TILE_LIMIT else (s.eng e).tileLimit

/-- A budget overrun (R159), with `scr` errors of scratch corrected by the tug. DEDUCED: log 119, 121, 122. -/
def overrun (e : Side) (c : Cluster) (scr : Nat) (s : State) : State :=
  let x := sideIx e
  let k := s.cluster e c
  let tile := if k.pos = 0 then 0 else k.tile
  let s := (s.inc (F.ENG_BUDSTAT_OVR_CNT x)).setFld (F.ENG_BUDSTAT_LAST_TILE x) tile
  let s := raiseAll (20 + x) tile s
  if warming s e then hotFault s else loseTile e c (drainTugs e c scr s)

/-- Every cluster starts FRAME_ENTRY for frame `frm` (R147). -/
def startFrame (e : Side) (frm : Word) (s : State) : State :=
  let s := s.updEng e fun g =>
    let cl := g.cl.map fun k =>
      { k with v := [], p := [], buf := [], tile := 512, frm := frm, pc := g.frameEntry, lastPc := g.frameEntry
               run := .running, pos := 0, retired := 0, count := 0, tugs := [], full := [] }
    { g with cl := cl, bar := [], served := .replicate 8 [], ffNext := 0, pack := .replicate 16 {}
             tx := g.tx.map fun t => { t with wait := [], sent := [], naked := 0 }, peak := 0, peakTile := 0 }
  s

end Sys2Proof.Machine
end

