-- ==== Sys2Proof/Machine/Molia.lean ====
section
/-! DEFINITION. Running one Molia instruction: legality (R180, R181), the order of exceptions (R183, R184), budget
(R159), operands, predication (R179), scratch accesses (R185) and the stalls of R157. -/

namespace Sys2Proof.Machine

/-- What an instruction does: an exception of R164, a stall that leaves everything as it is, completion with the
next index (none: the one that follows), or completion with what ends or holds the routine. -/
inductive MolRes where
  | exc (cause : Nat)
  | stall
  | done (s : State) (target : Option Nat)
  | ends (s : State) (after : State → State)

/-- Count a retired instruction; the next index. -/
def retire (e : Side) (c : Cluster) (next : Nat) (s : State) : State :=
  s.updCl e c fun k => { k with count := k.count + 1, retired := k.retired + 1, lastPc := k.pc, pc := next }

/-- Word `n` of program memory. -/
def EngineState.word (g : EngineState) (n : Nat) : Word := Sparse.get (Sparse.all 0) g.pm n

/-- Does the word at the cluster's program counter spell an instruction (R180)? -/
def spellsInstr (s : State) (e : Side) (c : Cluster) : Bool :=
  (Molia.decode e c ((s.eng e).word (s.cluster e c).pc) 0).isSome

/-- Do the words at the cluster's program counter spell instruction `i` of `words` words? -/
def fetches (s : State) (e : Side) (c : Cluster) (words : Nat) (i : Instr) : Bool :=
  Molia.encode i == some ((s.eng e).word (s.cluster e c).pc)
    && (words < 2 || (s.eng e).word ((s.cluster e c).pc + 1) == Molia.extOf i)

/-- Corrected errors of program memory, at most one for each word fetched (R164). DEDUCED: log 123. -/
def countPm (e : Side) (words : Nat) (x : EngEcc) (s : State) : State :=
  s.addFld (F.ENG_ECC_PM_CORR (sideIx e)) (min words x.pm)

/-- Is a word followed by an extension word: S format with XI = 1, or VS form with bsel 16 (R181)? -/
def extends_ (w : Word) : Bool :=
  (w.extractLsb' 26 6 == 0x08 && w.getLsbD 13) || (w.extractLsb' 26 6 == 0x19 && w.extractLsb' 11 5 == 16)

/-- The cause of a word that spells no instruction: ILLEGAL, or PC_RANGE before it when the extension word that its
format calls for lies outside the code section (R183, R184). -/
def unspelt (s : State) (e : Side) (c : Cluster) : Nat :=
  let k := s.cluster e c
  if extends_ ((s.eng e).word k.pc) && decide ((s.eng e).codeWords < k.pc + 2) then 2 else 1

/-- The cluster issues instruction `i` of `words` words. The word at its program counter decides: one that spells no
instruction raises an exception whatever the row names, and a row that names another instruction than it spells is none
that the cluster issues. Then PC_RANGE of an extension word, ILLEGAL of its fields, its own exceptions, the budget, and
retirement; a next index outside the code section raises PC_RANGE (R184). A cluster that does not run, or whose side's
clocks are gated (R427), issues nothing. DESIGN CHOICE: log 117. DEDUCED: log 118, 119, 123. -/
def molia (e : Side) (c : Cluster) (words : Nat) (i : Instr) (x : EngEcc) (legal : Bool) (body : State → MolRes)
    (s : State) : Out :=
  let k := s.cluster e c
  let ovr := decide (tileLimit s e < k.count + 1)
  let code := (s.eng e).codeWords
  let f := countPm e words x s
  if k.run != .running || (s.eng e).gated then finish s
  else if code ≤ k.pc then finish (programExc e c 2 k.lastPc x.scr s)
  else if !spellsInstr s e c then finish (programExc e c (unspelt s e c) k.pc x.scr (countPm e 1 x s))
  else if !fetches s e c 1 i then finish s
  else if code < k.pc + words then finish (programExc e c 2 k.pc x.scr (countPm e 1 x s))
  else if !fetches s e c words i then finish s
  else if !legal then finish (programExc e c 1 k.pc x.scr f)
  else match body f with
    | .exc cause => finish (programExc e c cause k.pc x.scr f)
    | .stall => finish s
    | .done t target =>
      if ovr then finish (overrun e c x.scr f)
      else
        let n := target.getD (k.pc + words)
        let left := x.scr - (t.fld (F.ENG_ECC_SCR_CORR (sideIx e)) - f.fld (F.ENG_ECC_SCR_CORR (sideIx e)))
        let t := retire e c n t
        if n < code then finish t else finish (programExc e c 2 k.pc left t)
    | .ends t after =>
      if ovr then finish (overrun e c x.scr f) else finish (after (retire e c (k.pc + words) t))

/-! ### Registers -/

/-- S registers: S0 reads 0 (R174). -/
def ClusterState.sreg (k : ClusterState) (n : BitVec 4) : Word :=
  if n = 0 then 0 else Sparse.get (Sparse.all 0) k.s n.toNat

/-- A write to S0 is discarded (R174). -/
def ClusterState.setS (k : ClusterState) (n : BitVec 4) (w : Word) : ClusterState :=
  if n = 0 then k else { k with s := Sparse.put (Sparse.all 0) k.s n.toNat w }

def zeroLanes : Vector Half 64 := .replicate 64 0

def ClusterState.vreg (k : ClusterState) (n : BitVec 5) : Vector Half 64 := Sparse.get (Sparse.all zeroLanes) k.v n.toNat

def ClusterState.setV (k : ClusterState) (n : BitVec 5) (v : Vector Half 64) : ClusterState :=
  { k with v := Sparse.put (Sparse.all zeroLanes) k.v n.toNat v }

def ClusterState.preg (k : ClusterState) (n : BitVec 3) : BitVec 64 := Sparse.get (Sparse.all 0) k.p n.toNat

def ClusterState.setP (k : ClusterState) (n : BitVec 3) (v : BitVec 64) : ClusterState :=
  { k with p := Sparse.put (Sparse.all 0) k.p n.toNat v }

def State.setS (e : Side) (c : Cluster) (n : BitVec 4) (w : Word) (s : State) : State := s.updCl e c fun k => k.setS n w
def State.setV (e : Side) (c : Cluster) (n : BitVec 5) (v : Vector Half 64) (s : State) : State :=
  s.updCl e c fun k => k.setV n v
def State.setP (e : Side) (c : Cluster) (n : BitVec 3) (v : BitVec 64) (s : State) : State :=
  s.updCl e c fun k => k.setP n v

/-! ### Predication (R179) -/

/-- PEN = 0 leaves PNEG and p 0. DEDUCED: log 118. -/
def predOk (f : BitVec 5) : Bool := f.getLsbD 4 || f == 0

/-- Is lane `l` active? -/
def lane (k : ClusterState) (f : BitVec 5) (l : Nat) : Bool :=
  !f.getLsbD 4 || ((k.preg (f.extractLsb' 0 3)).getLsbD l != f.getLsbD 3)

/-- A vector with `f l` in the active lanes and the old lanes of `d` elsewhere. -/
def lanes (k : ClusterState) (pred : BitVec 5) (d : Vector Half 64) (f : Fin 64 → Half) : Vector Half 64 :=
  Vector.ofFn fun l => if lane k pred l.val then f l else d[l]

/-- A predicate register from its bits. -/
def predOf (f : Nat → Bool) : BitVec 64 :=
  BitVec.ofNat 64 ((List.range 64).foldl (fun m l => if f l then m + 2 ^ l else m) 0)

/-! ### Scratch (R185, R157) -/

def readable (a n : Nat) : Bool := a + n ≤ 0x41000
def writable (a n : Nat) : Bool := a + n ≤ 0x40000

/-- A byte of scratch or of the latch page. -/
def scrByte (s : State) (e : Side) (c : Cluster) (a : Nat) : Byte :=
  if a < 0x40000 then Sparse.get (Sparse.all 0) (s.cluster e c).scratch a
  else Sparse.get (Sparse.all 0) s.ffn.page (a - 0x40000)

/-- `n` bytes at `a`, little-endian. -/
def scrNat (s : State) (e : Side) (c : Cluster) (a n : Nat) : Nat :=
  leNat ((List.range n).map fun i => scrByte s e c (a + i))

def putScr (e : Side) (c : Cluster) (a : Nat) (bs : List Byte) (s : State) : State :=
  s.updCl e c fun k => { k with scratch := putBytes k.scratch a bs }

def meets (a n b m : Nat) : Bool := a < b + m && b < a + n

/-- A load of [a, a + n) stalls on an uncompleted tug entry that writes there. -/
def loadStalls (k : ClusterState) (a n : Nat) : Bool := k.tugs.any fun t => meets a n t.dst t.len

/-- A store stalls on an entry that writes there, or that copies from there. -/
def storeStalls (k : ClusterState) (a n : Nat) : Bool :=
  k.tugs.any fun t => meets a n t.dst t.len || (t.berth.isNone && meets a n t.src t.len)

/-- Address S[sb] + imm, modulo 2^32. -/
def addr (k : ClusterState) (sb : BitVec 4) (imm : Word) : Nat := (k.sreg sb + imm).toNat

/-- A load of `n` bytes aligned to `al` at `a`, which meets the corrected errors `x`. -/
def loadAt (s : State) (e : Side) (c : Cluster) (a n al : Nat) (x : EngEcc) (f : State → State) : MolRes :=
  if !readable a n || a % al ≠ 0 then .exc 3
  else if loadStalls (s.cluster e c) a n then .stall
  else .done (f (countScr e a n x.scr s)) none

/-- A store over [a, a + n) aligned to `al`; it reads the words that it changes in part. -/
def storeAt (s : State) (e : Side) (c : Cluster) (a n al : Nat) (x : EngEcc) (f : State → State) : MolRes :=
  if !writable a n || a % al ≠ 0 then .exc 3
  else if storeStalls (s.cluster e c) a n then .stall
  else .done (f (countScr e a n x.scr s)) none

/-! ### Arithmetic (R177, R178) -/

/-- The integer nearest to t / 65,535. -/
def rnd65535 (t : Int) : Int := (2 * t + 65535).fdiv 131070

/-- (t + 2^(sh−1)) >> sh, arithmetic. -/
def rnd2 (t : Int) (sh : Nat) : Int := (t + 2 ^ (sh - 1)).fdiv (2 ^ sh)

def clampI (v lo hi : Int) : Int := max lo (min hi v)

/-- Saturation to U16 and to S16. -/
def satU (v : Int) : Half := BitVec.ofInt 16 (clampI v 0 65535)
def satS (v : Int) : Half := BitVec.ofInt 16 (clampI v (-32768) 32767)

/-! ### Operation forms -/

/-- Second operand of format S: S[sb], or the extension word (R181, R188). -/
def scalarB (k : ClusterState) (f : FS) : Word := if f.xi then f.ext else k.sreg f.sb

/-- DEDUCED: log 118. -/
def scalarLegal (f : FS) : Bool := f.rsv == 0 && (!f.xi || f.sb == 0)

/-- S[sd] = g a b (R188). -/
def scalarOp (e : Side) (c : Cluster) (i : Instr) (f : FS) (g : Word → Word → Word) (s : State) : Out :=
  molia e c (if f.xi then 2 else 1) i f.ecc (scalarLegal f) (fun s =>
    let k := s.cluster e c
    .done (s.setS e c f.sd (g (k.sreg f.sa) (scalarB k f))) none) s

/-- 1 for true. -/
def truth (b : Bool) : Word := if b then 1 else 0

/-- Words of a vector instruction: two for bsel = 0b10000 (R181). -/
def vWords (f : FV) : Nat := if f.bcast && f.vb == 16 then 2 else 1

/-- bsel and the reserved half of the extension word (R181, R191). -/
def bselOk (f : FV) : Bool := !f.bcast || !f.vb.getLsbD 4 || (f.vb == 16 && f.ext.extractLsb' 16 16 == 0)

/-- Lane `l` of operand b (R191). -/
def operandB (k : ClusterState) (f : FV) (l : Fin 64) : Half :=
  if !f.bcast then (k.vreg f.vb)[l]
  else if f.vb == 16 then f.ext.extractLsb' 0 16
  else (k.sreg (f.vb.extractLsb' 0 4)).extractLsb' 0 16

/-- V[vd][l] = g a b d for every active lane (R191). -/
def vectorOp (e : Side) (c : Cluster) (i : Instr) (f : FV) (legal : Bool) (g : Half → Half → Half → Half) (s : State) : Out :=
  molia e c (vWords f) i f.ecc (legal && predOk f.pred && bselOk f) (fun s =>
    let k := s.cluster e c
    let d := k.vreg f.vd
    .done (s.setV e c f.vd (lanes k f.pred d fun l => g (k.vreg f.va)[l] (operandB k f l) d[l])) none) s

/-- A compare: P[vd[2:0]] (R192). -/
def compareOp (e : Side) (c : Cluster) (i : Instr) (f : FV) (g : Half → Half → Bool) (s : State) : Out :=
  molia e c (vWords f) i f.ecc (f.vd.extractLsb' 3 2 == 0 && predOk f.pred && bselOk f) (fun s =>
    let k := s.cluster e c
    let r := predOf fun l => lane k f.pred l && g ((k.vreg f.va)[Fin.ofNat 64 l]) (operandB k f (Fin.ofNat 64 l))
    .done (s.setP e c (f.vd.extractLsb' 0 3) r) none) s

/-- A reduction of the active lanes to S[vd[3:0]]: V form only (R193). -/
def reduceOp (e : Side) (c : Cluster) (i : Instr) (f : FV) (g : List Nat → Nat) (s : State) : Out :=
  molia e c (vWords f) i f.ecc (!f.bcast && !f.vd.getLsbD 4 && f.vb == 0 && predOk f.pred) (fun s =>
    let k := s.cluster e c
    let xs := ((List.finRange 64).filter fun l => lane k f.pred l.val).map fun l => ((k.vreg f.va)[l]).toNat
    .done (s.setS e c (f.vd.extractLsb' 0 4) (BitVec.ofNat 32 (g xs))) none) s

/-- P[pd] = g P[pa] P[pb] (R194). -/
def predOp (e : Side) (c : Cluster) (i : Instr) (f : FP) (legal : Bool) (g : BitVec 64 → BitVec 64 → BitVec 64) (s : State) : Out :=
  molia e c 1 i f.ecc (f.rsv == 0 && legal) (fun s =>
    let k := s.cluster e c
    .done (s.setP e c f.pd (g (k.preg f.pa) (k.preg f.pb))) none) s

/-- A format B branch (R187). -/
def branchOp (e : Side) (c : Cluster) (i : Instr) (f : FB) (legal : Bool) (taken : ClusterState → Bool) (s : State) : Out :=
  molia e c 1 i f.ecc (f.rsv == 0 && legal) (fun s =>
    .done s (if taken (s.cluster e c) then some f.target.toNat else none)) s

/-- A scalar load of `n` bytes (R190). -/
def scalarLoad (e : Side) (c : Cluster) (i : Instr) (f : FSM) (n : Nat) (s : State) : Out :=
  molia e c 1 i f.ecc (f.rsv == 0) (fun s =>
    let a := addr (s.cluster e c) f.sb (f.imm17.signExtend 32)
    loadAt s e c a n n f.ecc fun s => s.setS e c f.sr (BitVec.ofNat 32 (scrNat s e c a n))) s

/-- A scalar store of `n` bytes (R190). -/
def scalarStore (e : Side) (c : Cluster) (i : Instr) (f : FSM) (n : Nat) (s : State) : Out :=
  molia e c 1 i f.ecc (f.rsv == 0) (fun s =>
    let k := s.cluster e c
    let a := addr k f.sb (f.imm17.signExtend 32)
    storeAt s e c a n n f.ecc (putScr e c a (toLe n (k.sreg f.sr).toNat))) s

/-- Address of a format VM instruction with elements of `n` bytes (R195). -/
def vmAddr (k : ClusterState) (f : FVM) (n : Nat) : Nat := addr k f.sb (f.imm12.signExtend 32 * BitVec.ofNat 32 n)

/-- A vector load with elements of `n` bytes (R195). -/
def vectorLoad (e : Side) (c : Cluster) (i : Instr) (f : FVM) (n : Nat) (s : State) : Out :=
  molia e c 1 i f.ecc (predOk f.pred) (fun s =>
    let k := s.cluster e c
    let a := vmAddr k f n
    loadAt s e c a (64 * n) n f.ecc fun s => s.setV e c f.vr
      (lanes k f.pred (k.vreg f.vr) fun l => BitVec.ofNat 16 (scrNat s e c (a + n * l.val) n))) s

/-- A vector store with elements of `n` bytes (R195). -/
def vectorStore (e : Side) (c : Cluster) (i : Instr) (f : FVM) (n : Nat) (s : State) : Out :=
  molia e c 1 i f.ecc (predOk f.pred) (fun s =>
    let k := s.cluster e c
    let a := vmAddr k f n
    storeAt s e c a (64 * n) n f.ecc fun s => s.forEach ((List.finRange 64).filter fun l => lane k f.pred l.val) fun l s =>
      putScr e c (a + n * l.val) (toLe n ((k.vreg f.vr)[l]).toNat) s) s

end Sys2Proof.Machine
end

