-- ==== Sys2Proof/Machine/FixedFunction.lean ====
section
/-! DEFINITION. The fixed-function stages (R25, R214 to R232): one tile from a hand-off buffer to packed codes, the
zone CRC and n_peak, and the upward rail move of R100. -/

namespace Sys2Proof.Machine

/-! ### Rasteriser (R216, R219 to R221) -/

/-- A signed halfword of a 16-byte entry. -/
def entI (bs : List Byte) (o : Nat) : Int := signed 16 (leAt bs o 2)

/-- h_o(x) of R216. -/
def angleH (s : State) (x : Nat) : Int :=
  (Sparse.get (Sparse.all 0) s.ffn.optics x).toInt - (if s.bit F.FFN_CTRL_YAW_REL then s.ffn.yaw.toInt else 0)

/-- v_o(y) of R216. -/
def angleV (s : State) (y : Nat) : Int :=
  (Sparse.get (Sparse.all 0) s.ffn.optics (2048 + y)).toInt
    - (if s.bit F.FFN_CTRL_PITCH_REL then s.ffn.pitch.toInt else 0)

/-- Is `p` in the triangle `a b c`, boundary included? -/
def inTriangle (a b c p : Int × Int) : Bool :=
  let cross (u v : Int × Int) : Int := (v.1 - u.1) * (p.2 - u.2) - (v.2 - u.2) * (p.1 - u.1)
  let x := cross a b
  let y := cross b c
  let z := cross c a
  ((0 ≤ x && 0 ≤ y && 0 ≤ z) || (x ≤ 0 && y ≤ 0 && z ≤ 0))
    && min a.1 (min b.1 c.1) ≤ p.1 && p.1 ≤ max a.1 (max b.1 c.1)
    && min a.2 (min b.2 c.2) ≤ p.2 && p.2 ≤ max a.2 (max b.2 c.2)

/-- Is `p` in the convex hull of `vs`: in a triangle of three of them? DEDUCED: log 116. -/
def inHull (vs : List (Int × Int)) (p : Int × Int) : Bool :=
  vs.any fun a => vs.any fun b => vs.any fun c => inTriangle a b c p

/-- Does shape `g` cover the angles (h, v) (R219)? -/
def covers (g : Shape) (h v : Int) : Bool :=
  let bs := g.ent.bytes
  let m : Int := (byteAt bs 10).toNat
  let h0 := entI bs 2 - m
  let h1 := entI bs 4 + m
  let v0 := entI bs 6 - m
  let v1 := entI bs 8 + m
  let a := h1 - h0
  let b := v1 - v0
  let box := h0 ≤ h && h ≤ h1 && v0 ≤ v && v ≤ v1
  match (byteAt bs 0).toNat % 4 with
  | 1 =>
    if a = 0 || b = 0 then box
    else (2 * h - h0 - h1) ^ 2 * b ^ 2 + (2 * v - v0 - v1) ^ 2 * a ^ 2 ≤ a ^ 2 * b ^ 2
  | 2 =>
    let vert (i : Nat) : Int × Int :=
      (255 * h0 + (byteAt g.poly (2 + 2 * i)).toNat * a, 255 * v1 - (byteAt g.poly (3 + 2 * i)).toNat * b)
    inHull ((List.range (byteAt g.poly 0).toNat).map vert) (255 * h, 255 * v)
  | _ => box

/-- Stage 1: the pixel's intensity under every covering cap (R221). -/
def rasterise (s : State) (x y i : Nat) : Nat :=
  let h := angleH s x
  let v := angleV s y
  s.ffn.shapes.foldl (fun i g => if covers g h v then min i g.cap else i) i

/-! ### Curves (R223, R224) -/

/-- The largest t below 65,536 for which `p` holds, where `p` holds up to it; 0 if for none. -/
def largestT (p : Nat → Bool) : Nat :=
  (List.range 16).foldl (fun t i => let u := t + 2 ^ (15 - i); if p u then u else t) 0

/-- Knot intensity I_i. -/
def knotI (i : Nat) : Nat := min (16 * i) 65535

/-- Knot of the gamma curve: round(65,535 x^2.2), decided on integers. -/
def gammaKnot (i : Nat) : Nat := largestT fun t => (2 * t - 1) ^ 5 * 65535 ^ 6 ≤ 32 * knotI i ^ 11

/-- Knot of the logarithmic curve: round(65,535 × 2^(12 (x − 1))), decided on integers; 0 for i = 0. -/
def logKnot (i : Nat) : Nat :=
  if i = 0 then 0
  else largestT fun t => (2 * t - 1) ^ 21845 * 2 ^ 262140 ≤ 131070 ^ 21845 * 2 ^ (4 * knotI i)

/-- Knot i of the selected curve. -/
def curveKnot (s : State) (i : Nat) : Nat :=
  match s.fld F.FFN_CTRL_CURVE_SEL with
  | 0 => knotI i
  | 1 => gammaKnot i
  | 2 => logKnot i
  | _ => (Sparse.get (Sparse.all 0) s.ffn.curve i).toNat

/-- Stage 2: linear duty. -/
def curveStage (s : State) (i : Nat) : Nat :=
  let t0 := curveKnot s (i / 16)
  let t1 := curveKnot s (i / 16 + 1)
  ((t0 : Int) + rnd2 (((t1 : Int) - t0) * (i % 16 : Nat)) 4).toNat

/-! ### Fade, uniformity, fill, dither (R227 to R230) -/

/-- Stage 3: fade factor and zone scale. -/
def scaleStage (s : State) (z : Zone) (d : Nat) : Nat :=
  let r (a b : Nat) : Nat := (rnd65535 (a * b)).toNat
  r (r d (s.ffn.phi[z])) (s.ffn.scale[z])

/-- Byte offset of the pixel's gain in the uniformity region (R123). -/
def uniOff (x y : Nat) : Nat := 0x1600000 + y * 2048 + x

/-- Stage 4: D_3 × g / 255, halves up; a poisoned word uses SUB_GAIN (R228). -/
def uniformityStage (s : State) (x y d : Nat) : Nat :=
  let o := uniOff x y
  let g := if poisonOf s (o / 8) = 0 then (berthByte s o).toNat else s.fld F.FFN_UNICFG_SUB_GAIN
  (2 * d * g + 255) / 510

/-- Latched bypass bit of pixel (x, y). -/
def bypassed (s : State) (x y : Nat) : Bool := (Sparse.get (Sparse.all 0) s.ffn.bypass (strOfPix x y)).getLsbD (x % 8)

def tileOfPix (x y : Nat) : Nat := y / 64 * 32 + x / 64

def tileFailed (s : State) (t : Nat) : Bool := s.ffn.failed.contains t

/-- Neighbours of (x, y) on the emitter. -/
def neighbours (x y : Nat) : List (Nat × Nat) :=
  (if x = 0 then [] else [(x - 1, y)]) ++ (if x = 2047 then [] else [(x + 1, y)])
    ++ (if y = 0 then [] else [(x, y - 1)]) ++ (if y = 1023 then [] else [(x, y + 1)])

/-- Stage 5 (R229). -/
def fillStage (s : State) (x y d : Nat) : Nat :=
  if bypassed s x y || tileFailed s (tileOfPix x y) then d
  else
    let b := ((neighbours x y).filter fun p => bypassed s p.1 p.2 && !tileFailed s (tileOfPix p.1 p.2)).length
    min 65535 (d + (rnd2 ((d * s.fld F.FFN_CTRL_FILL_GAIN * b : Nat) : Int) 10).toNat)

/-- The threshold index M of R230. -/
def ditherM (x y : Nat) : Nat :=
  let a := x % 8
  let b := (x ^^^ y) % 8
  b % 2 * 32 + a % 2 * 16 + b / 2 % 2 * 8 + a / 2 % 2 * 4 + b / 4 * 2 + a / 4

/-- Stage 6: the n-bit code. -/
def ditherStage (s : State) (x y : Nat) (frm : Word) (d : Nat) : Nat :=
  let th (m : Nat) : Nat := (m * 65535 + 32) / 64
  let theta := match s.fld F.FFN_CTRL_DITHER with
    | 0 => 32767
    | 1 => th (ditherM x y)
    | _ => th (ditherM (x + 3 * frm.toNat) (y + 5 * frm.toNat))
  (d * (2 ^ s.ffn.n - 1) + theta) / 65535

/-- Stages 1 to 7 for one pixel of intensity `i`. -/
def pixelCode (s : State) (z : Zone) (frm : Word) (x y i : Nat) : Nat :=
  if bypassed s x y || tileFailed s (tileOfPix x y) then 0
  else ditherStage s x y frm (fillStage s x y (uniformityStage s x y (scaleStage s z (curveStage s (rasterise s x y i)))))

/-- The tile's 4,096 codes, rows in ascending y, pixels in ascending x. -/
def tileCodes (s : State) (h : Handoff) : List Half :=
  let z : Zone := Fin.ofNat 16 (zoneOfTile h.tile)
  let x0 := h.tile % 32 * 64
  let y0 := h.tile / 32 * 64
  (List.range 64).flatMap fun r =>
    let row := Sparse.get (Sparse.all zeroLanes) h.rows r
    (List.finRange 64).map fun l => BitVec.ofNat 16 (pixelCode s z h.frm (x0 + l.val) (y0 + r) (row[l]).toNat)

/-! ### Pack (R231, R232) -/

/-- Non-zero codes of each group of eight: the lit pixels of each string. -/
def litCounts (n : Nat) (codes : List Half) : List Nat :=
  (List.range n).map fun q => (((codes.drop (8 * q)).take 8).filter (· ≠ 0)).length

/-- Little-endian bytes of the codes. -/
def codeBytes (codes : List Half) : List Byte := codes.flatMap fun d => toLe 2 d.toNat

/-- The zone after one more tile: running CRC and largest lit count; the 32nd closes the CRC with FRM. -/
def packTile (k : ZonePack) (codes : List Half) (frm : Word) : ZonePack :=
  let crc := crcRun polyCrc32c k.crc (codeBytes codes)
  let np := max k.npeak ((litCounts 512 codes).foldl max 0)
  { tiles := k.tiles + 1, crc := crc, npeak := np
    zcrc := if k.tiles + 1 = 32 then some (~~~ crcRun polyCrc32c crc (toLe 4 frm.toNat)) else k.zcrc }

/-- n_peak of zone `z` is known: FFN_NPEAK, the request of R97, the cap of R99, the upward move of R100. -/
def peakKnown (z : Zone) (np : Nat) (s : State) : State :=
  let s := s.setFld ⟨0xB0010 + 4 * (z.val / 8), 4 * (z.val % 8), 4⟩ np
  let req := vReq s z np
  let vmax := s.fld (F.RAIL_ZCFG_VMAX z)
  let s := s.updRail z fun r => { r with npeak := np, reqNext := some req }
  let s := if vN s z np > vmax then
      let n := (20 * vmax - 450) / s.fld (F.RAIL_ZVF_VFMAX z)
      { s.inc (F.RAIL_ZSTAT_CAP_CNT z) with seq := { s.seq with nallow := s.seq.nallow.set z (min 8 n) } }
    else s
  if !tracks s z then s
  else if isCrossed s z || feedsPair s z then raiseTarget (feeder s z) (pairReq req 300) s
  else raiseTarget z req s

/-- The transmitter of the zone's lane on side `e` takes a packed tile (R286). -/
def queueTile (e : Side) (z : Zone) (j : Nat) (codes : List Half) (s : State) : State :=
  s.updEng e fun g => { g with tx := g.tx.set z { g.tx[z] with wait := (g.tx[z]).wait ++ [(j, codes)] } }

/-- A packed tile enters its zone; the active copy ships it unless the zone is shipped dark (R289). A standby that
packs a zone after the active copy's ZCRC record is compared now (R307). DEDUCED: log 106. -/
def packed (e : Side) (h : Handoff) (codes : List Half) (s : State) : State :=
  let z : Zone := Fin.ofNat 16 (zoneOfTile h.tile)
  let act := (s.eng e).role == .active
  let k := packTile ((s.eng e).pack[z]) codes h.frm
  let s := s.updEng e fun g => { g with pack := g.pack.set z k }
  let s := if act && !s.seq.darkmask.getLsbD z.val then queueTile e z (tileInZone h.tile) codes s else s
  match act, decide (k.tiles = 32), k.zcrc with
  | true, true, some c => peakKnown z k.npeak (s.setFld (F.FFN_ZCRC_ZCRC z) c.toNat)
  | false, true, _ => if (s.diag.zcrcNext[z]).isSome then compareZone z s else s
  | _, _, _ => s

/-- The reads of the tile's gains meet SEC-DED findings and poisoned words (R124, R228). DEDUCED: log 116. -/
def readGains (e : Side) (t : Nat) (ecc : List EccHit) (s : State) : State :=
  let inTile (o : Nat) : Bool := 0x1600000 ≤ o && o < 0x1800000 && tileOfPix ((o - 0x1600000) % 2048) ((o - 0x1600000) / 2048) = t
  let s := s.forEach (ecc.filter fun h => inTile (h.off / 8 * 8)) eccHit
  let hit := (s.br.poison.filter fun c => inTile (8 * c.1)).map (·.1)
  if hit.isEmpty then s
  else
    let s := s.forEach hit touchPoison
    if (s.eng e).role == .active then
      ({ s with ffn := { s.ffn with uniHit := true } } : State).setBit F.FFN_STAT_UNI_SUB true
    else s

/-! ### Taking a buffer (R148, R149, R286) -/

/-- Can the stages of side `e` take a full buffer of cluster `c`: one waits, and neither lane that the cluster feeds
holds two packed tiles (R286)? -/
def canTake (s : State) (e : Side) (c : Cluster) : Bool :=
  let room (z : Zone) : Bool := decide (((s.eng e).tx[z]).wait.length < 2)
  !(s.cluster e c).full.isEmpty && room (Fin.ofNat 16 c.val) && room (Fin.ofNat 16 (c.val + 8))

/-- The cluster whose buffer is taken next, in cyclic order (R149). DEDUCED: log 116. -/
def nextCluster (s : State) (e : Side) : Option Cluster :=
  ((List.range 8).map fun i => (Fin.ofNat 8 ((s.eng e).ffNext + i) : Cluster)).find? (canTake s e)

/-- FIXED_FUNCTION_TILE (R25): take a full buffer, finish its tile, free the buffer for a cluster that waits.
DEDUCED: log 116. -/
def execFixedFunctionTile (e : Side) (ecc : List EccHit) (s : State) : Out :=
  match if (s.eng e).gated then none else nextCluster s e with
  | none => finish s
  | some c =>
    match (s.cluster e c).full with
    | [] => finish s
    | h :: hs =>
      let s := readGains e h.tile ecc s
      let s := packed e h (tileCodes s h) s
      let s := s.updEng e fun g => { g with ffNext := (c.val + 1) % 8 }
      let s := s.updCl e c fun k => { k with full := hs }
      finish (if (s.cluster e c).run == .waitBuf then nextTile e c s else s)

end Sys2Proof.Machine
end

