-- ==== Sys2Proof/Machine/StackOps.lean ====
section
/-! DEFINITION. What the emitter stack does by itself: return records (R291), fault classes, failed strings and tile
states with their FAULT records (R33, R354), light parts of a tile (R332). -/

namespace Sys2Proof.Machine

/-! ### Return records -/

def rtnLanes : List RtnLane := [.rtn0, .rtn1]

def rtnIx : RtnLane → Fin 2
  | .rtn0 => 0 | .rtn1 => 1

/-- Bytes of a record that its CRC covers. -/
def recordBytes (r : Record) : List Byte :=
  [r.kind, r.zone] ++ toLe 2 r.frm.toNat ++ toLe 2 r.arg.toNat ++ toLe 2 r.data.length ++ r.data

/-- Does the record pass its CRC? -/
def recordOk (r : Record) : Bool := r.crc = crc32c (recordBytes r)

/-- A record as the stack forms it. -/
def mkRecord (kind zone frm arg : Nat) (data : List Byte) : Record :=
  let r : Record := { kind := BitVec.ofNat 8 kind, zone := BitVec.ofNat 8 zone, frm := BitVec.ofNat 16 frm
                      arg := BitVec.ofNat 16 arg, data := data, crc := 0 }
  { r with crc := crc32c (recordBytes r) }

/-- Place of a record kind in the order of R291. -/
def recordRank (kind : Byte) : Nat := [1, 2, 4, 5, 3, 7, 6].idxOf kind.toNat

/-- Insert a record behind those of its kind and of the kinds before it (R291). -/
def insertWaiting (r : Record) : List Record → List Record
  | [] => [r]
  | q :: qs => if recordRank r.kind < recordRank q.kind then r :: q :: qs else q :: insertWaiting r qs

/-- A record joins a lane's queue: the head is in progress and is never interrupted, the others wait in order (R291). -/
def insertRecord (r : Record) : List Record → List Record
  | [] => [r]
  | h :: qs => h :: insertWaiting r qs

/-- Send a record on both return lanes (R291). DEDUCED: log 102. -/
def sendRecord (kind zone frm arg : Nat) (data : List Byte) (s : State) : State :=
  let r := mkRecord kind zone frm arg data
  { s with stk := { s.stk with rtn := s.stk.rtn.map (insertRecord r) } }

/-- The record in progress has left the lane. -/
def recordLeaves (l : RtnLane) (s : State) : State :=
  { s with stk := { s.stk with rtn := s.stk.rtn.set (rtnIx l) ((s.stk.rtn[rtnIx l]).drop 1) } }

/-- Is a record of this kind what lane `l` sends now: the kind of the record in progress (R291)? DESIGN CHOICE: log 168. -/
def inTurn (l : RtnLane) (kind : Byte) (s : State) : Bool :=
  match s.stk.rtn[rtnIx l] with
  | [] => true
  | h :: _ => h.kind == kind

/-! ### Fault classes (R354) -/

/-- Send a FAULT record: `arg` 0 pixel, 1 string, 2 tile; `cls` the class of R31, or the tile's state.
DEDUCED: log 102, 110. DESIGN CHOICE: log 109. -/
def sendFault (arg n k cls cause : Nat) (ist : Bool) (s : State) : State :=
  let z := if arg = 2 then zoneOfTile n else zoneOfStr n
  let s := { s with stk := { s.stk with notes := s.stk.notes ++ [{ kind := arg, s := n, k := k, cause := cause, ist := ist }] } }
  sendRecord 5 z s.stk.frontFrm.toNat arg (toLe 4 n ++ toLe 1 (k + 16 * cls) ++ [0, 0, 0]) s

def bypassOf (s : State) (q : Nat) : Byte := Sparse.get (Sparse.all 0) s.stk.bypass q

def isBypassed (s : State) (q k : Nat) : Bool := (bypassOf s q).getLsbD k

def setBypass (q : Nat) (b : Byte) (s : State) : State :=
  { s with stk := { s.stk with bypass := Sparse.put (Sparse.all 0) s.stk.bypass q b } }

def tileStateOf (s : State) (t : Nat) : Nat := Sparse.get (Sparse.all 0) s.stk.tileState t

/-- A tile changes state: it is stored and reported (R33, R356). DEDUCED: log 110. -/
def setTileState (t st : Nat) (s : State) : State :=
  if tileStateOf s t = st then s
  else sendFault 2 t 0 st 0 false
    { s with stk := { s.stk with tileState := Sparse.put (Sparse.all 0) s.stk.tileState t st } }

/-- The state of tile `t` after its count of failed strings has changed: 8 degrade it, 64 fail it; a tile failed by
its ADC stays so (R33, R356). -/
def judgeTile (t : Nat) (s : State) : State :=
  let n := (s.stk.failedStr.filter fun q => tileOfStr q = t).length
  if tileStateOf s t ≥ 2 then s
  else if n ≥ 64 then setTileState t 2 s
  else if n ≥ 8 then setTileState t 1 s
  else s

/-- A pixel takes class `cls` (1 open, 2 short): bypass bit set, shunt closed, FAULT record. -/
def failPixel (q k cls : Nat) (ist : Bool) (s : State) : State :=
  if isBypassed s q k then s
  else sendFault 0 q k cls 0 ist (setBypass q (bypassOf s q ||| BitVec.ofNat 8 (2 ^ k)) s)

/-- A string fails with a cause of R354: class 0b11 for all eight pixels. -/
def failString (q cause : Nat) (ist : Bool) (s : State) : State :=
  if s.stk.failedStr.contains q then s
  else
    let s := { s with stk := { s.stk with failedStr := s.stk.failedStr ++ [q] } }
    judgeTile (tileOfStr q) (sendFault 1 q 0 3 cause ist (setBypass q 0xFF s))

/-- A tile is failed by its ADC. -/
def failTileAdc (t : Nat) (s : State) : State := setTileState t 3 s

/-! ### Codes in force -/

/-- Code of position `k` of string `q` in the front buffer, as stored. -/
def frontCode (s : State) (q k : Nat) : Nat :=
  ((Sparse.get (Sparse.all []) s.stk.front (tileOfStr q)).getD (8 * strInTile q + k) 0).toNat

/-- Replace codes of N or more by N − 1 (R77): the codes and how many were replaced. DEDUCED: log 105. -/
def saturateCodes (n : Nat) (codes : List Half) : List Half × Nat :=
  let big (d : Half) : Bool := decide (2 ^ n ≤ d.toNat)
  (codes.map fun d => if big d then BitVec.ofNat 16 (2 ^ n - 1) else d, (codes.filter big).length)

/-! ### Light counts (R332) -/

/-- Does pixel (x, y) lie in glare window `w`? -/
def inWindow (s : State) (w x y : Nat) : Bool :=
  s.fld (F.SAFE_GWX_X0 w) ≤ x && x ≤ s.fld (F.SAFE_GWX_X1 w) && s.fld (F.SAFE_GWY_Y0 w) ≤ y && y ≤ s.fld (F.SAFE_GWY_Y1 w)

/-- What one stored tile adds to its zone's record: the sum of codes and the largest code in each window, over the
pixels whose bypass bit is clear as it is stored. -/
def lightPart (s : State) (t n : Nat) (codes : List Half) : List Nat :=
  let add (acc : List Nat) (c : Half × Nat) : List Nat :=
    let q := strOfTile t (c.2 / 8)
    let k := c.2 % 8
    if isBypassed s q k then acc
    else
      let d := c.1.toNat * 2 ^ (16 - n)
      let mx (w : Nat) : Nat := if inWindow s w (pixX q k) (pixY q) then max (acc.getD (w + 1) 0) d else acc.getD (w + 1) 0
      [acc.getD 0 0 + d, mx 0, mx 1, mx 2, mx 3]
  codes.zipIdx.foldl add [0, 0, 0, 0, 0]

/-- Data of a LIGHT record from the parts of a zone's tiles. -/
def lightData (icode : Byte) (parts : List (List Nat)) : List Byte :=
  let zsum := (parts.map (·.getD 0 0)).sum / 256
  let mx (w : Nat) : Nat := (parts.map (·.getD (w + 1) 0)).foldl max 0
  toLe 4 zsum ++ [icode, 0, 0, 0] ++ toLe 2 (mx 0) ++ toLe 2 (mx 1) ++ toLe 2 (mx 2) ++ toLe 2 (mx 3)

end Sys2Proof.Machine
end

