-- ==== Sys2Proof/Machine/TileLink.lean ====
section
/-! DEFINITION. The tile links (R283 to R294): packets and orders as the stack takes them, and the return records as
the controller die takes them. -/

namespace Sys2Proof.Machine

/-! ### Lanes -/

/-- Side the stack takes codes and orders from. -/
def selSide (s : State) : Side := if s.tl.selB then .b else .a

/-- In LOWLIGHT the lanes of a zone that is not permitted stay in electrical idle (R290). -/
def laneIdle (s : State) (z : Zone) : Bool := s.mode == .lowlight && !maskBit (s.fld F.SAFE_CFG_LL_ZMASK) z

/-- Bits [6:0] of event 47 for a lane (R293). -/
def laneCode : TlLane → Nat
  | .fwd e z => z.val + 16 * sideIx e
  | .rtn l => 64 + (rtnIx l).val

def rtnFail : RtnLane → Fld
  | .rtn0 => F.TLNK_RTN_RTN0_FAIL
  | .rtn1 => F.TLNK_RTN_RTN1_FAIL

def rtnLock : RtnLane → Fld
  | .rtn0 => F.TLNK_RTN_RTN0_LOCK
  | .rtn1 => F.TLNK_RTN_RTN1_LOCK

def rtnCrcErr : RtnLane → Fld
  | .rtn0 => F.TLNK_RTN_RTN0_CRCERR
  | .rtn1 => F.TLNK_RTN_RTN1_CRCERR

/-- Return lane that judges completion (R26, R292). DEDUCED: log 103. -/
def judgeLane (s : State) : RtnLane :=
  let l : RtnLane := if selSide s = .a then .rtn0 else .rtn1
  let o : RtnLane := if selSide s = .a then .rtn1 else .rtn0
  if s.bit (rtnFail l) then o else l

def updTx (e : Side) (z : Zone) (f : TxLane → TxLane) (s : State) : State :=
  s.updEng e fun g => { g with tx := g.tx.set z (f g.tx[z]) }

/-- A forward lane fails (R293): event 47 with cause 0x2 and a controlled swap while its side is active, cause 0x3
while it is not; a standby's failure takes BEAM to SIMPLEX until the standby is resynchronised, from the next tick on
(R320). DEDUCED: log 108, 131. -/
def failLane (e : Side) (z : Zone) (s : State) : State :=
  let f := F.TLNK_LANE_STATE (sideIx e) z
  if s.fld f = 3 then s
  else
    let s := updTx e z (fun t => { t with clean := 0 }) (s.setFld f 3)
    let act := (s.eng e).role == .active
    let s := raiseAll 47 (laneCode (.fwd e z) + (if act then 2 else 3) * 256) s
    if act then requestSwap s
    else if (s.eng e).role == .standby then { s with dplx := { s.dplx with mmResync := true } } else s

/-- A return lane fails (R293). -/
def failReturn (l : RtnLane) (s : State) : State :=
  if s.bit (rtnFail l) then s
  else
    let s := s.setBit (rtnFail l) true
    let s := { s with tl := { s.tl with rtnClean := s.tl.rtnClean.set (rtnIx l) 0 } }
    raiseAll 47 (laneCode (.rtn l) + 4 * 256) s

/-- TILE_LINK_LOCK_LOSS (R293). -/
def execTileLinkLockLoss (l : TlLane) (s : State) : Out :=
  match l with
  | .fwd e z =>
    finish (if (s.eng e).powered && s.stk.powered && !laneIdle s z then updTx e z (fun t => { t with clean := 0 }) (failLane e z s) else s)
  | .rtn r => finish (if s.stk.powered then failReturn r (s.setBit (rtnLock r) false) else s)

/-- TILE_LANE_RECOVERY (R294): after 256 clean windows, or 256 clean frames of a return lane.
DEDUCED: log 107, 108. -/
def execTileLaneRecovery (l : TlLane) (s : State) : Out :=
  match l with
  | .fwd e z =>
    if s.fld (F.TLNK_LANE_STATE (sideIx e) z) = 3 && decide (256 ≤ ((s.eng e).tx[z]).clean) then
      finish (updTx e z (fun t => { t with clean := 0 }) (s.setFld (F.TLNK_LANE_STATE (sideIx e) z) 1))
    else finish s
  | .rtn r =>
    if s.bit (rtnFail r) && decide (256 ≤ s.tl.rtnClean[rtnIx r]) then
      finish ((s.setBit (rtnFail r) false).setBit (rtnLock r) true)
    else finish s

/-! ### Forward packets at the stack (R284 to R286) -/

/-- Answer a tile with NAK. -/
def sendNak (z : Zone) (tz cause : Nat) (frm : Word) (s : State) : State :=
  sendRecord 2 z.val frm.toNat tz (toLe 4 cause) s

def tileBytes (k : TilePkt) : List Byte :=
  [k.kind, k.tz] ++ toLe 4 k.frm.toNat ++ [k.icode, k.rsv] ++ codeBytes k.codes

/-- The cause a TILE packet fails with in zone back buffer `b`, if it fails (R284, R285, R291). DEDUCED: log 99. -/
def tileFault (b : ZoneBack) (k : TilePkt) : Option Nat :=
  if !k.framed || k.codes.length ≠ 4096 then some 4
  else if k.crc ≠ crc32c (tileBytes k) then some 1
  else if k.kind ≠ 1 || k.tz.toNat ≥ 32 || k.rsv ≠ 0 then some 4
  else match b.frm with
    | none => none
    | some f => if k.frm ≠ f then some 2 else if k.icode ≠ b.icode then some 3 else none

def setBack (z : Zone) (b : ZoneBack) (s : State) : State :=
  { s with stk := { s.stk with back := s.stk.back.set z b } }

/-- CRC of R232 over a zone's back buffer. -/
def backCrc (b : ZoneBack) : Word :=
  let bs := (List.range 32).flatMap fun j => codeBytes (Sparse.get (Sparse.all []) b.tiles j)
  crc32c (bs ++ toLe 4 ((b.frm.getD 0).toNat))

/-- After the 32nd ACK and the ZEND, the ZCRC record (R291). DEDUCED: log 99. -/
def sendZcrc (z : Zone) (s : State) : State :=
  let b := s.stk.back[z]
  match b.zend, b.frm with
  | some (f, c), some g =>
    if b.tiles.length = 32 && !b.zcrcSent then
      let x := backCrc b
      let hit := decide (f = g) && decide (c = x)
      sendRecord 3 z.val g.toNat hit.toNat (toLe 4 x.toNat) (setBack z { b with zcrcSent := true } s)
    else s
  | _, _ => s

/-- Store a TILE packet, acknowledge it, and after the 32nd tile send the LIGHT record (R83, R285, R332).
DEDUCED: log 105. -/
def storeTile (z : Zone) (k : TilePkt) (s : State) : State :=
  let b := s.stk.back[z]
  let j := k.tz.toNat
  let (codes, sat) := saturateCodes s.ffn.n k.codes
  let s := s.addFld F.STK_CODESAT_SAT_CNT sat
  let part := lightPart s (tileOfZone z.val j) s.ffn.n codes
  let c := { b with frm := some k.frm, icode := k.icode, tiles := Sparse.put (Sparse.all []) b.tiles j codes
                    light := Sparse.put (Sparse.all []) b.light j part }
  let s := sendRecord 1 z.val k.frm.toNat j [] (setBack z c s)
  let s := if b.tiles.length = 31 ∧ c.tiles.length = 32 then
      sendRecord 4 z.val k.frm.toNat 0 (lightData k.icode (c.light.map (·.2))) s
    else s
  sendZcrc z s

/-- Does the stack take blocks of side `e`? -/
def takesFrom (s : State) (e : Side) : Bool := s.stk.powered && selSide s == e

/-- A FAILED lane carries no TILE, ZEND or ZCMD packet (R294), an idle one nothing (R290). -/
def laneCarries (s : State) (e : Side) (z : Zone) : Bool := s.fld (F.TLNK_LANE_STATE (sideIx e) z) ≠ 3 && !laneIdle s z

/-- TILE (R285): the lane's transmitter has sent its oldest packed tile; the stack of the selected side stores the
packet or answers NAK. A FAILED lane sends none (R294). DEDUCED: log 99. -/
def execTilePkt (e : Side) (z : Zone) (k : TilePkt) (s : State) : Out :=
  if !laneCarries s e z then finish s else
  let s := updTx e z (fun t => { t with wait := t.wait.drop 1, sent := t.sent ++ t.wait.take 1 }) s
  if takesFrom s e then
    match tileFault s.stk.back[z] k with
    | some c => finish (sendNak z k.tz.toNat c k.frm s)
    | none => finish (storeTile z k s)
  else finish s

def zendBytes (k : ZendPkt) : List Byte :=
  [k.kind, BitVec.ofNat 8 k.rsv.toNat] ++ toLe 4 k.frm.toNat ++ toLe 2 (k.rsv.toNat / 256) ++ toLe 4 k.zcrc.toNat

/-- ZEND (R286, R291): the zone's CRC of the active copy; one that fails R284 is discarded. DEDUCED: log 99. -/
def execZendPkt (e : Side) (z : Zone) (k : ZendPkt) (s : State) : Out :=
  if takesFrom s e && laneCarries s e z && k.framed && k.kind = 3 && k.rsv = 0 && k.crc = crc32c (zendBytes k) then
    let b := s.stk.back[z]
    finish (sendZcrc z (setBack z { b with zend := some (k.frm, k.zcrc) } s))
  else finish s

/-! ### Orders (R283, R289) -/

def orderBytes (k : OrderBlock) : List Byte :=
  [k.b1] ++ toLe 2 k.darkmask.toNat ++ toLe 2 k.frm.toNat ++ [k.rsv]

def orderIsSwap (k : OrderBlock) : Bool := k.b1.toNat % 4 = 1

/-- Is the block an order: its CRC-8 passes and ORDER is SWAP or REPEAT? DEDUCED: log 100. -/
def orderValid (k : OrderBlock) : Bool :=
  k.crc8 = crc8 (orderBytes k) && (k.b1.toNat % 4 = 1 || k.b1.toNat % 4 = 2)

/-- Records of zeros for the zones of DARKMASK (R332). -/
def darkRecords (k : OrderBlock) (s : State) : State :=
  s.forEach (allZones.filter fun z => k.darkmask.getLsbD z.val) fun z s =>
    sendRecord 4 z.val k.frm.toNat 0 (List.replicate 16 0) s

/-- The stack's ticks follow the sequencer's again (R85). -/
def onSequencer (s : State) : State :=
  { s with stk := { s.stk with localTick := false } }.setBit F.STK_STAT_HOLDLAST false

/-- ORDER (R289): a lane's first valid block of the window is its order; the first order of the window restarts the
stack's ticks on the sequencer's (R85), unless the slot clock is absent (R87), and, as SWAP, sends the dark zones'
records. A newly selected side's orders are taken from the first guard window after the change (R295).
DEDUCED: log 100. -/
def execOrderBlk (e : Side) (z : Zone) (k : OrderBlock) (s : State) : Out :=
  if takesFrom s e && !laneIdle s z && !s.tl.newSel && orderValid k && (s.stk.orders[z]).isNone then
    let first := s.stk.orders.toList.all (·.isNone)
    let s := { s with stk := { s.stk with orders := s.stk.orders.set z (some k) } }
    let s := if first && orderIsSwap k then darkRecords k s else s
    finish (if s.stk.sclkLost then s else onSequencer s)
  else finish s

/-! ### Zone commands (R287, R369) -/

def zcmdBytes (k : ZcmdPkt) : List Byte :=
  [k.kind, k.cmd] ++ toLe 2 k.start.toNat ++ toLe 2 k.count.toNat ++ toLe 2 k.rsv.toNat ++ k.data

/-- Does the packet pass R284? DEDUCED: log 101. -/
def zcmdOk (k : ZcmdPkt) : Bool := k.framed && k.kind = 2 && k.rsv = 0 && k.crc = crc32c (zcmdBytes k)

/-- String `i` of zone `z`, in the index of R287. -/
def strOfZone (z : Zone) (i : Nat) : Nat := (z.val / 4 * 256 + i / 64) * 256 + z.val % 4 * 64 + i % 64

/-- Mode in which a command of R287 is accepted: ADC also with the request of the in-service test, code 3, in every
mode that runs the test. DEDUCED: log 101. -/
def zcmdMode (s : State) (cmd code : Nat) : Bool :=
  match cmd with
  | 1 => s.mode == .calibrate || s.mode == .dark || s.mode == .service
  | 2 => s.mode == .calibrate
  | _ => s.mode == .calibrate || s.mode == .service || (code = 3 && s.mode.ticks)

/-- Are START and COUNT of command `cmd` inside R287, and is the data as long as it says? DEDUCED: log 101. -/
def zcmdRange (k : ZcmdPkt) : Bool :=
  let n := k.count.toNat
  if k.cmd = 3 then k.start.toNat < 32 && k.data.isEmpty
  else 1 ≤ n && n ≤ 8176 && k.start.toNat + n ≤ 16384 && k.data.length = (n + 3) / 4 * 4

/-- A ZCMD at the stack: a packet that fails is discarded, a command that is not `cmd` or not accepted is discarded
and counted. DEDUCED: log 101. -/
def zcmd (e : Side) (z : Zone) (k : ZcmdPkt) (cmd code : Nat) (f : State → State) (s : State) : Out :=
  if !(takesFrom s e && laneCarries s e z && zcmdOk k) then finish s
  else if k.cmd.toNat ≠ cmd || (cmd = 3 && k.count.toNat ≠ code) || !zcmdMode s cmd code || !zcmdRange k then
    finish (s.inc F.TLNK_STAT_ZCMD_REJ)
  else if cmd = 3 then
    finish (f { s with cal := { s.cal with asked := s.cal.asked ++ [(z, k.start.toNat, code)] } })
  else finish (f s)

/-- Store one trim; the current source takes it at the next tick, or at once while the sequencer is stopped (R76). -/
def storeTrim (q : Nat) (b : Byte) (s : State) : State :=
  let m := Sparse.put (Sparse.all 0) s.stk.trim q (b &&& 0x3F)
  if s.seq.running then { s with stk := { s.stk with trim := m } }
  else { s with stk := { s.stk with trim := m, trimEff := Sparse.put (Sparse.all 0) s.stk.trimEff q (b &&& 0x3F) } }

/-- TRIM. -/
def execTrimCmd (e : Side) (z : Zone) (k : ZcmdPkt) (s : State) : Out :=
  zcmd e z k 1 0 (fun s => s.forEach (List.range k.count.toNat) fun i s =>
    storeTrim (strOfZone z (k.start.toNat + i)) (byteAt k.data i) s) s

/-- BYPASS: bits are set; none is cleared (R91). DEDUCED: log 101. -/
def execBypassCmd (e : Side) (z : Zone) (k : ZcmdPkt) (s : State) : Out :=
  zcmd e z k 2 0 (fun s => s.forEach (List.range k.count.toNat) fun i s =>
    let q := strOfZone z (k.start.toNat + i)
    setBypass q (bypassOf s q ||| byteAt k.data i) s) s

/-- Answer an ADC request. DEDUCED: log 102. -/
def sendAdc (z : Zone) (code : Nat) (data : List Byte) (s : State) : State :=
  sendRecord 6 z.val s.stk.frontFrm.toNat code data s

/-- REF: a deviation beyond ±2 % in a full calibration fails the tile (R371 step 1). -/
def execRefReq (e : Side) (z : Zone) (k : ZcmdPkt) (m : RefReading) (s : State) : Out :=
  zcmd e z k 3 1 (fun s =>
    let s := if s.mode == .calibrate && decide (200 < m.dev.natAbs) then failTileAdc (tileOfZone z.val k.start.toNat) s else s
    sendAdc z 1 (toLe 2 (m.dev.emod 65536).toNat ++ [0, 0]) s) s

/-- ISTLAST: the tile's latest in-service test; before the first one no field has a value, and R17 sends zeros.
DEDUCED: log 169. -/
def execIstlast (e : Side) (z : Zone) (k : ZcmdPkt) (s : State) : Out :=
  zcmd e z k 3 3 (fun s =>
    let t := tileOfZone z.val k.start.toNat
    match s.stk.ist.find? fun r => r.2.2.tile.val = t with
    | some (q, p, r) => sendAdc z 3 (toLe 2 r.mv ++ toLe 2 r.na ++ toLe 2 q ++ [BitVec.ofNat 8 (p % 8), 0]) s
    | none => sendAdc z 3 (List.replicate 8 0) s) s

/-! ### Return records at the controller die (R291) -/

/-- A record that fails its CRC (R293): counted; four in one frame fail the lane. DEDUCED: log 107. -/
def recordError (l : RtnLane) (s : State) : State :=
  let n := s.tl.rtnErrs[rtnIx l] + 1
  let s := { s.inc (rtnCrcErr l) with tl := { s.tl with rtnErrs := s.tl.rtnErrs.set (rtnIx l) n } }
  if n = 4 then failReturn l s else s

/-- RETURN_RECORD_CRC_ERROR: the record in progress arrives spoilt. -/
def execReturnRecordCrcError (lane : RtnLane) (s : State) : Out := finish (recordError lane (recordLeaves lane s))

/-- The record in progress arrives: it leaves its lane. One that fails its CRC is an error, one of another kind than the
row's, or on a lane other than the judging one where `judged` asks for it, is dropped; a record out of the order of R291
does not arrive. DEDUCED: log 103. DESIGN CHOICE: log 168. -/
def received (l : RtnLane) (r : Record) (kind : Byte) (judged : Bool) (f : State → State) (s : State) : Out :=
  if !recordOk r then finish (recordError l (recordLeaves l s))
  else if !inTurn l r.kind s then finish s
  else
    let s := recordLeaves l s
    if r.kind ≠ kind || (judged && judgeLane s ≠ l) then finish s else finish (f s)

def zoneOfRec (r : Record) : Zone := Fin.ofNat 16 r.zone.toNat

/-- Is the record of the frame in composition? -/
def isComposed (s : State) (r : Record) : Bool := s.ffn.composing && r.frm = s.ffn.frm.setWidth 16

/-- ACK (R26): the tile counts towards its zone's completion on this lane. DEDUCED: log 103. -/
def execAck (lane : RtnLane) (r : Record) (s : State) : Out :=
  received lane r 1 false (fun s =>
    if isComposed s r then
      let l := rtnIx lane
      let z := zoneOfRec r
      let row := (s.tl.acked[l]).set z ((s.tl.acked[l])[z] ||| BitVec.ofNat 32 (2 ^ (r.arg.toNat % 32)))
      let s := { s with tl := { s.tl with acked := s.tl.acked.set l row } }
      updTx (selSide s) z (fun t => { t with sent := t.sent.filter fun c => c.1 ≠ r.arg.toNat }) s
    else s) s

/-- NAK (R286): the tile is sent again ahead of the next; a second NAK of one tile fails the lane.
DEDUCED: log 103. -/
def execNak (lane : RtnLane) (r : Record) (s : State) : Out :=
  received lane r 2 true (fun s =>
    let e := selSide s
    let z := zoneOfRec r
    let j := r.arg.toNat
    let s := s.inc F.TLNK_STAT_NAK_CNT
    let t := (s.eng e).tx[z]
    if t.naked.getLsbD j then failLane e z s
    else updTx e z (fun t => { t with naked := t.naked ||| BitVec.ofNat 32 (2 ^ j)
                                      wait := t.sent.filter (·.1 = j) ++ t.wait
                                      sent := t.sent.filter (·.1 ≠ j) }) s) s

/-- The counts of a LIGHT record. -/
def lightOf (r : Record) : Light :=
  { frm := r.frm, zsum := leAt r.data 0 4, icode := leAt r.data 4 1
    wmax := (List.range 4).map fun w => leAt r.data (8 + 2 * w) 2 }

/-- DEDUCED: log 104. -/
def isZeroLight (l : Light) : Bool := l.zsum = 0 && l.icode = 0 && l.wmax.all (· == 0)

/-- Is record `l` held in place of what is held? DEDUCED: log 104. -/
def replaces : List Light → Light → Bool
  | [], _ => true
  | h :: _, l => if h.frm = l.frm then isZeroLight l else decide (0 < (BitVec.ofNat 16 (l.frm.toNat + 65536 - h.frm.toNat)).toInt)

/-- LIGHT (R333): Breakwater holds the record of the latest FRM, its first good copy; a record of zeros replaces an
earlier record of its FRM. DEDUCED: log 103, 104. -/
def execLightRec (lane : RtnLane) (r : Record) (s : State) : Out :=
  received lane r 4 false (fun s =>
    let z := zoneOfRec r
    let l := lightOf r
    if replaces (s.safe.held[z]) l then { s with safe := { s.safe with held := s.safe.held.set z [l] } } else s) s

/-- ZCRC (R307): MATCH for this lane; the zone's CRC for the freeze detector; the comparison with the standby.
DEDUCED: log 103, 106. -/
def execZcrc (lane : RtnLane) (r : Record) (s : State) : Out :=
  received lane r 3 false (fun s =>
    if isComposed s r then
      let l := rtnIx lane
      let z := zoneOfRec r
      let s := { s with tl := { s.tl with mtch := s.tl.mtch.set l ((s.tl.mtch[l]).set z (r.arg.getLsbD 0)) } }
      if (s.diag.zcrcNext[z]).isSome then s
      else compareZone z { s with diag := { s.diag with zcrcNext := s.diag.zcrcNext.set z (some (BitVec.ofNat 32 (leAt r.data 0 4))) } }
    else s) s

/-! ### Health (R293, R294) -/

/-- One window of a forward lane with `errs` bit errors. -/
def windowOf (e : Side) (z : Zone) (errs : Nat) (s : State) : State :=
  let x := sideIx e
  let t := (s.eng e).tx[z]
  let w := (decide (0 < errs) :: t.window).take 256
  let n := (w.filter id).length
  let failed := s.fld (F.TLNK_LANE_STATE x z) = 3
  let s := updTx e z (fun t => { t with window := w, clean := if failed && errs = 0 && !t.unlocked then t.clean + 1 else 0 }) s
  let s := (s.setFld (F.TLNK_LANE_ERR_LAST x z) errs).setFld (F.TLNK_LANE_EW_CNT x z) (min n 255)
  let s := if n = 0 then s.setBit (F.TLNK_LANE_DEGR x z) false
    else if s.fld F.TLNK_CTRL_EW_THR ≤ n && !s.bit (F.TLNK_LANE_DEGR x z) then
      raiseAll 47 (laneCode (.fwd e z) + 256) (s.setBit (F.TLNK_LANE_DEGR x z) true)
    else s
  if s.fld F.TLNK_CTRL_FAIL_ERR ≤ errs then failLane e z s else s

/-- LSTAT (R293): the window of each powered side's lane of the zone; an idle lane has none (R290). DEDUCED: log 103. -/
def execLstat (lane : RtnLane) (r : Record) (s : State) : Out :=
  received lane r 7 true (fun s =>
    let z := zoneOfRec r
    if laneIdle s z then s else
    let s := if s.engA.powered then windowOf .a z (leAt r.data 0 2) s else s
    if s.engB.powered then windowOf .b z (leAt r.data 2 2) s else s) s

/-! ### Stack timers (R85 to R87) -/

/-- Has any lane of the selected side delivered an order in this window? -/
def anyOrder (s : State) : Bool := s.stk.orders.toList.any (·.isSome)

/-- The stack's local oscillator times `u` to within ±0.5 % (R87). DESIGN CHOICE: log 150. -/
def localUnits (u : Nat) (s : State) : Nat × State :=
  let (w, s) := s.draw
  (u * (199000 + w.toNat % 2001) / 200000, s)

/-- A tick the stack handles by itself: the front buffer is kept, the back buffer emptied (R85, R285). LOCAL_HOLD counts
from 0 in each run of such ticks. -/
def localRepeat (s : State) : State :=
  let s := if s.stk.localTick then s else s.setFld F.STK_REPEAT_LOCAL_HOLD 0
  let s := (s.inc F.STK_REPEAT_REPEAT_TOTAL).inc F.STK_REPEAT_LOCAL_HOLD
  { s with stk := { s.stk with back := .replicate 16 {}, localTick := true } }.setBit F.STK_STAT_HOLDLAST true

/-- HOLD_LAST (R85): no order by the end of the guard window. -/
def execHoldLast (s : State) : Out :=
  if !s.stk.powered || anyOrder s then finish s
  else finish (localRepeat s)

/-- BACKSTOP (R86): dark until a SWAP order of a complete frame. -/
def execBackstop (s : State) : Out :=
  finish (if s.stk.powered then s.setBit F.STK_STAT_BACKSTOP true else s)

/-- SCLK_HOLDOVER (R87): the slot clock has stopped, and the stack goes on with its local oscillator at the slot time
it measured over the previous frame; or the slot clock is back, and with an order its ticks are the sequencer's.
DESIGN CHOICE: log 150. -/
def execSclkHoldover (back : Bool) (s : State) : Out :=
  if !s.stk.powered then finish s
  else if back then
    let s : State := { s with stk := { s.stk with sclkLost := false } }
    finish (if anyOrder s then onSequencer s else s)
  else if s.stk.sclkLost then finish s
  else
    let (a, s) := localUnits s.stk.slotMeasured s
    finish ({ s with stk := { s.stk with sclkLost := true, frontSlotUnits := a * 2 ^ s.stk.n / 65536 } }.setBit F.STK_STAT_SCLK_HOLDOVER true)

end Sys2Proof.Machine
end

