-- ==== Sys2Proof/Machine/Diag.lean ====
section
/-! DEFINITION. Pixel diagnostics (R352 to R362): compliance trips, the in-service test, the read-back, and what the
DIAG block does with FAULT records. -/

namespace Sys2Proof.Machine

/-! ### The displayed codes (R77 to R81, R104, R360) -/

/-- Codes of string `q` in the front buffer, 0 for a bypassed position. -/
def liveCodes (s : State) (q : Nat) : List Nat :=
  (List.range 8).map fun k => if isBypassed s q k then 0 else frontCode s q k

/-- Position of the smallest non-zero code; of equal codes the higher position. -/
def weakest (ds : List Nat) : Option Nat :=
  ds.zipIdx.foldl (fun b c => if c.1 = 0 then b else match b with
    | none => some c.2
    | some i => if c.1 ≤ ds.getD i 0 then some c.2 else some i) none

/-- Set the smallest codes to 0 until at most `n` pixels remain lit (R104). DEDUCED: log 113. -/
def capCodes (n : Nat) : Nat → List Nat → List Nat
  | 0, ds => ds
  | fuel + 1, ds =>
    if (ds.filter (0 < ·)).length ≤ n then ds
    else match weakest ds with
      | some i => capCodes n fuel (ds.set i 0)
      | none => ds

/-- Codes by which string `q` is lit in the displayed frame: capped under R104, shortened under R360.
DEDUCED: log 113. -/
def shownCodes (s : State) (q : Nat) : List Nat :=
  let z : Zone := Fin.ofNat 16 (zoneOfStr q)
  (capCodes s.stk.nallow[z] 8 (liveCodes s q)).zipIdx.map fun c =>
    c.1 - Sparse.get (Sparse.all 0) s.stk.shorten (8 * q + c.2)

/-- Is a pixel of zone `z` with code `d` lit in slot `j` of `2 ^ n`, in spread mode `m` (R78, R80)? -/
def litAt (n m z d j : Nat) : Bool :=
  let nm := 2 ^ n / 2 ^ m
  let l := (d + j / nm) / 2 ^ m
  decide ((j % nm + nm - z * nm / 16) % nm < l)

/-- Is the string's source expected to be on at slot `j`, and each shunt open (R362)? -/
def expectedAt (s : State) (q j : Nat) : List Bool :=
  let z : Zone := Fin.ofNat 16 (zoneOfStr q)
  let dark := !srcEnabled s z || s.bit F.STK_STAT_BACKSTOP || decide (2 ≤ tileStateOf s (tileOfStr q))
    || s.stk.failedStr.contains q
  (shownCodes s q).map fun d => !dark && litAt s.stk.n s.stk.spread z.val d j

/-! ### Compliance trips (R352 to R355) -/

/-- A trip without a pixel sense fails the string in the second of two consecutive frames (R354), which SEQ_FRAME counts
modulo 2^32. DEDUCED: log 115. -/
def senseless (q : Nat) (ist : Bool) (s : State) : State :=
  let frame := s.fld F.SEQ_FRAME_FRAME
  let old := Sparse.get (Sparse.all 0) s.stk.noSense q
  if old ≠ 0 ∧ old % 2 ^ 32 = frame then failString q 4 ist s
  else { s with stk := { s.stk with noSense := Sparse.put (Sparse.all 0) s.stk.noSense q (frame + 1) } }

/-- A trip in string `q` with the overvoltage senses `senses` of the open shunts. DEDUCED: log 115. -/
def tripped (q : Nat) (senses : Byte) (ist : Bool) (s : State) : State :=
  let ks := (List.range 8).filter fun k => senses.getLsbD k && !isBypassed s q k
  if ks.isEmpty then senseless q ist s else s.forEach ks fun k s => failPixel q k 1 ist s

/-- Slots of the displayed frame in `units` of 10 ns / 256, rounded up (R353). -/
def slotsUp (s : State) (units : Nat) : Nat :=
  if s.stk.frontSlotUnits = 0 then 0 else ceilDiv (units * 2 ^ s.stk.n) s.stk.frontSlotUnits

/-- Lengths of the lit intervals of a pixel with code `d` in zone `z`, in spread mode `m`: each sub-pulse, in two parts
where it wraps (R78, R80, R353). DEDUCED: log 115. -/
def litIntervals (n m z d : Nat) : List Nat :=
  let nm := 2 ^ n / 2 ^ m
  let o := z * nm / 16
  (List.range (2 ^ m)).flatMap fun j =>
    let l := (d + j) / 2 ^ m
    if o + l ≤ nm then [l] else [nm - o, o + l - nm]

/-- Is position `k` of string `q` judged in the displayed frame: lit for 0.8 µs at least (R353)? -/
def judged (s : State) (q k : Nat) : Bool :=
  let d := (shownCodes s q).getD k 0
  decide (0 < d) && (litIntervals s.stk.n s.stk.spread (zoneOfStr q) d).any fun l => decide (slotsUp s 20480 ≤ l)

/-- May string `q` trip? Its zone is not exempt (R114), its source enable is asserted, it has not failed, and a pixel
of it is lit long enough (R352, R353). -/
def mayTrip (s : State) (q : Nat) : Bool :=
  let z : Zone := Fin.ofNat 16 (zoneOfStr q)
  s.stk.powered && s.mode != .calibrate && !s.rail.z[z].exempt && srcEnabled s z && !s.bit F.STK_STAT_BACKSTOP
    && !s.stk.failedStr.contains q && decide (tileStateOf s (tileOfStr q) < 2) && (List.range 8).any (judged s q)

/-- The senses that a trip reads in the displayed frame: those of the judged pixels, whose shunts are open (R90,
R353). -/
def judgedSenses (s : State) (q : Nat) (senses : Byte) : Byte :=
  BitVec.ofNat 8 (((List.range 8).filter fun k => senses.getLsbD k && judged s q k).map (2 ^ ·)).sum

/-- COMPLIANCE_TRIP (R352). -/
def execComplianceTrip (str : StringNo) (senses : Byte) (s : State) : Out :=
  finish (if mayTrip s str.val then tripped str.val (judgedSenses s str.val senses) false s else s)

/-! ### The in-service test (R358 to R361) -/

/-- Position tested in string `q` with rotating start `r` (R358). DEDUCED: log 113. -/
def testPos (s : State) (q r : Nat) : Option Nat :=
  let ps := ((List.range 8).map fun i => (r + i) % 8).filter fun p => !isBypassed s q p
  match ps.find? fun p => 0 < frontCode s q p && frontCode s q p < slotsUp s 20480 with
  | some p => some p
  | none => ps.head?

/-- Is zone `z` shipped dark for CAL_ZONE, from T_a until T_{c+1} (R381)? -/
def calDark (s : State) (z : Zone) : Bool := s.cal.zone == some z && s.cal.dark

/-- Does the zone of a tile take no part in tests: cut, locked out, stranded, exempt, or under CAL_ZONE? -/
def testBarred (s : State) (z : Zone) : Bool :=
  zoneCut s z || isLocked s z || isStranded s z || s.rail.z[z].exempt || calDark s z

/-- Measured values the environment does not name are open. DESIGN CHOICE: log 111. -/
def openReading (t : Fin 512) (s : State) : IstReading × State :=
  ({ tile := t, trip := false, sense := false, mv := ((Config.free s.free).toNat) % 65536
     na := ((Config.free (s.free + 1)).toNat) % 65536, refDev := 0 }, { s with free := s.free + 2 })

/-- The test of one tile, or its skip. A tile the environment does not list is found faultless.
DESIGN CHOICE: log 111. -/
def testTile (barred : Zone → Bool) (results : List IstReading) (t : Fin 512) (s : State) : State :=
  let frame := s.fld F.SEQ_FRAME_FRAME
  let q := strOfTile t.val (frame % 512)
  let z : Zone := Fin.ofNat 16 (zoneOfTile t.val)
  let skip : State := { s with diag := { s.diag with skip := s.diag.skip + 1 } }
  if barred z || decide (2 ≤ tileStateOf s t.val) then skip
  else match testPos s q (frame / 512 % 8) with
    | none => skip
    | some p =>
      let (m, s) := match results.find? fun r => r.tile = t with
        | some m => (m, s)
        | none => openReading t s
      let listed := results.any fun r => r.tile = t
      let keep := s.stk.ist.filter fun e => e.2.2.tile ≠ t
      let due := if listed then s.stk.istDue ++ [(frame % 512, p, m)] else s.stk.istDue
      let s := { s with stk := { s.stk with ist := keep ++ [(frame % 512, p, m)], istPixels := s.stk.istPixels ++ [8 * q + p]
                                            istDue := due } }
      if m.trip then tripped q (if m.sense then BitVec.ofNat 8 (2 ^ p) else 0) true s else s

/-- IN_SERVICE_TEST (R359): one pixel of every tile that does not skip, in the guard window of the frame. It runs
under BACKSTOP too when orders arrive again (R86). DESIGN CHOICE: log 158. -/
def execInServiceTest (results : List IstReading) (s : State) : Out :=
  if !s.stk.powered || !s.seq.running || !s.seq.started then finish s
  else
    let off := !anyOrder s || !s.bit F.DIAG_CTRL_IST_EN
    let s : State := { s with stk := { s.stk with istPixels := [], istDue := [] } }
    let bars := allZones.filter (testBarred s)
    let barred (z : Zone) : Bool := off || bars.contains z
    finish (s.forEach (List.finRange 512) (testTile barred results))

/-- Exact source current of string `q` times 250, in nA (R74). -/
def current250 (s : State) (q : Nat) : Nat :=
  let z : Zone := Fin.ofNat 16 (zoneOfStr q)
  let trim := signed 6 (Sparse.get (Sparse.all 0) s.stk.trimEff q).toNat
  (4000 + 250 * s.stk.icode[z]) * (250 + trim).toNat

/-- Does `x` differ from `ref` by more than `pct` %? -/
def offBy (pct x ref : Nat) : Bool := decide (ref * pct < ((x : Int) - (ref : Int)).natAbs * 100)

/-- The verdicts of one test (R359): a pixel bypassed by its trip gets no short verdict. DEDUCED: log 115. -/
def verdict (e : Nat × Nat × IstReading) (s : State) : State :=
  let (i, p, m) := e
  let q := strOfTile m.tile.val i
  let short := !(m.trip && m.sense) && decide (m.mv < 20 * s.fld F.DIAG_CTRL_SHORT_VF)
  let s := if short then failPixel q p 2 true s else s
  let s := if offBy 10 (250 * m.na) (current250 s q) then failString q 1 true s else s
  if 200 < m.refDev.natAbs then failTileAdc m.tile.val s else s

/-- IST_VERDICT (R359), for the tests of this guard window. -/
def execIstVerdict (s : State) : Out :=
  if s.stk.powered then
    let t : State := { s with stk := { s.stk with istDue := [] } }
    finish (t.forEach s.stk.istDue verdict)
  else finish s

/-! ### Read-back (R362) -/

/-- INFO of events 40, 41 and 45. -/
def pixInfo (flag : Bool) (k q : Nat) : Nat := flag.toNat * 2 ^ 21 + k * 2 ^ 18 + q

/-- Raise event `e` at most once in a tick interval (R357). -/
def raiseLimited (e info : Nat) (s : State) : State :=
  let s := limitInterval s
  if s.diag.limited.contains e then s
  else raiseAll e info { s with diag := { s.diag with limited := e :: s.diag.limited } }

/-- The same element as `m`. -/
def sameElem (m n : ReadbackSense) : Bool := m.str == n.str && m.source == n.source && (m.source || m.k == n.k)

/-- What a confirmed mismatch does. -/
def confirmed (m : ReadbackSense) (s : State) : State :=
  let s := s.inc F.DIAG_RB_CONF_CNT
  match m.source, m.on with
  | false, false => failPixel m.str.val m.k.val 2 false s
  | false, true => failString m.str.val 3 false s
  | true, true => failString m.str.val 2 false s
  | true, false => failString m.str.val 1 false s

/-- Does an off pulse that zone `z` has had in this frame overlap slot `j`: 4 µs from slot S_z + N/32 (R342, R362)? -/
def pulseOver (s : State) (z : Zone) (j : Nat) : Bool :=
  let p := (2 * z.val + 1) * 2 ^ s.stk.n / 32
  s.safe.optAt.contains (z, s.reg F.SEQ_FRAME_FRAME.addr) && decide (p ≤ j) && decide (j - p < slotsUp s 102400)

/-- Is the zone of a string sampled at slot `j`: its tile not failed, not dark for CAL_ZONE, no off pulse in the way?
DESIGN CHOICE: log 112. -/
def isSampled (s : State) (j : Nat) (m : ReadbackSense) : Bool :=
  let z : Zone := Fin.ofNat 16 (zoneOfStr m.str.val)
  decide (tileStateOf s (tileOfStr m.str.val) < 2) && !calDark s z && !pulseOver s z j

/-- One mismatch: counted, event 45, confirmed when the element's previous sample mismatched. -/
def mismatched (before : List ReadbackSense) (m : ReadbackSense) (s : State) : State :=
  let k := if m.source then 0 else m.k.val
  let s := s.inc F.DIAG_RB_MISM_CNT
  let s := ((s.setBit F.DIAG_RBADDR_VALID true).setBit F.DIAG_RBADDR_ELEM m.source).setFld F.DIAG_RBADDR_K k
  let s := raiseLimited 45 (pixInfo m.source k m.str.val) (s.setFld F.DIAG_RBADDR_S m.str.val)
  if before.any (sameElem m) then confirmed m s
  else { s with stk := { s.stk with rbPend := s.stk.rbPend ++ [m] } }

/-- READBACK_SAMPLE (R362) at slot (k × 40,503) mod N; an element not listed reads as expected, one that is not
sampled in this frame waits for the next. DESIGN CHOICE: log 112. -/
def execReadbackSample (samples : List ReadbackSense) (s : State) : Out :=
  if !s.stk.powered || !s.seq.running || !s.seq.started then finish s
  else
    let j := s.fld F.SEQ_FRAME_FRAME * 40503 % 2 ^ s.stk.n
    let differs (m : ReadbackSense) : Bool :=
      let e := expectedAt s m.str.val j
      m.on != if m.source then e.any id else e.getD m.k.val false
    let bad := samples.filter fun m => isSampled s j m && differs m
    let before := s.stk.rbPend
    let s : State := { s with stk := { s.stk with rbPend := before.filter fun m => !isSampled s j m } }
    finish (s.forEach bad (mismatched before))

/-! ### FAULT records at the DIAG block (R354 to R357, R367) -/

/-- Class of position `k` of string `q` in the pixel map. -/
def mapClass (s : State) (q k : Nat) : Nat :=
  bitsOf (Sparse.get (Sparse.all 0) s.diag.map (2 * q + k / 4)).toNat (2 * (k % 4) + 1) (2 * (k % 4))

def setClass (q k c : Nat) (s : State) : State :=
  let o := 2 * q + k / 4
  let b := (Sparse.get (Sparse.all 0) s.diag.map o).toNat
  let lo := 2 * (k % 4)
  let v := b - bitsOf b (lo + 1) lo * 2 ^ lo + c % 4 * 2 ^ lo
  { s with diag := { s.diag with map := Sparse.put (Sparse.all 0) s.diag.map o (BitVec.ofNat 8 v) } }

/-- Pixels of class `c` in the map. -/
def countClass (s : State) (c : Nat) : Nat :=
  s.diag.map.foldl (fun n e => n + ((List.range 4).filter fun i => bitsOf e.2.toNat (2 * i + 1) (2 * i) = c).length) 0

/-- Strings all of whose pixels are of class 0b11. -/
def countFailed (s : State) : Nat :=
  (s.diag.map.filter fun e => e.1 % 2 = 0 && e.2 = 0xFF
    && Sparse.get (Sparse.all 0) s.diag.map (e.1 + 1) = 0xFF).length

/-- DIAG_PIXCNT and DIAG_STRCNT follow the map. DEDUCED: log 114. -/
def recount (s : State) : State :=
  let s := s.setFld F.DIAG_PIXCNT_OPEN (min (countClass s 1) 65535)
  let s := s.setFld F.DIAG_PIXCNT_SHORT (min (countClass s 2) 65535)
  s.setFld F.DIAG_STRCNT_STR_FAILED (min (countFailed s) 262143)

/-- What the stack noted of a record beside its bytes; open where it noted nothing. DESIGN CHOICE: log 109. -/
def takeNote (kind n k : Nat) (s : State) : FaultNote × State :=
  match s.stk.notes.find? fun x => x.kind = kind && x.s = n && x.k = k with
  | some x => (x, { s with stk := { s.stk with notes := s.stk.notes.erase x } })
  | none =>
    let (w, s) := s.draw
    ({ kind := kind, s := n, k := k, cause := bitsOf w.toNat 3 0, ist := w.getLsbD 4 }, s)

/-- DIAG_LAST, and the events of R357, none of them in CALIBRATE (R372). DEDUCED: log 110, 114. -/
def faultTaken (kind n k cls : Nat) (s : State) : State :=
  let (x, s) := takeNote kind n k s
  let s := ((s.setFld F.DIAG_LAST_KIND kind).setFld F.DIAG_LAST_CLASS cls).setBit F.DIAG_LAST_FROM_IST x.ist
  let s := recount ((s.setFld F.DIAG_LAST_K k).setFld F.DIAG_LAST_S n)
  if s.mode == .calibrate then s
  else if kind = 2 then raiseAll 43 (cls * 2 ^ 12 + n) s
  else if kind = 1 then raiseLimited 42 (x.cause * 2 ^ 20 + n) s
  else raiseLimited (if cls = 1 then 40 else 41) (pixInfo x.ist k n) s

/-- FAULT (R354): the first good copy of a record changes the map or the tile state; a second copy finds them
changed. DEDUCED: log 103, 114. -/
def execFaultRec (lane : RtnLane) (r : Record) (s : State) : Out :=
  received lane r 5 false (fun s =>
    let n := leAt r.data 0 4
    let k := bitsOf (byteAt r.data 4).toNat 2 0
    let cls := bitsOf (byteAt r.data 4).toNat 5 4
    match r.arg.toNat with
    | 0 => if mapClass s n k = 0 && n < 262144 then faultTaken 0 n k cls (setClass n k cls s) else s
    | 1 =>
      if (List.range 8).all (fun i => mapClass s n i = 3) || n ≥ 262144 then s
      else faultTaken 1 n 0 3 (s.forEach (List.range 8) fun i s => setClass n i 3 s)
    | 2 =>
      if cls ≤ Sparse.get (Sparse.all 0) s.diag.tiles n || n ≥ 512 then s
      else faultTaken 2 n 0 cls { s with diag := { s.diag with tiles := Sparse.put (Sparse.all 0) s.diag.tiles n cls } }
    | _ => s) s

end Sys2Proof.Machine
end

