-- ==== Sys2Proof/Machine/Cal.lean ====
section
/-! DEFINITION. Calibration (R369 to R382): what a tile finds in CALRUN, the ADC records, and the end of a
calibration. Currents in nA, voltages in mV. -/

namespace Sys2Proof.Machine

/-! ### One string (R371, R372, R375, R376) -/

/-- What calibration finds of one string: its failure cause (0: none), searched code, whether it is plausible, pixels
with a fault class, and forward voltages of the others. -/
structure CalFind where
  cause : Nat := 0
  code : Nat := 32
  plausible : Bool := true
  classes : List (Nat × Nat) := []
  vfs : List Nat := []

/-- The binary search over codes 0 to 63 with conversions `m` (R375), from code `c` with weights `bs`. -/
def searchFrom (m : List Nat) (tgt : Nat) : List Nat → Nat → Nat
  | [], c => c
  | b :: bs, c => searchFrom m tgt bs (if m.getD (c + b) 0 ≤ tgt then c + b else c)

/-- The searched code: of two neighbours the nearer one, on a tie the lower (R375). -/
def trimSearch (m : List Nat) (tgt : Nat) : Nat :=
  let c := searchFrom m tgt [32, 16, 8, 4, 2, 1] 0
  if 0 < c ∧ c < 63 ∧ ((m.getD (c + 1) 0 : Nat) : Int) - tgt < (tgt : Int) - (m.getD c 0 : Nat) then c + 1 else c

/-- One pixel: its class, if it has one; whether its string stays plausible; its forward voltage (R371 steps 4, 5). -/
def judgePixel (shortMv : Nat) (p : CalPixel) : Nat × Bool :=
  if p.trip then (1, true)
  else if 3300 < p.mv then (1, false)
  else if p.mv < shortMv then (2, true)
  else if p.stuckClosed then (2, true)
  else (0, decide (2500 ≤ p.mv))

/-- One string whose unbypassed positions are `ks`. -/
def judgeString (tgt shortMv : Nat) (ks : List Nat) (m : CalString) : CalFind :=
  let m32 := m.meas.getD 32 0
  let px := ks.filterMap fun k => m.pixels[k]?.map fun p => (k, p, judgePixel shortMv p)
  if tgt < m.iOff * 100 then { cause := 2 }
  else if m32 * 4 < tgt * 3 || tgt * 5 < m32 * 4 then { cause := 1 }
  else if m.tripNoSense then { cause := 4 }
  else if px.any (fun x => x.2.1.stuckOpen) then { cause := 3 }
  else
    let c := trimSearch m.meas tgt
    { code := c
      plausible := !offBy 1 m.verify tgt && c ≠ 0 && c ≠ 63 && px.all fun x => x.2.2.2
      classes := (px.filter fun x => x.2.2.1 ≠ 0).map fun x => (x.1, x.2.2.1)
      vfs := (px.filter fun x => x.2.2.1 = 0 && x.2.2.2).map fun x => x.2.1.mv }

/-- A string whose findings are not listed: nominal current, every pixel at one voltage. -/
def nominalString (tgt mv : Nat) : CalString :=
  { iOff := 0, meas := (List.range 64).map fun c => tgt * (218 + c) / 250, verify := tgt, tripNoSense := false
    pixels := List.replicate 8 { mv := mv, trip := false, stuckClosed := false, stuckOpen := false } }

/-! ### One tile: CALRUN (R369, R377) -/

/-- Findings of the strings of tile `t` that had not failed, by string-within-tile index. DEDUCED: log 138. -/
def tileFinds (s : State) (z : Zone) (t : Nat) (m : CalReading) : List (Nat × CalFind) :=
  let tgt := 4000 + 250 * s.stk.icode[z]
  (List.range 512).filterMap fun i =>
    let q := strOfTile t i
    if s.stk.failedStr.contains q then none
    else
      let x := match m.strings.find? fun e => e.1 = i with
        | some e => e.2
        | none => nominalString tgt m.nominalMv
      some (i, judgeString tgt (20 * s.fld F.DIAG_CTRL_SHORT_VF) ((List.range 8).filter fun k => !isBypassed s q k) x)

/-- Strings that have not failed and are implausible. -/
def implausible (fs : List (Nat × CalFind)) : List (Nat × CalFind) :=
  fs.filter fun f => f.2.cause = 0 && !f.2.plausible

/-- The 16 bytes of a CALRUN record (R369). -/
def calrunData (fs : List (Nat × CalFind)) : List Byte :=
  let vf := fs.flatMap fun f => f.2.vfs
  let cls (c : Nat) : Nat := (fs.map fun f => (f.2.classes.filter fun x => x.2 = c).length).sum
  let impl := (implausible fs).length
  toLe 2 (vf.foldl max 0) ++ toLe 2 (vf.min?.getD 0) ++ toLe 2 (cls 1) ++ toLe 2 (cls 2)
    ++ toLe 2 (fs.filter fun f => f.2.cause ≠ 0).length ++ toLe 2 impl
    ++ [if 8 < impl then 1 else 0, 0, 0, 0]

/-- Trims that a tile commits: those of its plausible strings, unless more than 8 are implausible (R377). -/
def trimsKept (t : Nat) (fs : List (Nat × CalFind)) : List (Nat × Byte) :=
  if 8 < (implausible fs).length then []
  else (fs.filter fun f => f.2.cause = 0 && f.2.plausible).map fun f =>
    (strOfTile t f.1, BitVec.ofNat 8 ((f.2.code + 32) % 64))

/-- Trims of a full calibration are stored at step 6; those of CAL_ZONE are held until its step 5, marked by bit 7. -/
def takeTrims (l : List (Nat × Byte)) (s : State) : State :=
  if s.mode == .calibrate then s.forEach l fun x s => storeTrim x.1 x.2 s
  else
    { s with cal := { s.cal with work := l.foldl (fun w x => Sparse.put (Sparse.all 0) w x.1 (x.2 ||| 0x80)) s.cal.work } }

/-- FAULT records of what the tile found (R371 step 7). -/
def reportFinds (t : Nat) (fs : List (Nat × CalFind)) (s : State) : State :=
  s.forEach fs fun f s =>
    let q := strOfTile t f.1
    if f.2.cause ≠ 0 then failString q f.2.cause false s
    else s.forEach f.2.classes fun x s => failPixel q x.1 x.2 false s

/-- The junction estimate is taken at the first CALRUN of a zone (R373). -/
def noteTemp (z : Zone) (s : State) : State :=
  let first := (s.cal.asked.filter fun r => r.1 = z && r.2.2 = 2).length ≤ 1
    && !s.cal.done.any fun t => zoneOfTile t = z.val
  if first then { s with cal := { s.cal with tCal := s.cal.tCal.set z (divAway s.therm.tj[z] 1024) } } else s

/-- Steps 2 to 6 of R371 on one tile; a failed tile answers zeros. -/
def calTile (z : Zone) (j : Nat) (m : CalReading) (s : State) : State :=
  let t := tileOfZone z.val j
  let st := tileStateOf s t
  let s := noteTemp z s
  if 2 ≤ st then sendAdc z 2 (List.replicate 12 0 ++ [if st = 3 then 2 else 0, 0, 0, 0]) s
  else
    let fs := tileFinds s z t m
    reportFinds t fs (sendAdc z 2 (calrunData fs) (takeTrims (trimsKept t fs) s))

/-- CALRUN (R369). -/
def execCalrun (e : Side) (z : Zone) (k : ZcmdPkt) (m : CalReading) (s : State) : Out :=
  zcmd e z k 3 2 (calTile z k.start.toNat m) s

/-! ### ADC records at the controller die -/

/-- VF_CAL, T_CAL and ICODE_CAL of a calibrated zone (R373). DEDUCED: log 138. -/
def writeCal (z : Zone) (s : State) : State :=
  let vf := s.cal.vf[z]
  let tc := max (-128) (min 127 s.cal.tCal[z])
  let s := s.setFld (F.RAIL_ZVF_VF_CAL z) (if vf = 0 then 3300 else vf)
  (s.setFldI (F.RAIL_ZVF_T_CAL z) tc).setFld (F.RAIL_ZCFG_ICODE_CAL z) s.stk.icode[z]

/-- Tiles of zone `z` that are not failed. -/
def liveTiles (s : State) (z : Zone) : List Nat :=
  ((List.range 32).map (tileOfZone z.val)).filter fun t => decide (tileStateOf s t < 2)

/-- CAL_ZONE has every record it waits for: step 4 of R381. -/
def zoneReady (z : Zone) (s : State) : State :=
  if (liveTiles s z).all (s.cal.done.contains ·) && !s.cal.ready then
    let was := (s.fld (F.RAIL_ZVF_VF_CAL z), s.fld (F.RAIL_ZVF_T_CAL z), s.fld (F.RAIL_ZCFG_ICODE_CAL z))
    let s := writeCal z s
    { s with cal := { s.cal with ready := true, held := some was } }
  else s

/-- A CALRUN record of tile `j` of zone `z`. -/
def calResult (z : Zone) (j : Nat) (d : List Byte) (s : State) : State :=
  if !s.bit F.CAL_STAT_RUNNING then s
  else
    let t := tileOfZone z.val j
    let c := s.cal
    let kept := (byteAt d 12).getLsbD 0
    let c : CalState := { c with done := c.done ++ [t], vf := c.vf.set z (max c.vf[z] (leAt d 0 2))
                                 impl := c.impl.set z (c.impl[z] + leAt d 10 2)
                                 kept := if kept then c.kept ++ [t] else c.kept }
    let s : State := { s with cal := c }
    if c.zone = some z then zoneReady z s else s

/-- ADC_RECORD: it answers the oldest request of its zone and code (R369). DEDUCED: log 103. -/
def execAdcRecord (lane : RtnLane) (r : Record) (s : State) : Out :=
  received lane r 6 true (fun s =>
    let z := zoneOfRec r
    match s.cal.asked.find? fun a => a.1 = z && a.2.2 = r.arg.toNat with
    | none => s
    | some a =>
      let s : State := { s with cal := { s.cal with asked := s.cal.asked.erase a } }
      if a.2.2 = 2 then calResult z a.2.1 r.data s else s) s

/-! ### The end of a calibration (R371 steps 7 and 8, R381 step 5) -/

/-- CAL_ZRESz and CAL_TKEPT of one zone. DEDUCED: log 138. -/
def zoneResult (skip : Bool) (z : Zone) (s : State) : State :=
  let kept := s.cal.kept.filter fun t => zoneOfTile t = z.val
  let s := (s.setFld (F.CAL_ZRES_KEPT z) (if skip then 0 else kept.length)).setBit (F.CAL_ZRES_SKIP z) skip
  let s := s.setFld (F.CAL_ZRES_IMPL z) (if skip then 0 else s.cal.impl[z])
  s.forEach ((List.range 32).map (tileOfZone z.val)) fun t s =>
    s.setBit ⟨0xF0080 + 4 * (t / 32), t % 32, 1⟩ (!skip && kept.contains t)

/-- The calibration is counted; events 58 and 59 (R377, R382). DEDUCED: log 138. -/
def calCounted (kind z skipped : Nat) (s : State) : State :=
  let kept := s.cal.kept.length
  let s := (s.incWrap F.CAL_COUNT_COUNT).setFld F.CAL_STAMP_UPTIME s.uptime
  let s := ((s.setBit F.CAL_STAT_RUNNING false).setFld F.CAL_STAT_LAST_KIND kind).setFld F.CAL_STAT_SKIPPED skipped
  let s := if kind = 1 then s.setFld F.CAL_STAT_LAST_ZONE z else s
  let s := s.setFld F.CAL_STAT_LAST_RESULT (if kept = 0 ∧ skipped = 0 then 1 else 2)
  let s := raiseAll 58 (kind * 2 ^ 31 + z * 2 ^ 16 + s.fld F.CAL_COUNT_COUNT) s
  if kept = 0 ∧ skipped = 0 then s else raiseAll 59 (kind * 2 ^ 31 + kept * 2 ^ 16 + skipped) s

/-- Working state of a new calibration. -/
def calStart (zone : Option Zone) (s : State) : State :=
  { s.setBit F.CAL_STAT_RUNNING true with
    cal := { prev := s.stk.trim, tCal := s.cal.tCal, zone := zone } }

/-- Entry to CALIBRATE (R370): bypass bits, pixel map and tile states are cleared, and every zone is brought up with
a target of 6.00 V. DEDUCED: log 138. -/
def enterCalibrate (cause : Nat) (s : State) : State :=
  let s := enterMode .calibrate cause s
  let k : StackState := { s.stk with bypass := [], failedStr := [], tileState := [], noSense := [], rbPend := []
                                     notes := [], istDue := [], istPixels := [] }
  let s : State := { s with stk := k, diag := { s.diag with map := [], tiles := [] } }
  let s := calStart none (recount s)
  s.forEach allZones bringUp

/-- Is zone `z` not calibrated (R374, R400)? DEDUCED: log 138. -/
def calSkips (s : State) (z : Zone) : Bool := isStranded s z || isLocked s z

/-- CALIBRATION_DONE (R371 steps 7 and 8). -/
def execCalibrationDone (s : State) : Out :=
  if !(s.mode == .calibrate && s.bit F.CAL_STAT_RUNNING) then finish s
  else
    let skipped := zmask (calSkips s)
    let s := s.forEach allZones fun z s => zoneResult (calSkips s z) z (if calSkips s z then s else writeCal z s)
    let s := calCounted 0 0 skipped s
    finish (enterMode .dark (if s.fld F.PWR_MODE_PREV = 3 then 1 else 0) s)

end Sys2Proof.Machine
end

