-- ==== Sys2Proof/Machine/LongCmds.lean ====
section
/-! DEFINITION. The LONG commands (R267, R268): what each does once checks 1 to 5 of R270 have passed, and how each
ends. Work on berths and the store goes on as the job of Jobs.lean until LONG_COMPLETION; other work is done at
acceptance unless it spans ticks (assumption 7). -/

namespace Sys2Proof.Machine

/-- A LONG command takes the channel; its immediate record is OK with FINAL = 0. -/
def startLong (h : HostHdr) (code idx : Nat) (s : State) : State :=
  { s with long := some { ctx := h.ctx, mseq := h.mseq, code := code, idx := idx, since := s.now, final := none } }

def accepted (s : State) : Reply × State := ({ st := 0, final := false }, s)

/-- A LONG command starts with work to do. -/
def startJob (h : HostHdr) (code idx : Nat) (j : LongJob) (s : State) : Reply × State :=
  accepted (putJob j (startLong h code idx s))

/-- An accepted LONG command whose work ends with `st` and `data`. DESIGN CHOICE: log 7. -/
def endLong (h : HostHdr) (code idx : Nat) (st : Status) (data : List Byte) (s : State) : Reply × State :=
  accepted (setFinal st data (startLong h code idx s))

def reject (st : Status) (data : List Byte) (s : State) : Reply × State := ({ st := st.code, data := data }, s)

/-! ### MODE_REQ (R395 to R399) -/

def Mode.ofCode : Nat → Option Mode
  | 0 => some .off | 1 => some .sleep | 2 => some .wake | 3 => some .boot | 4 => some .calibrate | 5 => some .dark
  | 6 => some .lowlight | 7 => some .beam | 8 => some .simplex | 9 => some .hold | 10 => some .safeDark
  | 11 => some .service | _ => none

/-- Targets a MODE_REQ may name (R396 item 1). -/
def reqTarget (n : Nat) : Option Mode :=
  match Mode.ofCode n with
  | some m => if m == .off || m == .wake || m == .boot || m == .simplex || m == .hold then none else some m
  | none => none

/-- Targets accepted from a mode (R395). -/
def acceptsTarget (from_ to_ : Mode) : Bool :=
  match from_ with
  | .calibrate => to_ == .safeDark
  | .dark => to_ != .dark
  | .lowlight => to_ == .dark || to_ == .beam || to_ == .safeDark
  | .beam => to_ == .dark || to_ == .lowlight || to_ == .safeDark
  | .simplex => to_ == .dark || to_ == .lowlight || to_ == .beam || to_ == .safeDark
  | .hold => to_ == .safeDark
  | .safeDark => to_ == .sleep || to_ == .safeDark
  | .service => to_ == .dark || to_ == .safeDark
  | _ => false

/-- Does a zone serve in mode `m`: all in BEAM and SIMPLEX, LL_ZMASK in LOWLIGHT, SVC_ZMASK in SERVICE? -/
def servesIn (s : State) (m : Mode) (z : Zone) : Bool :=
  match m with
  | .beam => true
  | .simplex => true
  | .lowlight => maskBit (s.fld F.SAFE_CFG_LL_ZMASK) z
  | .service => s.pwr.svcMask.getLsbD z.val
  | _ => false

/-- Preparation of R397 made at acceptance. -/
def prepare (m : Mode) (s : State) : State :=
  let s := if m == .lowlight || m == .beam then s.forEach (allZones.filter (servesIn s m)) fun z s => bringUp z s else s
  if m == .beam && s.mode == .lowlight then powerUnpowered s else s

/-- MODE_REQ for SAFE-DARK: a device lock-out of cause 0x1 that ends the running LONG command (R396).
DEDUCED: log 45. -/
def reqSafeDark (h : HostHdr) (idx : Nat) (s : State) : Reply × State :=
  let s := preemptAll (deviceLockout 1 s)
  endLong h 0x30 idx .ok (toLe 4 10) (s.setFld F.PWR_MODE_REQ_TGT 10)

/-- MODE_REQ. DEDUCED: log 45. -/
def cmdModeReq (h : HostHdr) (idx : Nat) (p : List Byte) (s : State) : Reply × State :=
  if p.length ≠ 4 ∨ pbits p 0 7 4 ≠ 0 ∨ !zeros p 1 3 then badArg s
  else match reqTarget (pbits p 0 3 0) with
    | none => badArg s
    | some m =>
      let noImage := !s.engA.imgValid && !s.engB.imgValid
      let s' := s.setFld F.PWR_MODE_REQ_TGT m.code
      if m == .safeDark then reqSafeDark h idx s
      else if m == s.mode || (m == .beam && s.mode == .simplex) then endLong h 0x30 idx .ok (modeWord s) s'
      else if !acceptsTarget s.mode m || (m == .sleep && s.pwr.brownOut) then reject .modeReject [] s
      else if (m == .lowlight || m == .beam) && (!s.bit F.FFN_STAT_OPT_VALID || noImage) then reject .modeReject [] s
      else if (m == .lowlight || m == .beam || m == .service || m == .calibrate) && s.bit F.THRM_STAT_THERM_STOP then
        reject .modeReject [] s
      else
        let s' := startLong h 0x30 idx (prepare m s')
        accepted { s' with pwr := { s'.pwr with req := some { target := m, ctx := h.ctx } } }

/-- A command that finds the store window closed when it is accepted ends with STORE_TEMP: a status of its execution,
so its immediate record is OK (R268, R390). DEDUCED: log 47. -/
def storeTempEnd (h : HostHdr) (code idx : Nat) (data : List Byte) (s : State) : Reply × State :=
  endLong h code idx .storeTemp data (storeCold s)

/-! ### PROG_LOAD (R206 to R209) -/

/-- Load both engines with `f`, FAILED ones too; they take their roles at the next latch edge (R209).
DESIGN CHOICE: log 49. -/
def loadBoth (f : Side → State → State) (s : State) : State :=
  let s := s.forEach [Side.b, Side.a] fun e s =>
    f e (setUnitRole (unitOfSide e) .coldStarting
      (unitIdle (unitOfSide e) (s.updEng e fun g => { g with powered := true })))
  { s with dplx := { s.dplx with progLoad := true } }

/-- Where berth `n` lies in berth memory. -/
def berthStart (s : State) (n : BerthNo) : Nat := (s.berth n).base * 4096

/-- Content of the valid MOL bank, which PROG_LOAD with SOURCE = STORE loads; a partition without one gives an empty
image, which fails check 1. DESIGN CHOICE: log 152. -/
def molSource (s : State) : List Byte :=
  match latestRec s 1 with
  | some r => storeBytes s (bankBase 1 r.bank) r.len
  | none => []

/-- PROG_LOAD. DESIGN CHOICE: log 49, 149. -/
def cmdProgLoad (h : HostHdr) (idx : Nat) (p : List Byte) (s : State) : Reply × State :=
  let src := pbits p 0 1 0
  let n : BerthNo := Fin.ofNat 64 (pbits p 1 5 0)
  if p.length ≠ 8 ∨ pbits p 0 7 2 ≠ 0 ∨ pbits p 1 7 6 ≠ 0 ∨ !zeros p 2 2 ∨ src > 1
      ∨ (src = 0 ∧ n ≠ 0) ∨ (src = 1 ∧ (s.berth n).st ≠ .ready) then badArg s
  else if !storeWindow s then storeTempEnd h 0x31 idx (checkData 0 0) s
  else
    let j : LongJob := { kind := .progLoad, src := none, len := 0, want := leAt p 4 4, env := h.env }
    startJob h 0x31 idx (if src = 1 then { j with src := some (berthStart s n), len := (s.berth n).size * 4096 }
      else { j with data := molSource s }) s

/-- PROG_LOAD ends: the image read is checked and both engines are loaded, from the valid MOL bank when it fails. -/
def endProgLoad (j : LongJob) (s : State) : State :=
  let (j, s) := runJob j s
  let (k, st) := jobCheck s j
  let s := if k = 0 then loadBoth (fun e s => loadImage e j.data s) s else loadBoth coldStart s
  sendFinal st (checkData k (respCrc k j.data)) s

/-! ### HOT_SWAP (R211 to R213) -/

/-- HOT_SWAP: step 1 of R212, with the store write of step 2 as its job. DESIGN CHOICE: log 49, 149. -/
def cmdHotSwap (h : HostHdr) (idx : Nat) (p : List Byte) (s : State) : Reply × State :=
  let n : BerthNo := Fin.ofNat 64 (pbits p 0 5 0)
  if p.length ≠ 8 ∨ pbits p 0 7 6 ≠ 0 ∨ pbits p 1 7 0 = 0 ∨ (s.berth n).st ≠ .ready then badArg s
  else if !storeWindow s then storeTempEnd h 0x32 idx (checkData 0 0) s
  else
    let hs : HotSwap := { newSide := .b, warm := pbits p 1 7 0, tl := leAt p 2 2, crc := 0, len := 0, ctx := h.ctx
                          step := 1, warmed := 0, committed := false }
    let s : State := { s with dplx := { s.dplx with hot := some hs } }
    startJob h 0x32 idx { kind := .hotSwap, src := some (berthStart s n), len := (s.berth n).size * 4096
                          want := leAt p 4 4, part := 1, bank := inactiveBank s 1, env := h.env } s

/-- HOT_SWAP ends in step 2 with `st`: if the old engine has failed meanwhile, the STANDBY one takes over at the next
tick. DEDUCED: log 132. -/
def hotNoWrite (st : Status) (data : List Byte) (s : State) : State :=
  let s : State := { s with dplx := { s.dplx with hot := none } }
  let s : State := if s.mode == .hold && s.pwr.hold == .hotSwap then
    { s with dplx := { s.dplx with fo := some (s.fld F.DPLX_FOVER_LAST_CAUSE) } } else s
  sendFinal st data s

/-- The store write of HOT_SWAP ends (R212 step 2); the next tick is T_m. With the old engine failed the commit record
is written at once (R213). DEDUCED: log 132. -/
def endHotWrite (h : HotSwap) (j : LongJob) (s : State) : State :=
  let (j, s) := runJob j s
  let (k, st) := jobCheck s j
  let crc := respCrc k j.data
  let s := putJob j s
  if st ≠ .ok then hotNoWrite st (checkData k crc) s
  else if j.cold then hotNoWrite .storeTemp (checkData 0 crc) (storeCold s)
  else if j.next.isSome then hotNoWrite .timeout (checkData 0 crc) (failOp j s)
  else
    let s : State := { s with long := s.long.map fun l => { l with job := none } }
    let hs : HotSwap := { h with step := 2, crc := crc, len := j.out.length }
    let s : State := { s with dplx := { s.dplx with hot := some hs } }
    if s.active.isNone then hotCommit s else s

/-! ### STORE_WRITE (R412, R413) -/

/-- Modes that accept a STORE_WRITE of partition `p` (R210, R408, R412). -/
def storeWriteMode (s : State) (p : Nat) : Bool :=
  match p with
  | 0 => s.darkOrService || s.mode == .boot
  | 1 => s.darkOrService
  | 5 => s.mode == .dark || s.mode == .lowlight || s.mode == .beam || s.mode == .simplex || s.mode == .service
      || s.mode == .safeDark
  | _ => s.mode == .service

/-- LENGTH limits of partition `p`. -/
def storeLenOk (p len : Nat) : Bool :=
  match p with
  | 2 => len = 2097152
  | 3 => decide (len ≤ 65536)
  | 4 => decide (6148 ≤ len)
  | _ => true

/-- STORE_WRITE. DEDUCED: log 47, 70. -/
def cmdStoreWrite (h : HostHdr) (idx : Nat) (p : List Byte) (s : State) : Reply × State :=
  let part := pbits p 0 2 0
  let n : BerthNo := Fin.ofNat 64 (pbits p 1 5 0)
  let commit := pbits p 2 0 0 = 1
  let off := leAt p 4 4
  let len := leAt p 8 4
  let want := leAt p 12 4
  if p.length ≠ 16 ∨ part > 5 ∨ pbits p 0 7 3 ≠ 0 ∨ pbits p 1 7 6 ≠ 0 ∨ pbits p 2 7 1 ≠ 0 ∨ !zeros p 3 1
      ∨ off % 4096 ≠ 0 ∨ len % 4 ≠ 0 ∨ len = 0 ∨ len > 2097152 ∨ off + len > bankSize part
      ∨ (part ≠ 5 ∧ (off ≠ 0 ∨ !commit)) ∨ !storeLenOk part len
      ∨ (s.berth n).st ≠ .ready ∨ len > (s.berth n).size * 4096 then badArg s
  else if !storeWindow s then storeTempEnd h 0x33 idx [] s
  else
    let s := (s.setBit F.STOR_STAT_BUSY true).setFld F.STOR_STAT_PART part
    startJob h 0x33 idx { kind := .storeWrite, src := some (berthStart s n), len := len, want := want, part := part
                          bank := inactiveBank s part, off := off, commit := commit, env := h.env } s

/-- STORE_WRITE ends (R412, R413). -/
def endStoreWrite (j : LongJob) (s : State) : State :=
  let (j, s) := runJob j s
  let st := (jobCheck s j).2
  let s := storeIdle (putJob j s)
  if st ≠ .ok then sendFinal st [] s
  else if j.cold then sendFinal .storeTemp [] (storeCold s)
  else if j.next.isSome then sendFinal .timeout [] (failOp j s)
  else
    let due := j.commit && j.part = 0 && s.mode == .boot
    sendFinal .ok [] { s with pwr := { s.pwr with bootDue := s.pwr.bootDue || due } }

/-! ### STORE_READ (R414) -/

/-- STORE_READ: its transfer is one BERTH_WRITE judged at acceptance (R414); `data` of its job are the two words of
the final record. DEDUCED: log 31. -/
def cmdStoreRead (h : HostHdr) (idx : Nat) (p : List Byte) (s : State) : Reply × State :=
  let part := pbits p 0 2 0
  let n : BerthNo := Fin.ofNat 64 (pbits p 1 5 0)
  let off := leAt p 4 4
  let len := leAt p 8 4
  let bo := leAt p 12 4
  let valid := latestRec s part
  let bank := match valid with
    | some r => if pbits p 2 0 0 = 0 then r.bank else 1 - r.bank
    | none => 0
  if p.length ≠ 16 ∨ part > 5 ∨ pbits p 0 7 3 ≠ 0 ∨ pbits p 1 7 6 ≠ 0 ∨ pbits p 2 7 1 ≠ 0 ∨ !zeros p 3 1
      ∨ off % 4 ≠ 0 ∨ len % 4 ≠ 0 ∨ len = 0 ∨ len > 2097152 ∨ bo % 4 ≠ 0 ∨ (pbits p 2 0 0 = 0 ∧ valid.isNone)
      ∨ off + len > bankSize part ∨ (s.berth n).st = .free ∨ bo + len > (s.berth n).size * 4096 then badArg s
  else
    let s := fillDone n s
    let bs := storeBytes s (bankBase part bank + off) len
    match writeBerth h.ctx n bo bs s with
    | (0, s) =>
      let s := (s.setBit F.STOR_STAT_BUSY true).setFld F.STOR_STAT_PART part
      let gen := match valid with | some r => r.gen | none => 0
      startJob h 0x34 idx { kind := .storeRead, src := none, len := len, part := part, checked := true
                            data := toLe 4 gen ++ toLe 4 (crc32 bs).toNat } s
    | (st, s) => ({ st := st }, s)

/-- STORE_READ ends. -/
def endStoreRead (j : LongJob) (s : State) : State :=
  let (j, s) := runJob j s
  sendFinal .ok j.data (storeIdle (putJob j s))

/-! ### CAL_ZONE (R380, R381) -/

/-- CAL_ZONE: the zone is dark from the next tick. DEDUCED: log 50. -/
def cmdCalZone (h : HostHdr) (idx : Nat) (p : List Byte) (s : State) : Reply × State :=
  let z : Zone := Fin.ofNat 16 (pbits p 0 3 0)
  if p.length ≠ 4 ∨ pbits p 0 7 4 ≠ 0 ∨ !zeros p 1 3 ∨ isLocked s z ∨ isStranded s z ∨ zoneCut s z
      ∨ tilesIn s z (· ≥ 2) = 32 then badArg s
  else
    let s := startLong h 0x35 idx (s.setBit F.CAL_STAT_RUNNING true)
    accepted { s with cal := { prev := s.stk.trim, tCal := s.cal.tCal, zone := some z } }

/-! ### UNLOCK (R347, R348) -/

/-- Is a recorded cause still present? DEDUCED: log 46. -/
def causePresent (s : State) : Bool :=
  s.pwr.brownOut || s.bit F.SAFE_INH_A_RAW != s.bit F.SAFE_INH_B_RAW || s.fld F.SAFE_STRAP_LAST ≠ s.fld F.SAFE_STRAP_BOOT
    || s.fld F.SAFE_CORE_STATE = 2 || s.safe.oscStop || s.safe.cfgBad

/-- A successful UNLOCK: every lock-out is cleared, SAFE-DARK changes to DARK, zones of a beam mode are brought up.
DEDUCED: log 78. -/
def clearLocks (s : State) : State :=
  let was := allZones.filter (isLocked s)
  let s := ((s.setFld F.SAFE_ZONES_ZLOCK 0).setBit F.SAFE_STAT_DEV_LOCK false).setFld F.SAFE_LOCK_DEV_CAUSE 0
  let s := (s.setFld F.SAFE_OPTFAIL_PATHA 0).setFld F.SAFE_OPTFAIL_PATHB 0
  let s := writeAonLocks (s.forEach was fun z s => s.setBit (F.RAIL_ZSTAT_OVLOCK z) false)
  let s := if s.mode == .safeDark then enterMode .dark 8 s else s
  s.forEach (was.filter (servesIn s (if s.mode == .hold then s.pwr.holdFrom else s.mode))) fun z s =>
    bringUp z s

/-- UNLOCK. DEDUCED: log 46. -/
def cmdUnlock (h : HostHdr) (idx : Nat) (p : List Byte) (s : State) : Reply × State :=
  let opened := s.bit F.SAFE_LOCK_UNL_WIN
  let s := s.setBit F.SAFE_LOCK_UNL_WIN false
  if p.length ≠ 4 ∨ !zeros p 2 2 then badArg s
  else if !opened then endLong h 0x40 idx .denied [] s
  else if leAt p 0 2 ≠ s.fld F.SAFE_LOCK_LOCK_SEQ then endLong h 0x40 idx .badArg [] s
  else if causePresent s then endLong h 0x40 idx .modeReject [] s
  else endLong h 0x40 idx .ok [] (clearLocks s)

/-! ### Completion -/

/-- The running LONG command ends, if what it does can end here: a command whose work was done at acceptance, or one
with a job (R268). DESIGN CHOICE: log 7. -/
def completeLong (s : State) : State :=
  match s.long with
  | none => s
  | some l =>
    match l.final, l.job with
    | some (st, d), _ => sendFinal (Status.ofCode st) d s
    | none, none => s
    | none, some j =>
      match j.kind, s.dplx.hot with
      | .progLoad, _ => endProgLoad j s
      | .hotSwap, some h => endHotWrite h j s
      | .hotSwap, none => s
      | .storeWrite, _ => endStoreWrite j s
      | .storeRead, _ => endStoreRead j s

end Sys2Proof.Machine
end

