-- ==== Sys2Proof/Machine/SafetyCmds.lean ====
section
/-! DEFINITION. What Breakwater and the safety core do of their own accord: inhibit inputs (R340, R341), straps
(R327), the unlock window (R347), safety core faults (R346), the legacy watchdog (R331), SAFE_OK (R345), the HOLD
limit (R315), zone evaluation (R333 to R335) and the off-pulse tests (R342, R343). -/

namespace Sys2Proof.Machine

/-- Do Breakwater and the safety core run: the die is powered and in no reset? -/
def safetyRuns (s : State) : Bool := s.mode.dieOn && !s.pwr.inReset

/-- Are SINH_A, SINH_B and SAFE_RST_N read: in every powered mode, and through a reset (R454)? -/
def inputsRead (s : State) : Bool := s.mode != .off && s.mode != .sleep

/-- Are the straps in force: BOOT has read them (R326)? -/
def strapsRead (s : State) : Bool := safetyRuns s && !(s.mode == .boot && s.pwr.bootDue)

/-! ### Inhibit inputs (R340, R341) -/

/-- The run of consecutive samples of a channel after one more: positive active, negative inactive, up to 4. -/
def nextRun (n : Int) (x : Bool) : Int :=
  if x then (if 0 < n then min 4 (n + 1) else 1) else (if n < 0 then max (-4) (n - 1) else -1)

/-- N_D, the count at which a discrepancy faults (R341). -/
def discLimit (s : State) : Nat := 20 * (s.fld F.SAFE_INH_TD_CODE + 1)

/-- The cut follows the filtered channels; a release while the sequencer runs waits for the tick. -/
def inhibitCut (s : State) : State :=
  let act := s.bit F.SAFE_INH_A_FILT || s.bit F.SAFE_INH_B_FILT
  if act && !s.safe.inhCut then
    { s with safe := { s.safe with inhCut := true } }.inc F.SAFE_INH_CUT_CNT
  else if !act && s.safe.inhCut && !s.seq.running then { s with safe := { s.safe with inhCut := false } }
  else s

/-- One sample's count of disagreement; the lock-out at N_D. DEDUCED: log 73. -/
def discrepancy (x y : Bool) (s : State) : State :=
  if x == y then s.setFld F.SAFE_INH_DISC_CNT 0
  else
    let s := s.inc F.SAFE_INH_DISC_CNT
    if s.fld F.SAFE_INH_DISC_CNT = discLimit s then
      deviceLockout 2 (raiseAll 34 (s.fld F.SAFE_INH_DISC_CNT) s)
    else s

/-- Activity of the channels at the pin levels `a` of SINH_A and `b` of SINH_B: active high and active low, swapped by
SCFG[0] (R340). -/
def inhActive (s : State) (a b : Bool) : Bool × Bool :=
  let swap := s.bit F.SAFE_INH_POL_SWAP
  (a != swap, b == swap)

/-- INHIBIT_SAMPLE: the levels of SINH_A and SINH_B. Their discrepancy is timed from the straps on, which hold T_D.
DEDUCED: log 73, 165. -/
def execInhibitSample (pinA pinB : Bool) (s : State) : Out :=
  if !inputsRead s then finish s
  else
    let (x, y) := inhActive s pinA pinB
    let f : SafeState := { s.safe with cntA := nextRun s.safe.cntA x, cntB := nextRun s.safe.cntB y }
    let filt (fld : Fld) (n : Int) (s : State) : State :=
      if n = 4 then s.setBit fld true else if n = -4 then s.setBit fld false else s
    let s : State := { s with safe := f }
    let s := (s.setBit F.SAFE_INH_A_RAW x).setBit F.SAFE_INH_B_RAW y
    let s := filt F.SAFE_INH_B_FILT s.safe.cntB (filt F.SAFE_INH_A_FILT s.safe.cntA s)
    finishCut (if strapsRead s then discrepancy x y (inhibitCut s) else inhibitCut s)

/-! ### Straps (R327) -/

/-- STRAP_CHECK: the two reads 1 ms apart, from the end of BOOT and while the safety core runs (R346).
DEDUCED: log 73. -/
def execStrapCheck (w1 w2 : Half) (s : State) : Out :=
  if !safetyRuns s || s.mode == .boot || s.fld F.SAFE_CORE_STATE ≠ 0 then finish s
  else
    let boot := s.fld F.SAFE_STRAP_BOOT
    let s := s.setFld F.SAFE_STRAP_LAST w2.toNat
    let d1 := w1.toNat ≠ boot
    let d2 := w2.toNat ≠ boot
    if d1 ∧ d2 then
      if s.safe.strapLock = some w1 ∨ s.safe.strapLock = some w2 then finish s
      else
        let s : State := { s with safe := { s.safe with strapLock := some w2 } }
        finish (deviceLockout 3 (raiseAll 36 w2.toNat s))
    else if d1 ∨ d2 then finish (s.inc F.SAFE_CORE_GLITCH)
    else finish s

/-! ### SAFE_RST_N and the unlock window (R347) -/

/-- SAFE_RST_N: a low of `lowUs` µs of SAFEOSC has ended. -/
def execSafeRstN (lowUs : Nat) (s : State) : Out :=
  if !inputsRead s then finish s
  else if anyLock s && decide (50000 ≤ lowUs) && decide (lowUs ≤ 500000) then
    finish (s.setBit F.SAFE_LOCK_UNL_WIN true)
  else finish (s.inc F.SAFE_CORE_RSTPIN_BAD)

/-- UNLOCK_WINDOW_EXPIRY: 1 s after it opened. -/
def execUnlockWindowExpiry (s : State) : Out := finish (s.setBit F.SAFE_LOCK_UNL_WIN false)

/-! ### The safety core (R346) -/

/-- A safety core fault: event 38 with `cause`, SAFE_OK stops, the core restarts; the third within 1 h of AON_UPTIME
locks the device out. DEDUCED: log 75. -/
def coreFault (cause : Nat) (s : State) : State :=
  if s.fld F.SAFE_CORE_STATE ≠ 0 then s
  else
    let ts := s.uptime :: s.safe.faultTimes.take 2
    let recent := (ts.filter fun t => decide (s.uptime ≤ t + 3600)).length
    let s := (s.setFld F.SAFE_CORE_STATE 1).inc F.SAFE_CORE_RST_CNT
    let s := raiseAll 38 cause { s with safe := { s.safe with faultTimes := ts } }
    if recent ≥ 3 then deviceLockout 6 s else s

/-- A safety core fault that no restart clears (R428). DEDUCED: log 75. -/
def coreDead (s : State) : State :=
  deviceLockout 6 (raiseAll 38 4 (s.setFld F.SAFE_CORE_STATE 2))

def coreCause : CoreFault → Nat
  | .lockstep => 1 | .ram => 2 | .heartbeat => 3

/-- SAFETY_CORE_FAULT. -/
def execSafetyCoreFault (k : CoreFault) (s : State) : Out :=
  if safetyRuns s then finish (coreFault (coreCause k) s) else finish s

/-- SAFETY_CORE_RESTART: the restart ends. DEDUCED: log 75. -/
def execSafetyCoreRestart (good : Bool) (s : State) : Out :=
  if !safetyRuns s || s.fld F.SAFE_CORE_STATE ≠ 1 then finish s
  else if good then finish (s.setFld F.SAFE_CORE_STATE 0)
  else finish (deviceLockout 6 (s.setFld F.SAFE_CORE_STATE 2))

/-- WATCHDOG_TIMEOUT: 100 ms without an answer to the challenge (R331), judged through a restart of the safety core too,
but not by a core that no restart brings back. DEDUCED: log 73, 74. -/
def execWatchdogTimeout (s : State) : Out :=
  if safetyRuns s && s.bit F.SAFE_STAT_ARCH_LEGACY && s.fld F.SAFE_LEGACY_Q ≠ 0 && s.fld F.SAFE_CORE_STATE ≠ 2 then
    finish (watchdogFail s)
  else finish s

/-- SAFE_OK_TOGGLE: every 500 µs of SAFEOSC (R345). -/
def execSafeOkToggle (s : State) : Out :=
  finish (if okRuns s then { s with safe := { s.safe with okLevel := !s.safe.okLevel } } else s)

/-- HOLD_LIMIT: HOLD, or the repeats without a harbourmaster in a mode that has no HOLD, have lasted HOLD_LIM (R315,
R319). -/
def execHoldLimit (s : State) : Out :=
  finishCut (if s.mode == .hold || (s.seq.running && noHm s) then deviceLockout 4 s else s)

/-! ### Zone evaluation (R333 to R335) -/

/-- Enabled windows that zone `z`'s displayed record violates. DEDUCED: log 76. -/
def violations (s : State) (z : Zone) : List (Fin 4) :=
  let l := s.safe.shown[z]
  (List.finRange 4).filter fun w =>
    s.safe.gwEn.testBit w.val && decide (s.fld (F.SAFE_GWLIM_LIM w) < l.wmax.getD w.val 0 * (16 + l.icode))

/-- One zone: blind, over its limit, over a window's limit. DEDUCED: log 76. -/
def evalZone (z : Zone) (s : State) : State :=
  if !s.safe.seen.getLsbD z.val then
    let bit : BitVec 16 := BitVec.ofNat 16 (2 ^ z.val)
    let fresh := s.fld F.SEQ_SHOWN_SHOWN = s.fld F.SEQ_FRAME_FRAME
    let s : State := { s with safe := { s.safe with blind := s.safe.blind ||| bit } }
    if fresh then s.inc F.SAFE_STAT_BLIND_CNT else s
  else
    let l := s.safe.shown[z]
    let e := l.zsum * (16 + l.icode)
    let s := s.setFld (F.SAFE_ZFLUX_E z) e
    let s := if s.fld (F.SAFE_ZLIM_LIM z) < e then zoneLockout z 0xA s else s
    match violations s z with
    | [] => s
    | ws =>
      let f : SafeState := { s.safe with gwCut := s.safe.gwCut ||| BitVec.ofNat 16 (2 ^ z.val) }
      ({ s with safe := f } : State).forEach ws fun w s => raiseAll 37 (w.val + 16 * z.val) s

/-- ZONE_EVALUATION, once after each tick. DEDUCED: log 76. -/
def execZoneEvaluation (s : State) : Out :=
  if !safetyRuns s || !s.seq.running || !s.seq.started then finish s
  else
    let viol := (List.finRange 4).foldl (fun m w =>
      if allZones.any (fun z => s.safe.seen.getLsbD z.val && (violations s z).contains w) then m + 2 ^ w.val else m) 0
    let s := s.forEach allZones evalZone
    let s := s.setFld F.SAFE_GW_VIOL viol
    finishCut (if viol ≠ 0 then s.inc F.SAFE_GW_VIOL_CNT else s)

/-! ### Off-pulse tests (R342, R343) -/

/-- Index of a path in `optFail`. -/
def optIx (z : Zone) (b : Bool) : Nat := z.val + (if b then 16 else 0)

/-- Is the path due for its test in this frame: by the schedule of R342, or as a retry or a deferred test? -/
def pulseDue (s : State) (z : Zone) (b : Bool) : Bool :=
  let k := s.fld F.SEQ_FRAME_FRAME
  k % 256 = 16 * z.val + (if b then 8 else 0) || s.safe.optDue.contains (optIx z b, BitVec.ofNat 32 k)

/-- The path is due again in the next frame, or not any more. -/
def pulseNext (z : Zone) (b again : Bool) (s : State) : State :=
  let due := s.safe.optDue.filter fun d => d.1 ≠ optIx z b
  let next : Word := BitVec.ofNat 32 (s.fld F.SEQ_FRAME_FRAME + 1)
  { s with safe := { s.safe with optDue := if again then due ++ [(optIx z b, next)] else due } }

/-- Has the path read back off (R342)? Path (a) by the zone current, or, where it was below 1 mA before the pulse, by
the stack's read-back of the enable; path (b) by the pin. -/
def readsOff (b : Bool) (r : OffPulseReading) : Bool :=
  if b then r.zenHigh else if r.before < 1000 then r.enableOff else decide (r.least < 500)

/-- Does the test of path `b` of zone `z` pass? A zone that is already cut passes on the off state alone.
DEDUCED: log 77. -/
def pulsePasses (s : State) (z : Zone) (b : Bool) (r : OffPulseReading) : Bool :=
  let off := if b then !pathB s z else !srcEnabled s z
  readsOff b r && (r.onRead || r.realCut || off)

/-- A test that failed: repeated in the next frame, or the second failure. DEDUCED: log 77. -/
def pulseFailed (z : Zone) (b : Bool) (s : State) : State :=
  let bit : BitVec 32 := BitVec.ofNat 32 (2 ^ optIx z b)
  if s.safe.optFail.getLsbD (optIx z b) then
    let s := { s with safe := { s.safe with optFail := s.safe.optFail &&& ~~~bit } }.inc F.SAFE_OPT_FAIL_CNT
    let s := s.setBit ⟨0x110018, optIx z b, 1⟩ true
    zoneLockout z 0xC (raiseAll 35 (z.val + 16 * b.toNat) s)
  else pulseNext z b true ({ s with safe := { s.safe with optFail := s.safe.optFail ||| bit } }.inc F.SAFE_OPT_RETRY_CNT)

/-- OFF_PULSE_TEST: one pulse of path (a), or (b) with `b`, when it is due. It is deferred to the next frame for a real
re-enable and for the zone that CAL_ZONE has made dark (R381), and skipped for the fed zone of a crossed-over pair's path
(b). DEDUCED: log 77. -/
def execOffPulseTest (z : Zone) (b : Bool) (r : OffPulseReading) (s : State) : Out :=
  if !safetyRuns s || !s.bit F.SAFE_OPT_EN || !s.seq.running || !s.seq.started || s.fld F.SAFE_CORE_STATE ≠ 0
      || !pulseDue s z b then finish s
  else if b && isCrossed s z then finish (pulseNext z b false (s.inc F.SAFE_OPT_DEFER_CNT))
  else if r.reEnable || calDark s z then finish (pulseNext z b true (s.inc F.SAFE_OPT_DEFER_CNT))
  else
    let k := s.reg F.SEQ_FRAME_FRAME.addr
    let s := pulseNext z b false { s with safe := { s.safe with optAt := (z, k) :: s.safe.optAt.filter (·.2 = k) } }
    if pulsePasses s z b r then
      finish { s with safe := { s.safe with optFail := s.safe.optFail &&& ~~~ BitVec.ofNat 32 (2 ^ optIx z b) } }
    else finishCut (pulseFailed z b s)

end Sys2Proof.Machine
end

