-- ==== Sys2Proof/Machine/Host.lean ====
section
/-! DEFINITION. Commands from the hosts: acceptance (R270), manifests (R260 to R266), the packet checks of every
interface (R249, R276, R279), the queues and their dispatch (R249, R272), and the command rows. -/

namespace Sys2Proof.Machine

/-! ### Acceptance (R270, R273) -/

def knownCode (code : Nat) : Bool :=
  [0x01, 0x02, 0x03, 0x10, 0x11, 0x12, 0x13, 0x20, 0x21, 0x22, 0x23, 0x24, 0x30, 0x31, 0x32, 0x33, 0x34, 0x35, 0x40
  , 0x41, 0x50, 0x51, 0x60].contains code

def isFrameCmd (code : Nat) : Bool := code == 0x12 || code == 0x13 || (0x20 ≤ code && code ≤ 0x24)

def isLongCmd (code : Nat) : Bool := (0x30 ≤ code && code ≤ 0x35) || code == 0x40

/-- Queues of the classes (R261): FRAME in F, LONG in M, SHORT in either. -/
def queueOk (code : Nat) (m : Bool) : Bool := if isFrameCmd code then !m else if isLongCmd code then m else true

/-- The permission bit a command needs (R259); STORE_READ of HOST needs none. -/
def permBit (code : Nat) (p : List Byte) : Option Nat :=
  match code with
  | 0x30 => some 0
  | 0x31 => some 1
  | 0x32 => some 1
  | 0x33 => some 2
  | 0x34 => if pbits p 0 2 0 = 5 then none else some 2
  | 0x35 => some 3
  | 0x40 => some 4
  | 0x20 => some 5
  | 0x24 => some 6
  | _ => none

/-- The berth a LONG command names, whose owner must be the sender (R206, R412, R414). -/
def longBerth (code : Nat) (p : List Byte) : Option BerthNo :=
  match code with
  | 0x31 => if pbits p 0 1 0 = 1 then some (Fin.ofNat 64 (pbits p 1 5 0)) else none
  | 0x32 => some (Fin.ofNat 64 (pbits p 0 5 0))
  | 0x33 => some (Fin.ofNat 64 (pbits p 1 5 0))
  | 0x34 => some (Fin.ofNat 64 (pbits p 1 5 0))
  | _ => none

/-- Does the current mode accept the command (R206, R211, R348, R380, R408, R412)? MODE_REQ and COMMIT judge their
modes themselves. -/
def modeTakes (s : State) (code : Nat) (p : List Byte) : Bool :=
  if s.mode == .boot then code == 0x01 || code == 0x60 || code == 0x41 || code == 0x34 || (code == 0x33 && pbits p 0 2 0 = 0)
  else match code with
    | 0x31 => if pbits p 0 1 0 = 1 then s.mode == .service else s.darkOrService
    | 0x32 => s.mode == .beam && (s.withRole .active).isSome && (s.withRole .standby).isSome
    | 0x33 => pbits p 0 2 0 > 5 || storeWriteMode s (pbits p 0 2 0)
    | 0x35 => s.mode == .service
    | 0x40 => anyLock s
    | _ => true

/-- Is the channel occupied for this command? A MODE_REQ for SAFE-DARK is never answered BUSY (R396); an UNLOCK is
while the safety core restarts (R346). -/
def channelBusy (s : State) (code : Nat) (p : List Byte) : Bool :=
  (isLongCmd code && s.long.isSome && !(code == 0x30 && pbits p 0 3 0 = 10))
    || (code == 0x40 && s.fld F.SAFE_CORE_STATE = 1)

/-- Does context `c` lack what the command table names for a SHORT or FRAME command beside a permission bit: the write
mask of its first pair, the ownership of a berth or layer (R273)? The commands judge it themselves; it is asked here
where the mode does not accept them, since permission is judged before the mode. -/
def lacksOwn (s : State) (c : Ctx) (code : Nat) (p : List Byte) : Bool :=
  match code with
  | 0x02 => 8 ≤ p.length && !maskOk s c (leAt p 0 4)
  | 0x11 => othersBerth s c (Fin.ofNat 64 (pbits p 0 5 0))
  | 0x12 => othersBerth s c (Fin.ofNat 64 (pbits p 0 5 0))
  | 0x13 => othersBerth s c (Fin.ofNat 64 (pbits p 0 5 0))
  | 0x21 => layerDenied s c (layerPar p)
  | _ => false

/-- Checks 1 to 5 of R270: the status of the first that fails. DEDUCED: log 40. -/
def acceptCheck (h : HostHdr) (code : Nat) (p : List Byte) (s : State) : Option Status × State :=
  let denied := match permBit code p with | some b => !hasPerm s h.ctx b | none => false
  let others := match longBerth code p with | some n => othersBerth s h.ctx n | none => false
  if !knownCode code || !queueOk code h.m then (some .badArg, s)
  else if denied then (some .denied, s.inc (F.HCTX_ERR_DENY_CNT h.ctx))
  else if others then (some .denied, s.inc (F.HCTX_ERR_DENY_CNT h.ctx))
  else if !modeTakes s code p then
    if lacksOwn s h.ctx code p then (some .denied, s.inc (F.HCTX_ERR_DENY_CNT h.ctx)) else (some .modeReject, s)
  else if channelBusy s code p then (some .busy, s)
  else (none, s)

/-- Carry out an accepted command. -/
def execCmd (h : HostHdr) (code idx : Nat) (p : List Byte) (s : State) : Reply × State :=
  match code with
  | 0x01 => cmdRegRd h p s
  | 0x02 => cmdRegWr h p s
  | 0x03 => cmdRegSnap h p s
  | 0x10 => cmdBerthAlloc h p s
  | 0x11 => cmdBerthFree h p s
  | 0x12 => cmdBerthWrite h p s
  | 0x13 => cmdBerthReady h p s
  | 0x20 => cmdObjList h p s
  | 0x21 => cmdLayerSet h p s
  | 0x22 => cmdCommit h p s
  | 0x23 => cmdFade h p s
  | 0x24 => cmdPitchYaw h p s
  | 0x30 => cmdModeReq h idx p s
  | 0x31 => cmdProgLoad h idx p s
  | 0x32 => cmdHotSwap h idx p s
  | 0x33 => cmdStoreWrite h idx p s
  | 0x34 => cmdStoreRead h idx p s
  | 0x35 => cmdCalZone h idx p s
  | 0x40 => cmdUnlock h idx p s
  | 0x41 => cmdSafeStatus h p s
  | 0x50 => cmdEvtMask h p s
  | 0x51 => cmdEvtAck h p s
  | _ => cmdPing p s

/-- What a rejection brings beside its record: event 52 for a MODE_REQ (R396), a closed window for an UNLOCK
(R348). DEDUCED: log 45, 46. -/
def afterReject (h : HostHdr) (code : Nat) (p : List Byte) (r : Reply) (s : State) : State :=
  if r.st = 0 then s
  else if code = 0x30 then rejectModeReq h.ctx (pbits p 0 3 0) (Status.ofCode r.st) s
  else if code = 0x40 then s.setBit F.SAFE_LOCK_UNL_WIN false
  else s

/-- The checks of R270 and the command. -/
def judgeCmd (h : HostHdr) (code idx : Nat) (p : List Byte) (s : State) : Reply × State :=
  let (r, s) := match acceptCheck h code p s with
    | (some st, s) => (({ st := st.code, data := if code = 0x02 ∧ st = .denied then toLe 4 0 else [] } : Reply), s)
    | (none, s) => execCmd h code idx p s
  (r, afterReject h code p r s)

/-! ### Manifests run -/

/-- One command of a manifest whose response is `id`. DEDUCED: log 31. -/
def runCommand (id : Nat) (h : HostHdr) (code idx : Nat) (p : List Byte) (s : State) : State :=
  let wait := if queueOk code h.m then waitsFor s h.ctx code p else []
  if wait.isEmpty then
    -- BERTH_FREE ends the fill of its berth at once (R129)
    let n : BerthNo := Fin.ofNat 64 (pbits p 0 5 0)
    let s := if code = 0x11 ∧ (berthArg p).isSome ∧ !othersBerth s h.ctx n then freeHeld n s else s
    let (r, s) := judgeCmd h code idx p s
    addRecord id h.ackAll code idx r s
  else
    holdIn { resp := id, hdr := h, code := code, idx := idx, payload := p } wait
      (updOpen id (fun o => { o with held := o.held + 1 }) s)

/-- Run the commands of an accepted manifest, then queue its response, and do what waits for it.
DESIGN CHOICE: log 38. -/
def runManifest (h : HostHdr) (gap : Bool) (cmds : List (Nat × List Byte)) (s : State) : State :=
  let id := s.nextId
  let o : OpenResp := { id := id, ctx := h.ctx, m := h.m, mseq := h.mseq, gap := gap, recs := [], held := 1 }
  let s := { s with nextId := id + 1, opens := s.opens ++ [o] }
  let s := s.forEach cmds.zipIdx fun c s => runCommand id h c.1.1 c.2 c.1.2 s
  runAfter (closeResp id (updOpen id (fun o => { o with held := o.held - 1 }) (noteAfter id h.ctx s)))

/-! ### Manifests (R260 to R264) -/

/-- The commands in `bs`, at most `fuel`; none where they do not fill it exactly, a length is no PLEN or a reserved
byte is set. -/
def parseCmds : Nat → List Byte → Option (List (Nat × List Byte))
  | 0, bs => if bs.isEmpty then some [] else none
  | n + 1, bs =>
    let len := leAt bs 2 2
    if bs.length < 4 + len ∨ len % 4 ≠ 0 ∨ len > 8176 ∨ leAt bs 1 1 ≠ 0 then none
    else (parseCmds n (bs.drop (4 + len))).map fun r => (leAt bs 0 1, (bs.drop 4).take len) :: r

/-- Check 1 of R262: the commands of a manifest of sound form. -/
def manifestCmds (bs : List Byte) : Option (List (Nat × List Byte)) :=
  let n := leAt bs 4 1
  let tag := if pbits bs 5 0 0 = 1 then 32 else 0
  if bs.length < 8 + tag ∨ n = 0 ∨ n > 64 ∨ pbits bs 5 7 2 ≠ 0 ∨ leAt bs 6 2 ≠ 0 then none
  else parseCmds n ((bs.drop 8).take (bs.length - 8 - tag))

/-- The bytes a TAG covers (R263). -/
def tagInput (s : State) (c : Ctx) (m : Bool) (bs : List Byte) : List Byte :=
  wordBytes (s.reg 0x40008) ++ wordBytes (s.reg 0x4000C) ++ [BitVec.ofNat 8 c.val, BitVec.ofNat 8 m.toNat]
    ++ bs.take (bs.length - 32)

def tagOk (s : State) (c : Ctx) (m : Bool) (bs : List Byte) : Bool :=
  match Config.contextKey c.val with
  | none => false
  | some k => hmac k.toList (tagInput s c m bs) == bs.drop (bs.length - 32)

/-- The last MSEQ accepted in a queue. -/
def lastMseq (c : Ctx) (m : Bool) : Fld := if m then F.HCTX_MSEQM_LAST c else F.HCTX_MSEQF_LAST c

/-- A manifest that fails check `k` of R262. -/
def manifestError (c : Ctx) (m : Bool) (bs : List Byte) (k : Nat) (s : State) : State :=
  let st : Status := if k = 1 then .badArg else .authFail
  let s := s.inc (if k = 1 then F.HCTX_ERR_MAN_ERR c else F.HCTX_ERR_AUTH_ERR c)
  let r : RespRec := { code := 0, idx := 0xFF, status := st.code, final := true, data := [] }
  raiseTo 13 (k + st.code * 256) [c]
    (queueResp c (respBytes (BitVec.ofNat 32 (leAt bs 0 4)) false false m [r]) s)

/-- A manifest taken from its queue. DEDUCED: log 41. -/
def takeManifest (c : Ctx) (m : Bool) (bs : List Byte) (env : HostEnv) (s : State) : State :=
  let auth := pbits bs 5 0 0 = 1
  let mseq := leAt bs 0 4
  let last := s.fld (lastMseq c m)
  match manifestCmds bs with
  | none => manifestError c m bs 1 s
  | some cmds =>
    if !auth ∧ hasPerm s c 7 then manifestError c m bs 2 s
    else if auth ∧ !tagOk s c m bs then manifestError c m bs 3 s
    else if auth ∧ signed 32 (mseq + 2 ^ 32 - last) ≤ 0 then manifestError c m bs 4 s
    else
      let gap := !auth && decide (mseq ≠ (last + 1) % 2 ^ 32)
      let s := s.when gap (State.inc (F.HCTX_ERR_MSEQ_GAP c))
      let s := s.setFld (lastMseq c m) mseq
      runManifest { ctx := c, m := m, mseq := BitVec.ofNat 32 mseq, ackAll := pbits bs 5 1 1 = 1, env := env } gap cmds s

/-! ### Dispatch (R249, R272) -/

/-- May manifests be dispatched: a powered die, the end of BOOT or the firmware monitor (R234, R408), an active
harbourmaster (R319)? DESIGN CHOICE: log 38. -/
def dispatchOpen (s : State) : Bool :=
  s.mode.dieOn && (s.mode != .boot || s.bit F.PWR_BOOTSTAT_FW_MON) && !noHm s

/-- Take the first packet whose context has room for a response. DESIGN CHOICE: log 44. -/
def takeFirst (ok : Ctx → Bool) : List RxPkt → Option (RxPkt × List RxPkt)
  | [] => none
  | p :: ps => if ok p.ctx then some (p, ps) else (takeFirst ok ps).map fun r => (r.1, p :: r.2)

/-- Take the oldest packet of a queue of interface `i` that may be dispatched; freed credits make a STATUS pending.
DESIGN CHOICE: log 44. -/
def takePacket (i : Iface) (m : Bool) (s : State) : Option (RxPkt × State) :=
  let q := if m then s.rxM[ifaceIx i] else s.rxF[ifaceIx i]
  match takeFirst (fun c => unsent s c < 32) q with
  | none => none
  | some (p, q) =>
    let s := if m then { s with rxM := s.rxM.set (ifaceIx i) q } else { s with rxF := s.rxF.set (ifaceIx i) q }
    let s := match i with
      | .portA => s.updPort 0 fun x => { x with status := true }
      | .portB => s.updPort 1 fun x => { x with status := true }
      | _ => s
    some (p, s)

/-- Dispatch what waits on an interface, F before M. DESIGN CHOICE: log 44. -/
def dispatch (i : Iface) : Nat → State → State
  | 0, s => s
  | n + 1, s =>
    if !dispatchOpen s then s
    else match takePacket i false s with
      | some (p, s) => dispatch i n (takeManifest p.ctx p.m p.bytes p.env s)
      | none => match takePacket i true s with
        | some (p, s) => dispatch i n (takeManifest p.ctx p.m p.bytes p.env s)
        | none => s

/-- Packets that wait on an interface. -/
def waiting (s : State) (i : Iface) : Nat := s.rxF[ifaceIx i].length + s.rxM[ifaceIx i].length

def dispatchOn (i : Iface) (s : State) : State :=
  let s := runAfter (closeReady s)
  dispatch i (waiting s i) s

/-- Dispatch on every interface. -/
def dispatchEvery (s : State) : State := s.forEach [Iface.portA, .portB, .spi, .can] dispatchOn

/-! ### Packets (R249) -/

/-- Count a discard under R19 (HCTX_IFERR). -/
def ifErr : Iface → Fld
  | .portA => F.HCTX_IFERR_PORTA
  | .portB => F.HCTX_IFERR_PORTB
  | .spi => F.HCTX_IFERR_SPI
  | .can => F.HCTX_IFERR_CAN

/-- The port of an interface. -/
def portOf : Iface → Option Port
  | .portA => some 0
  | .portB => some 1
  | _ => none

/-- Count in a LINK field on a port; SPI and CAN FD have no such counter. -/
def linkInc (i : Iface) (f : Nat → Fld) (s : State) : State :=
  match portOf i with
  | some p => s.inc (f p.val)
  | none => s

/-- Event 12: interface and check; a finding that is no numbered check has check field 0 (R17). -/
def packetEvt12 (i : Iface) (check : Nat) (dst : List Ctx) (s : State) : State :=
  raiseTo 12 (ifaceCode i + check * 16) dst s

/-- Event 13 of a packet check: its status byte is 0, since no rule gives a discarded packet a status (R17). -/
def packetEvt13 (check : Nat) (c : Ctx) (s : State) : State := raiseTo 13 check [c] s

/-- SEQ expected on an interface. -/
def rxSeq (s : State) : Iface → Nat
  | .portA => s.fld (F.LINK_PSTAT_RX_SEQ 0)
  | .portB => s.fld (F.LINK_PSTAT_RX_SEQ 1)
  | .spi => s.spi.rxSeq.toNat
  | .can => s.can.rxSeq.toNat

/-- Expect `n` next; a port's STATUS carries the SEQ accepted. -/
def setRxSeq (i : Iface) (sq : Nat) (s : State) : State :=
  let n : Byte := BitVec.ofNat 8 (sq + 1)
  match i with
  | .portA => (s.setFld (F.LINK_PSTAT_RX_SEQ 0) n.toNat).updPort 0 fun p => { p with lastSeq := BitVec.ofNat 8 sq }
  | .portB => (s.setFld (F.LINK_PSTAT_RX_SEQ 1) n.toNat).updPort 1 fun p => { p with lastSeq := BitVec.ofNat 8 sq }
  | .spi => { s with spi := { s.spi with rxSeq := n } }
  | .can => { s with can := { s.can with rxSeq := n } }

/-- Count the credits of a packet of `len` payload bytes on a port (R250); whether it is kept or not, they are used. Of a
packet whose framing broke, the bytes found before the break count, at least one credit. DESIGN CHOICE: log 162. -/
def useCredits (i : Iface) (m : Bool) (len : Nat) (s : State) : State :=
  match portOf i with
  | some p => s.updPort p fun x =>
      if m then { x with usedM := x.usedM + BitVec.ofNat 16 (credits len) }
      else { x with usedF := x.usedF + BitVec.ofNat 16 (credits len) }
  | none => s

/-- Check 5: the limit of a port (R250), the free bytes of SPI (R276), the window of CAN FD (R280). -/
def overLimit (i : Iface) (m : Bool) (len : Nat) (s : State) : Bool :=
  match portOf i with
  | some p =>
    let x := s.port[p]
    if m then decide (0 < (x.usedM - x.limM).toInt) else decide (0 < (x.usedF - x.limF).toInt)
  | none =>
    if i = .spi then decide (spiFree s m < len)
    else decide ((if m then s.can.outM else s.can.outF) > bitsOf s.can.ctrl.toNat 5 4 + 1)

/-- A discard: freed credits make a STATUS pending on a port, SPI notes it for its status byte. -/
def discardPkt (i : Iface) (s : State) : State :=
  match portOf i with
  | some p => s.updPort p fun x => { x with status := true }
  | none => if i = .spi then { s with spi := { s.spi with discarded := true } } else s

/-- The checks of R249 on a received packet, and its way into the queue of its context. DEDUCED: log 42, 43. -/
def acceptPacket (i : Iface) (framed : Bool) (bs : List Byte) (env : HostEnv) (s : State) : State :=
  let hcrc := decide (8 ≤ bs.length) && leAt bs 6 2 = (crc16 (bs.take 6)).toNat
  let c : Ctx := Fin.ofNat 4 (pbits bs 0 1 0)
  let m : Bool := pbits bs 0 2 2 = 1
  let len := leAt bs 2 2
  let pl := (bs.drop 8).take (bs.length - 12)
  let sq := leAt bs 1 1
  let s := useCredits i m (bs.length - 12) s
  if !framed ∨ bs.length < 12 ∨ bs.length ≠ len + 12 then
    let s := discardPkt i (linkInc i F.LINK_ERR_HDR_ERR s)
    if hcrc then packetEvt13 1 c s else packetEvt12 i 1 s.everyCtx s
  else if !hcrc then packetEvt12 i 2 (s.ctxsOn i) (discardPkt i (linkInc i F.LINK_ERR_CRC_ERR s))
  else if pbits bs 0 7 4 ≠ 1 ∨ pbits bs 0 3 3 ≠ 0 ∨ leAt bs 4 2 ≠ 0 ∨ len > 8192 ∨ len % 4 ≠ 0
      ∨ (i = .can ∧ len > 2048) then
    packetEvt13 3 c (discardPkt i (linkInc i F.LINK_ERR_HDR_ERR s))
  else if leAt bs (8 + len) 4 ≠ (if len = 0 then 0 else (crc32c pl).toNat) then
    packetEvt12 i 4 [c] (discardPkt i (linkInc i F.LINK_ERR_CRC_ERR s))
  else
    let s := if sq = rxSeq s i then s
      else
        packetEvt12 i 0 (s.ctxsOn i) (linkInc i F.LINK_ERR_SEQ_GAP s)
    let s := setRxSeq i sq s
    let s := if i = .can then
        { s with can := if m then { s.can with outM := s.can.outM + 1 } else { s.can with outF := s.can.outF + 1 } }
      else s
    if overLimit i m len s then
      let s := if i = .can then
          { s with can := if m then { s.can with outM := s.can.outM - 1 } else { s.can with outF := s.can.outF - 1 } }
        else s
      let s := discardPkt i (linkInc i F.LINK_ERR_HDR_ERR s)
      packetEvt13 5 c (s.when (i = .can) (State.inc F.CANF_FERR_WIN_ERR))
    else if s.ifaceOf c ≠ some i then
      let s := if i = .can then
          { s with can := if m then { s.can with outM := s.can.outM - 1 } else { s.can with outF := s.can.outF - 1 } }
        else s
      discardPkt i (s.inc (ifErr i))
    else
      let p : RxPkt := { ctx := c, m := m, bytes := pl, env := env }
      let s := if m then { s with rxM := s.rxM.set (ifaceIx i) (s.rxM[ifaceIx i] ++ [p]) }
        else { s with rxF := s.rxF.set (ifaceIx i) (s.rxF[ifaceIx i] ++ [p]) }
      dispatchOn i s

/-! ### The command rows -/

/-- A manifest of context `c` is in the window of CAN FD until its response has left (R280). -/
def enterWindow (c : Ctx) (m : Bool) (s : State) : State :=
  if s.ifaceOf c ≠ some .can then s
  else { s with can := if m then { s.can with outM := s.can.outM + 1 } else { s.can with outF := s.can.outF + 1 } }

/-- May a manifest of context `c` be dispatched: bound, and with room for its response (R272)?
DESIGN CHOICE: log 38. -/
def served (s : State) (c : Ctx) : Bool := dispatchOpen s && s.bound c && unsent s c < 32

/-- A host command row: a manifest of this one command that has passed the checks before R270. It acts while
manifests of its context are dispatched. DESIGN CHOICE: log 38. -/
def hostRow (code : Nat) (h : HostHdr) (p : List Byte) (s : State) : Out :=
  if served s h.ctx then finish (runManifest h false [(code, p)] (enterWindow h.ctx h.m s)) else finish s

def execRegRd (h : HostHdr) (p : List Byte) (s : State) : Out := hostRow 0x01 h p s
def execRegWr (h : HostHdr) (p : List Byte) (s : State) : Out := hostRow 0x02 h p s
def execRegSnap (h : HostHdr) (p : List Byte) (s : State) : Out := hostRow 0x03 h p s
def execBerthAlloc (h : HostHdr) (p : List Byte) (s : State) : Out := hostRow 0x10 h p s
def execBerthFree (h : HostHdr) (p : List Byte) (s : State) : Out := hostRow 0x11 h p s
def execBerthWrite (h : HostHdr) (p : List Byte) (s : State) : Out := hostRow 0x12 h p s
def execBerthReady (h : HostHdr) (p : List Byte) (s : State) : Out := hostRow 0x13 h p s
def execObjList (h : HostHdr) (p : List Byte) (s : State) : Out := hostRow 0x20 h p s
def execLayerSet (h : HostHdr) (p : List Byte) (s : State) : Out := hostRow 0x21 h p s
def execCommit (h : HostHdr) (p : List Byte) (s : State) : Out := hostRow 0x22 h p s
def execFade (h : HostHdr) (p : List Byte) (s : State) : Out := hostRow 0x23 h p s
def execPitchYaw (h : HostHdr) (p : List Byte) (s : State) : Out := hostRow 0x24 h p s
def execModeReq (h : HostHdr) (p : List Byte) (s : State) : Out := hostRow 0x30 h p s
def execProgLoad (h : HostHdr) (p : List Byte) (s : State) : Out := hostRow 0x31 h p s
def execHotSwap (h : HostHdr) (p : List Byte) (s : State) : Out := hostRow 0x32 h p s
def execStoreWrite (h : HostHdr) (p : List Byte) (s : State) : Out := hostRow 0x33 h p s
def execStoreRead (h : HostHdr) (p : List Byte) (s : State) : Out := hostRow 0x34 h p s
def execCalZone (h : HostHdr) (p : List Byte) (s : State) : Out := hostRow 0x35 h p s
def execUnlock (h : HostHdr) (p : List Byte) (s : State) : Out := hostRow 0x40 h p s
def execSafeStatus (h : HostHdr) (p : List Byte) (s : State) : Out := hostRow 0x41 h p s
def execEvtMask (h : HostHdr) (p : List Byte) (s : State) : Out := hostRow 0x50 h p s
def execEvtAck (h : HostHdr) (p : List Byte) (s : State) : Out := hostRow 0x51 h p s
def execPing (h : HostHdr) (p : List Byte) (s : State) : Out := hostRow 0x60 h p s

/-- LONG_COMPLETION: the running LONG command ends (R268), but not while no harbourmaster is ACTIVE (R319).
DESIGN CHOICE: log 7. -/
def execLongCompletion (s : State) : Out :=
  if s.long.isNone || noHm s then finish s else finish (dispatchEvery (completeLong s))

/-- MANIFEST: a packet arrives as blocks on a port that is UP; SPI and CAN FD bring theirs by SPI_WRITE and
CAN_FRAME. -/
def execManifest (port : Port) (wire : List Block) (env : HostEnv) (s : State) : Out :=
  let r := unframe wire
  if s.mode.dieOn && portState s port = 2 then finish (acceptPacket (ifaceOfPort port) r.2 r.1 env s) else finish s

/-- A write of `v` to register `a` by context `c` that has been accepted for dispatch (one pair of REG_WR, R274).
DESIGN CHOICE: log 39. -/
def regRowWr (c : Ctx) (a : Nat) (v : Word) (s : State) : Out :=
  if dispatchOpen s ∧ s.bound c then finish (runAfter (noteAfter s.nextId c (regWrite c a v s).2)) else finish s

/-- DO: SYS_RSTCTL (R434). DESIGN CHOICE: log 39. -/
def execSwReset (ctx : Ctx) (v : Word) (s : State) : Out := regRowWr ctx 0x8 v s
/-- OPEN: STK_XOVER (R95). DESIGN CHOICE: log 39. -/
def execXoverOpen (ctx : Ctx) (v : Word) (s : State) : Out := regRowWr ctx 0xD0010 v s
/-- SWAP_REQ: DPLX_CTRL (R306). DESIGN CHOICE: log 39. -/
def execSwapReq (ctx : Ctx) (v : Word) (s : State) : Out := regRowWr ctx 0x120000 v s
/-- RECOV: DPLX_CTRL (R312). DESIGN CHOICE: log 39. -/
def execRecov (ctx : Ctx) (v : Word) (s : State) : Out := regRowWr ctx 0x120000 v s
/-- REL: AON_PADCFG through the window (R405). DESIGN CHOICE: log 39. -/
def execRel (ctx : Ctx) (v : Word) (s : State) : Out := regRowWr ctx 0x2010C v s
/-- CNT_CLR of a register (R443). DESIGN CHOICE: log 39. -/
def execCntClr (ctx : Ctx) (addr : Nat) (v : Word) (s : State) : Out := regRowWr ctx addr v s
/-- FOM_CLR: LINK_LANEp_l (R241). DESIGN CHOICE: log 39. -/
def execFomClr (ctx : Ctx) (port : Port) (lane : Fin 2) (v : Word) (s : State) : Out :=
  regRowWr ctx (0x50020 + 0x100 * port.val + 4 * lane.val) v s
/-- LINK_PCFG (R257). DESIGN CHOICE: log 39. -/
def execLinkPcfg (ctx : Ctx) (port : Port) (v : Word) (s : State) : Out :=
  regRowWr ctx (0x50000 + 0x100 * port.val) v s

end Sys2Proof.Machine
end

