-- ==== Sys2Proof/Machine/Transport.lean ====
section
/-! DEFINITION. SPI framing (R275, R276), CAN FD (R277 to R282), and the lanes of the Ranfer ports (R236 to R256). -/

namespace Sys2Proof.Machine

/-! ### SPI -/

/-- Return packets that wait on an interface. -/
def pendingOn (s : State) (i : Iface) : Nat := (s.outq[ifaceIx i]).events.length + (s.outq[ifaceIx i]).resps.length

/-- The status byte SPI_MISO returns first (R275). -/
def spiStatusByte (s : State) : Byte :=
  BitVec.ofNat 8 ((if pendingOn s .spi ≠ 0 then 128 else 0) + (if s.spi.discarded then 64 else 0) + 0x25)

/-- A READ with `clocked` bytes after the function byte: the dummy byte's level is open; a packet not clocked out whole
stays pending and is the next READ's (R276). DEDUCED: log 51. -/
def spiReadFn (clocked : Nat) (s : State) : State :=
  let st := spiStatusByte s
  let (d, s) := s.draw
  let dummy : Byte := d.setWidth 8
  match nextReturn (headQueue .spi s) with
  | none => noteSent .spi (st :: (dummy :: List.replicate 8 0).take clocked) s
  | some (t, c, pl) =>
    let p := packet t false c s.spi.txSeq pl
    if p.length + 1 ≤ clocked then dispatchOn .spi (noteSent .spi (st :: dummy :: p) (sendNext .spi s))
    else
      let s := noteSent .spi (st :: (dummy :: p).take clocked) s
      { s with spi := { s.spi with cutResp := t = 2 } }

/-- A STATUS with `clocked` bytes after the function byte: reading clears the discard flag. DEDUCED: log 51. -/
def spiStatusFn (clocked : Nat) (s : State) : State :=
  let st := spiStatusByte s
  let (d, s) := s.draw
  let bs := toLe 2 (spiFree s false) ++ toLe 2 (spiFree s true) ++ toLe 1 (min 255 (pendingOn s .spi))
    ++ [s.spi.rxSeq, 0, 0]
  let s := noteSent .spi (st :: (d.setWidth 8 :: bs).take clocked) s
  { s with spi := { s.spi with discarded := false } }

/-- SPI_WRITE: a whole transaction, its function byte first: 0x61 carries a packet, 0x62 and 0x63 read, and any other
byte is ignored (R275). -/
def execSpiWrite (bytes : List Byte) (env : HostEnv) (s : State) : Out :=
  if !busServed s then finish s
  else if byteAt bytes 0 = 0x61 then
    finish (acceptPacket .spi true (bytes.drop 1) env
      (noteSent .spi (spiStatusByte s :: List.replicate (bytes.length - 1) 0) s))
  else if byteAt bytes 0 = 0x62 then finish (spiReadFn (bytes.length - 1) s)
  else if byteAt bytes 0 = 0x63 then finish (spiStatusFn (bytes.length - 1) s)
  else finish (noteSent .spi [spiStatusByte s] s)

/-- SPI_READ. -/
def execSpiRead (clocked : Nat) (s : State) : Out :=
  if busServed s then finish (spiReadFn clocked s) else finish s

/-- SPI_STATUS: the whole STATUS function. -/
def execSpiStatus (s : State) : Out :=
  if busServed s then finish (spiStatusFn 9 s) else finish s

/-! ### CAN FD -/

/-- A packet under assembly is discarded: SEG_ERR and event 12, whose check field has no value (R279, R17). -/
def canDiscard (s : State) : State :=
  let s := s.inc F.CANF_FERR_SEG_ERR
  packetEvt12 .can 0 (s.ctxsOn .can) { s with can := { s.can with asm := none, seg := 0 } }

/-- The controller enters bus-off: event 15. Its 8-bit TEC has no value there and reads 0 (R17). DEDUCED: log 52. -/
def canBusOff (s : State) : State :=
  let s := ((s.setFld F.CANF_ERRC_STATE 2).setFld F.CANF_ERRC_TEC 0).inc F.CANF_ERRC_BUSOFF_CNT
  raiseTo 15 (s.fld F.CANF_ERRC_BUSOFF_CNT) (s.ctxsOn .can) s

/-- Error-passive above 127 in either counter, else error-active (R277). PRESUMED: log 156. -/
def canState (s : State) : State :=
  if s.fld F.CANF_ERRC_STATE = 2 then s
  else s.setFld F.CANF_ERRC_STATE (if s.fld F.CANF_ERRC_REC > 127 ∨ s.fld F.CANF_ERRC_TEC > 127 then 1 else 0)

/-- One error in the counters of ISO 11898-1: bus-off when TEC passes 255; a controller that is off counts none.
PRESUMED: log 156. -/
def canError (e : CanErr) (s : State) : State :=
  let rec_ (n : Nat) : State := canState (s.setFld F.CANF_ERRC_REC (min 255 (s.fld F.CANF_ERRC_REC + n)))
  if s.fld F.CANF_ERRC_STATE = 2 then s
  else match e with
    | .rx => rec_ 1
    | .rxDominant => rec_ 8
    | .tx =>
      let n := s.fld F.CANF_ERRC_TEC + 8
      if n > 255 then canBusOff s else canState (s.setFld F.CANF_ERRC_TEC n)

/-- A frame received without error: REC falls by 1, from above 127 to 127. PRESUMED: log 156. -/
def canReceived (s : State) : State :=
  let r := s.fld F.CANF_ERRC_REC
  canState (s.setFld F.CANF_ERRC_REC (if r > 127 then 127 else r - 1))

/-- A frame transmitted without error: TEC falls by 1. PRESUMED: log 156. -/
def canSent (s : State) : State := canState (s.setFld F.CANF_ERRC_TEC (s.fld F.CANF_ERRC_TEC - 1))

/-- The bytes of an assembled packet: LEN says where it ends (R278). -/
def canPacket (bs : List Byte) : List Byte := bs.take (leAt bs 2 2 + 12)

/-- A segment with its control byte `ctl` and packet bytes `bs`. DEDUCED: log 52. -/
def canSegment (ctl : Byte) (bs : List Byte) (env : HostEnv) (s : State) : State :=
  let first := ctl.getLsbD 7
  let last := ctl.getLsbD 6
  let n := ctl.toNat % 64
  let s := if first && s.can.asm.isSome then canDiscard s else s
  let done (x : List Byte) (s : State) : State :=
    if last then acceptPacket .can true (canPacket x) env { s with can := { s.can with asm := none, seg := 0 } }
    else { s with can := { s.can with asm := some x, seg := s.can.seg + 1 } }
  if first then (if n = 0 then done bs { s with can := { s.can with seg := 0 } } else canDiscard s)
  else match s.can.asm with
    | none => if last then canDiscard s else s
    | some x => if n = s.can.seg % 64 then done (x ++ bs) s else canDiscard s

/-- CAN_FRAME: a frame received without error. DEDUCED: log 52. -/
def execCanFrame (f : CanFrame) (env : HostEnv) (s : State) : Out :=
  let mine := f.ext == s.can.ctrl.getLsbD 2 && f.id == s.fld F.CANF_IDRX_ID % (if f.ext then 2 ^ 29 else 2 ^ 11)
  if !canOn s then finish s
  else
  let s := s.forEach f.errs canError
  if !canOn s then finish s
  else
  let s := canReceived s
  if f.remote || !mine then finish s
  else if !f.fd || !f.brs then finish (s.inc F.CANF_FERR_FMT_ERR)
  else finish (canSegment (byteAt f.data 0) (f.data.drop 1) env s)

/-- SEGMENT_GAP: more than 10 ms between segments. -/
def execSegmentGap (s : State) : Out := if s.can.asm.isSome then finish (canDiscard s) else finish s

/-- CAN_TRANSMIT: after the errors `errs`, unless they end in bus-off, the next return packet has been transmitted
without error. -/
def execCanTransmit (errs : List CanErr) (s : State) : Out :=
  if !canOn s then finish s
  else
    let s := s.forEach errs canError
    finish (if canOn s then dispatchOn .can (sendNext .can (canSent s)) else s)

/-- BUS_OFF: errors that no other row lists have taken TEC past 255. DEDUCED: log 52. -/
def execBusOff (s : State) : Out := finish (if canOn s then canBusOff s else s)

/-- The controller leaves bus-off with its counters at 0. -/
def canRecover (s : State) : State :=
  ((s.setFld F.CANF_ERRC_STATE 0).setFld F.CANF_ERRC_TEC 0).setFld F.CANF_ERRC_REC 0

/-- BUS_OFF_RECOVERY: automatic with AUTO_RECOV. -/
def execBusOffRecovery (s : State) : Out :=
  if busServed s && s.can.ctrl.getLsbD 0 && s.fld F.CANF_ERRC_STATE = 2 && s.can.ctrl.getLsbD 3 then finish (canRecover s)
  else finish s

/-- CAN_TIMING_APPLY: the bus is idle and accepted writes take effect (R282); EN from 0 to 1 ends bus-off (R277).
DEDUCED: log 52. -/
def execCanTimingApply (s : State) : Out :=
  if !s.mode.dieOn then finish s
  else
    let rise := s.bit F.CANF_CTRL_EN && !s.can.ctrl.getLsbD 0
    let s := { s with can := { s.can with ctrl := s.reg 0x60000, nbt := s.reg 0x60004, dbt := s.reg 0x60008 } }
    finish (if rise && s.fld F.CANF_ERRC_STATE = 2 then canRecover s else s)

/-! ### Ranfer lanes -/

/-- Is lane `l` of port `p` configured (LANES)? -/
def laneCfg (s : State) (p : Port) (l : Fin 2) : Bool := l = 0 || s.bit (F.LINK_PCFG_LANES p)

/-- Is the port powered (R234)? -/
def portOn (s : State) : Bool := s.mode.dieOn

/-- What training found on a lane. -/
def setLane (p : Port) (l : Fin 2) (q : LaneQuality) (s : State) : State :=
  let s := ((s.setFld (F.LINK_LANE_LOCK p l) 1).setFld (F.LINK_LANE_USED p l) 1).setFld (F.LINK_LANE_SQUELCH p l) 0
  let s := (s.setFld (F.LINK_LANE_FOM p l) q.fom.toNat).setFld (F.LINK_LANE_FOM_MIN p l)
    (min (s.fld (F.LINK_LANE_FOM_MIN p l)) q.fom.toNat)
  (s.setFld (F.LINK_LANE_CTLE p l) q.ctle.toNat).setFld (F.LINK_DFE_TAPS p l) q.taps.toNat

/-- Steps 5 and 6 of R239: sequence numbers and used credits restart, ADAPT and then STATUS are sent, STATE = UP. No
packet has been accepted since the training: STATUS gives 0 as the last SEQ accepted. The runs of FOM measurements of
event 10 start anew, and whether it is armed stays. DESIGN CHOICE: log 163, 164. -/
def portUp (p : Port) (two : Bool) (s : State) : State :=
  adaptFirst p (fun s =>
    let s := (s.setFld (F.LINK_PSTAT_RX_SEQ p) 0).setFld (F.LINK_PSTAT_TX_SEQ p) 0
    let s := (s.setFld (F.LINK_PSTAT_STATE p) 2).setBit (F.LINK_PSTAT_LANE1_USED p) two
    thenSend p (sendStatus p) (sendAdapt p (s.updPort p fun q =>
      { q with usedF := 0, usedM := 0, lastSeq := 0, lowCnt := .replicate 2 0, highCnt := .replicate 2 0 }))) s

/-- PORT_TRAINING: every configured lane is found locked, while LANEPLL gives the receivers their reference (R427).
DEDUCED: log 53. -/
def execPortTraining (port : Port) (q0 q1 : LaneQuality) (s : State) : Out :=
  let two := s.bit (F.LINK_PCFG_LANES port)
  if portOn s && portState s port = 1 && pllLocked s 2 && q0.lock && (!two || q1.lock) then
    let s := setLane port 0 q0 s
    finish (dispatchOn (ifaceOfPort port) (portUp port two (if two then setLane port 1 q1 s else s)))
  else finish s

/-- BLOCK_LOCK (R238). -/
def execBlockLock (port : Port) (lane : Fin 2) (s : State) : Out :=
  if portOn s && pllLocked s 2 && s.bit (F.LINK_PCFG_EN port) && laneCfg s port lane && portState s port ≠ 3 then
    finish ((s.setFld (F.LINK_LANE_LOCK port lane) 1).setFld (F.LINK_LANE_SQUELCH port lane) 0)
  else finish s

/-- Event 8 or 9 of a port. -/
def portEvent (p : Port) (info : Nat) (s : State) : State := raiseTo (8 + p.val) info (s.ctxsOn (ifaceOfPort p)) s

/-- TRAINING_FAILURE: lane 0 alone, with what training found on it, under LANE_FB, or event 8 or 9 and WAIT (R240).
DEDUCED: log 53. -/
def execTrainingFailure (port : Port) (lane : Fin 2) (q0 : LaneQuality) (s : State) : Out :=
  if !portOn s || portState s port ≠ 1 || !laneCfg s port lane || s.bit (F.LINK_LANE_LOCK port lane) then finish s
  else if lane = 1 ∧ s.bit (F.LINK_PCFG_LANE_FB port) ∧ s.bit (F.LINK_LANE_LOCK port 0) then
    finish (dispatchOn (ifaceOfPort port) (portUp port false (setLane port 0 q0 s)))
  else finish ((portEvent port 1 s).setFld (F.LINK_PSTAT_STATE port) 4)

/-- TRAINING_WAIT_EXPIRY. -/
def execTrainingWaitExpiry (port : Port) (s : State) : Out :=
  if portOn s && portState s port = 4 then finish (startTraining port s) else finish s

/-- R255: an ADAPT asks for retraining, with READY = 0, and training restarts. DEDUCED: log 53. -/
def loseLock (p : Port) (evt : Bool) (s : State) : State :=
  let s := s.when evt (portEvent p 2)
  let s := (s.inc (F.LINK_LOCK_LOCK_LOSS p)).setFld (F.LINK_PSTAT_STATE p) 1
  thenSend p (startTraining p) (sendAdapt p (s.updPort p fun q => { q with adapt := true, retrainReq := true }))

/-- LOCK_LOSS (R238, R255). -/
def execLockLoss (port : Port) (lane : Fin 2) (s : State) : Out :=
  if !portOn s then finish s
  else if portState s port = 2 then
    finish (if s.bit (F.LINK_LANE_USED port lane) then loseLock port true s else s.setFld (F.LINK_LANE_LOCK port lane) 0)
  else if portState s port = 1 ∨ portState s port = 4 then finish (s.setFld (F.LINK_LANE_LOCK port lane) 0)
  else finish s

/-- HOST_RETRAIN_REQUEST (R256). -/
def execHostRetrainRequest (port : Port) (s : State) : Out :=
  if portOn s && portState s port = 2 then finish (loseLock port false s) else finish s

/-- Lock and squelch of the used lanes. -/
def usedLanes (p : Port) (idle : Bool) (s : State) : State :=
  s.forEach [0, 1] fun (l : Fin 2) s =>
    if s.bit (F.LINK_LANE_USED p l) then
      (s.setBit (F.LINK_LANE_LOCK p l) !idle).setBit (F.LINK_LANE_SQUELCH p l) idle
    else s

/-- EI: forward idle with FIDLE_EN, else loss of lock (R243). DEDUCED: log 53. -/
def execEi (port : Port) (s : State) : Out :=
  if !portOn s || portState s port ≠ 2 then finish s
  else if s.bit (F.LINK_PCFG_FIDLE_EN port) then finish ((usedLanes port true s).setFld (F.LINK_PSTAT_STATE port) 3)
  else finish (loseLock port true (usedLanes port true s))

/-- TRAINING_BURST (R244). DEDUCED: log 53. -/
def execTrainingBurst (port : Port) (s : State) : Out :=
  if portOn s && portState s port = 3 then finish ((usedLanes port false s).setFld (F.LINK_PSTAT_STATE port) 2)
  else finish s

/-- IDLE_EXIT_FAILURE (R245). -/
def execIdleExitFailure (port : Port) (lane : Fin 2) (s : State) : Out :=
  if portOn s && portState s port = 3 && s.bit (F.LINK_LANE_USED port lane) then
    let s := raiseTo 11 (port.val * 256 + lane.val * 512) (s.ctxsOn (ifaceOfPort port)) s
    finish (startTraining port (s.inc (F.LINK_LOCK_IDLE_FAIL port)))
  else finish s

/-- RETURN_IDLE: the return lane sends an EI block and goes idle (R246). -/
def execReturnIdle (port : Port) (s : State) : Out :=
  let q := s.port[port]
  if portOn s && (portState s port = 2 || portState s port = 3) && s.fld (F.LINK_PCFG_RIDLE port) ≠ 0 && !q.adapt
      && !s.bit (F.LINK_PSTAT_RET_IDLE port)
      && !q.status && pendingOn s (ifaceOfPort port) = 0 then
    finish ((emit port [ctrlBlock [0x55]] s).setBit (F.LINK_PSTAT_RET_IDLE port) true)
  else finish s

/-- FOM from eye width in µUI and eye height in µV (R241). -/
def fomOf (ew eh : Nat) : Nat := min 255 (min (512 * ew / 1000000) (eh / 2000))

/-- FOM: one measurement of a locked lane, and the CTLE setting and taps it has adapted to (R241, R242). -/
def execFom (port : Port) (lane : Fin 2) (ewMicroUi ehMicroV : Nat) (ctle : BitVec 4) (taps : BitVec 30)
    (s : State) : Out :=
  if !portOn s || portState s port ≠ 2 || !s.bit (F.LINK_LANE_LOCK port lane) then finish s
  else
    let f := fomOf ewMicroUi ehMicroV
    let thr := s.fld (F.LINK_PCFG_FOMTHR port)
    let s := (s.setFld (F.LINK_LANE_FOM port lane) f).setFld (F.LINK_LANE_FOM_MIN port lane)
      (min (s.fld (F.LINK_LANE_FOM_MIN port lane)) f)
    let s := (s.setFld (F.LINK_LANE_CTLE port lane) ctle.toNat).setFld (F.LINK_DFE_TAPS port lane) taps.toNat
    let q := s.port[port]
    let low := if f < thr then q.lowCnt[lane] + 1 else 0
    let high := if f ≥ thr + 8 then q.highCnt[lane] + 1 else 0
    let fire := decide (2 ≤ low) && q.fomArmed[lane] && s.bit (F.LINK_LANE_USED port lane)
    let armed := if fire then false else if 2 ≤ high then true else q.fomArmed[lane]
    let s := s.updPort port fun q => { q with lowCnt := q.lowCnt.set lane low, highCnt := q.highCnt.set lane high
                                              fomArmed := q.fomArmed.set lane armed }
    finish (if fire then raiseTo 10 (f + port.val * 256 + lane.val * 512) (s.ctxsOn (ifaceOfPort port)) s else s)

/-- STATUS: sent, behind a pending ADAPT, on a return lane that carries traffic (R251, R252). DEDUCED: log 54. -/
def execStatusBlk (port : Port) (s : State) : Out :=
  if portOn s && laneLive s port then finish (adaptFirst port (sendStatus port) s) else finish s

/-- RETURN_PACKET: the next of ADAPT, STATUS, EVENT, RESPONSE (R252). DEDUCED: log 54. -/
def execReturnPacket (port : Port) (s : State) : Out :=
  let i := ifaceOfPort port
  if !portOn s || portState s port = 0 then finish s
  else if (s.port[port]).adapt then finish (sendAdapt port s)
  else if !laneLive s port then finish s
  else if (s.port[port]).status then finish (sendStatus port s)
  else if pendingOn s i = 0 then finish s
  else finish (dispatchOn i (sendNext i s))

end Sys2Proof.Machine
end

