-- ==== Sys2Proof/Machine/Clocks.lean ====
section
/-! DEFINITION. The oscillator, the PLLs and the clock monitors (R421 to R428), and WAKE (R401, R402, R405). -/

namespace Sys2Proof.Machine

/-! ### WAKE -/

/-- A wake source starts WAKE (R401, R430): 1 WAKE_N, 2 mooring address match. -/
def startWake (cause : Nat) (s : State) : State :=
  let s := dieReset false .wake { s with pwr := { s.pwr with wakeAt := s.now, logicOps := [] } }
  (s.setFld F.AON_MODE_WAKE_CAUSE cause).setFld F.SYS_RSTCAUSE_LAST 1

/-- WAKE_N has been low for `lowNs`: from 10 µs it wakes, below 3 µs never, between the two it is open (R463).
DESIGN CHOICE: log 59. -/
def execWakeN (lowNs : Nat) (s : State) : Out :=
  if s.mode == .sleep && s.bit F.AON_WAKECFG_WAKEN_EN && decide (3000 ≤ lowNs) then
    if 10000 ≤ lowNs then finish (startWake 1 s)
    else
      let (f, s) := s.draw
      finish (if f.getLsbD 0 then startWake 1 s else s)
  else finish s

/-- Does the clock part of WAKE run: the logic rails are on (R421, R430)? -/
def clockPart (s : State) : Bool := s.mode == .wake && s.pwr.railsUp = 8 && !s.pwr.inReset

/-- A failed WAKE: the rails go off and the device returns to SLEEP (R402). DEDUCED: log 61. -/
def failedWake (s : State) : State := logicOff s.pwr.railsUp (dieReset false .sleep s)

/-- Whole milliseconds since the wake request, saturating. DEDUCED: log 61. -/
def sinceWake (s : State) : Nat := min 65535 ((s.now - s.pwr.wakeAt) / 100000)

/-- The end of WAKE: CLAMP groups are released, LATCH groups stay held, and BOOT follows (R402, R405).
DEDUCED: log 61. -/
def wakeDone (s : State) : State :=
  let s : State := { s with stk := { s.stk with powered := true } }
  let s := s.setFld F.PWR_FIRST_WAKE_MS (sinceWake s)
  { s with pwr := { s.pwr with mode := .boot, bootDue := true, clamped := false } }

/-- XTAL_GOOD (R421). -/
def execXtalGood (s : State) : Out := finish (if clockPart s then s.setBit F.CLK_STAT_XTAL_OK true else s)

/-- XTAL_TIMEOUT: XTAL is not judged good 8.0 ms after its start. -/
def execXtalTimeout (s : State) : Out :=
  finish (if clockPart s && !s.bit F.CLK_STAT_XTAL_OK then failedWake (raiseAll 62 3 s) else s)

/-- PLL_LOCK: the locked loops 2.0 ms after their start; one that is not locked ends WAKE with event 63.
DEDUCED: log 61. -/
def execPllLock (locked : BitVec 7) (s : State) : Out :=
  if clockPart s && s.bit F.CLK_STAT_XTAL_OK then
    let s := s.setFld F.CLK_STAT_LOCK locked.toNat
    let bad := (List.range 7).filter fun i => !locked.getLsbD i
    finish (if bad.isEmpty then wakeDone s else failedWake (s.forEach bad fun i s => raiseAll 63 i s))
  else finish s

/-- PAD_RELEASE_TIMEOUT: 100 ms after the end of WAKE (R405). -/
def execPadReleaseTimeout (s : State) : Out :=
  let m := s.fld F.AON_PADCFG_HELD
  finish (if s.mode.dieOn && m ≠ 0 then raiseAll 53 m s else s)

/-! ### XTAL (R422, R427) -/

/-- XTAL_AMPLITUDE_CHECK: every 1 ms; event 62 once below XLOW, armed again from XLOW + 50 mV. -/
def execXtalAmplitudeCheck (amp : Byte) (s : State) : Out :=
  if !s.mode.dieOn || s.pwr.inReset then finish s
  else
    let s := s.setFld F.CLK_MON_XAMP amp.toNat
    let low := s.fld F.CLK_MON_XLOW
    let arm (v : Bool) (s : State) : State := { s with clk := { s.clk with ampArmed := v } }
    if amp.toNat < low ∧ s.clk.ampArmed then finish (raiseAll 62 1 (arm false s))
    else if low + 5 ≤ amp.toNat then finish (arm true s)
    else finish s

def pllIx : Pll → Nat
  | .sysA => 0 | .sysB => 1 | .lane => 2 | .tlA => 3 | .tlB => 4 | .slot => 5 | .safe => 6

def setLock (i : Nat) (v : Bool) (s : State) : State := s.setBit ⟨0x10000, i, 1⟩ v
def setHeld (i : Nat) (v : Bool) (s : State) : State := s.setBit ⟨0x10000, 8 + i, 1⟩ v

/-- XTAL_STOPPED: every locked loop that XTAL feeds enters holdover. -/
def execXtalStopped (s : State) : Out :=
  if !s.mode.dieOn || s.pwr.inReset || s.bit F.CLK_STAT_XTAL_STOP then finish s
  else
    let s := (s.setBit F.CLK_STAT_XTAL_STOP true).setBit F.CLK_STAT_XTAL_OK false
    let s := raiseAll 62 2 { s with clk := { s.clk with relock := 0 } }
    finish (s.forEach ((List.range 6).filter (pllLocked s)) fun i s => raiseAll 63 (i + 16) (setHeld i true s))

/-- XTAL_JUDGED_GOOD_AGAIN: the loops in holdover relock at guard windows. DEDUCED: log 64. -/
def execXtalJudgedGoodAgain (s : State) : Out :=
  if s.bit F.CLK_STAT_XTAL_STOP && s.mode.dieOn && !s.pwr.inReset then
    let s := (s.setBit F.CLK_STAT_XTAL_STOP false).setBit F.CLK_STAT_XTAL_OK true
    finish { s with clk := { s.clk with relock := BitVec.ofNat 7 (s.fld F.CLK_STAT_HOLDOVER) } }
  else finish s

/-- What a guard window relocks: the lowest loop that waits, SYSPLL-A and SYSPLL-B together; a relocked SLOTPLL takes
over (R427). DEDUCED: log 64. -/
def relockWindow (s : State) : State :=
  let s := if s.clk.slotBack then
      ({ s with clk := { s.clk with slotBack := false } } : State).setBit F.CLK_STAT_SEQ_SRC false
    else s
  match (List.range 6).find? fun i => s.clk.relock.getLsbD i with
  | none => s
  | some i =>
    let s := setHeld i false s
    let s := if i = 0 then setHeld 1 false s else s
    let m : BitVec 7 := BitVec.ofNat 7 (if i = 0 then 3 else 2 ^ i)
    { s with clk := { s.clk with relock := s.clk.relock &&& ~~~m } }

/-! ### PLL faults (R427) -/

/-- A side's clocks run while both its loops are locked. DEDUCED: log 65. -/
def gateSides (s : State) : State :=
  s.forEach sides fun e s =>
    let bad := !pllLocked s (sideIx e) || !pllLocked s (3 + sideIx e)
    s.updEng e fun g => { g with gated := bad }

/-- The common domain leaves a SYSPLL that is not locked, and serves from SYSPLL-A when it is. DEDUCED: log 65. -/
def commonSource (s : State) : State :=
  if pllLocked s 0 then s.setFld F.CLK_STAT_SYS_SRC 0
  else if pllLocked s 1 then s.setFld F.CLK_STAT_SYS_SRC 1
  else s

/-- SEQCLK and the slot clock leave a SLOTPLL that is not locked once a SYSPLL is: a stopped clock is never selected
(R426). Modulation of the SYSPLLs is suspended while they serve SEQCLK (R424). -/
def seqSource (s : State) : State :=
  if pllLocked s 5 || s.bit F.CLK_STAT_SEQ_SRC || !(pllLocked s 0 || pllLocked s 1) then s
  else ({ s with clk := { s.clk with sscInForce := s.clk.sscInForce &&& ~~~0x80 } } : State).setBit F.CLK_STAT_SEQ_SRC true

/-- A port whose lane clock is lost (R427, R255): event 8 or 9 with cause 0x3. DEDUCED: log 66. -/
def laneClockLost (p : Port) (s : State) : State :=
  if portState s p = 2 || portState s p = 3 then loseLock p false (portEvent p 3 s) else s

/-- PLL_UNLOCK (R427). R441 numbers no cause of event 38 for SAFEPLL: the field is 0 (R17). DEDUCED: log 65, 66. -/
def execPllUnlock (pll : Pll) (s : State) : Out :=
  let i := pllIx pll
  if !s.mode.dieOn || s.pwr.inReset || !pllLocked s i then finish s
  else
    let s := setHeld i false (setLock i false s)
    let s : State := { s with clk := { s.clk with relock := s.clk.relock &&& ~~~ BitVec.ofNat 7 (2 ^ i) } }
    let s := (s.inc F.CLK_EVT_UNLOCK_CNT).setFld F.CLK_EVT_LAST_PLL i
    match pll with
    | .sysA => finishCut (commonSource (gateSides (raiseAll 63 i s)))
    | .sysB => finishCut (commonSource (gateSides (raiseAll 63 i s)))
    | .tlA => finishCut (gateSides (raiseAll 63 i s))
    | .tlB => finishCut (gateSides (raiseAll 63 i s))
    | .lane => finish (s.forEach [0, 1] laneClockLost |> raiseAll 63 i)
    | .slot =>
      finish (raiseAll 63 i (seqSource { s with clk := { s.clk with slotBack := false } }))
    | .safe => finish (coreFault 0 s)

/-- RELOCK_ATTEMPT (R427). DEDUCED: log 65. -/
def execRelockAttempt (pll : Pll) (ok : Bool) (s : State) : Out :=
  let i := pllIx pll
  if !s.mode.dieOn || s.pwr.inReset || pllLocked s i || !ok then finish s
  else
    let s := setLock i true s
    match pll with
    | .slot => finish { s with clk := { s.clk with slotBack := true } }
    | .sysA => finishCut (afterRelock (seqSource (commonSource (gateSides s))))
    | .sysB => finishCut (afterRelock (seqSource (commonSource (gateSides s))))
    | .tlA => finishCut (afterRelock (gateSides s))
    | .tlB => finishCut (afterRelock (gateSides s))
    | _ => finish s

def muxCode : ClockMux → Nat
  | .common => 1 | .seqclk => 2 | .slotRef => 3 | .clkout => 4 | .wakeBypass => 5

/-- Does the clock that a multiplexer switches to run: its loop is locked, or XTAL has been judged good (R426)? -/
def newClockRuns (s : State) : ClockMux → Bool
  | .common => pllLocked s (s.fld F.CLK_STAT_SYS_SRC)
  | .seqclk => if s.bit F.CLK_STAT_SEQ_SRC then pllLocked s 0 || pllLocked s 1 else pllLocked s 5
  | .slotRef => if s.bit F.CLK_STAT_SEQ_SRC then pllLocked s 0 || pllLocked s 1 else pllLocked s 5
  | .clkout => match s.fld F.CLK_OUT_SRC with
    | 1 => s.bit F.CLK_STAT_XTAL_OK
    | 2 => pllLocked s (s.fld F.CLK_STAT_SYS_SRC)
    | 3 => if s.bit F.CLK_STAT_SEQ_SRC then pllLocked s 0 || pllLocked s 1 else pllLocked s 5
    | 4 => if s.bit F.CLK_STAT_SEQ_SRC then pllLocked s 0 || pllLocked s 1 else pllLocked s 5
    | 5 => !s.safe.oscStop
    | _ => true
  | .wakeBypass => s.bit F.CLK_STAT_XTAL_OK || s.fld F.CLK_STAT_LOCK ≠ 0

/-- CLOCK_SWITCH: a switch is forced when the old clock gives no edges, and none starts to a stopped clock (R426). A tick
due during a forced switch of SEQCLK falls up to 1.0 µs late (R427). DESIGN CHOICE: log 67. -/
def execClockSwitch (mux : ClockMux) (oldEdges : Bool) (s : State) : Out :=
  if oldEdges || s.mode == .off || s.mode == .sleep || !newClockRuns s mux then finish s
  else
    let s := (s.inc F.CLK_EVT_FORCED_CNT).setFld F.CLK_EVT_LAST_MUX (muxCode mux)
    let s := raiseAll 61 (muxCode mux) s
    if mux = .seqclk ∧ s.seq.running ∧ s.seq.due ≤ (s.now + 100) * 256 then
      let (f, s) := s.draw
      finish { s with seq := { s.seq with due := s.seq.due + f.toNat % 25601 } }
    else finish s

/-! ### SAFEOSC (R428) -/

/-- CLOCK_MONITOR: one 1 ms window; `dev` in 0.01 %. -/
def execClockMonitor (dev : Int) (s : State) : Out :=
  if !safetyRuns s then finish s
  else
    let s := s.setFldI F.CLK_MON_SAFE_DEV (max (-32768) (min 32767 dev))
    let n := if 500 < dev.natAbs then min 2 (s.safe.devBad + 1) else 0
    let first := n = 2 ∧ s.safe.devBad < 2
    let s : State := { s with safe := { s.safe with devBad := n } }
    finishCut (if first then coreDead s else s)

/-- SAFEOSC_STOP: no edge for 20 µs; the detector latches. -/
def execSafeoscStop (s : State) : Out :=
  if !safetyRuns s || s.safe.oscStop then finish s
  else finishCut (coreDead { s with safe := { s.safe with oscStop := true } })

end Sys2Proof.Machine
end

