-- ==== Sys2Proof/Machine/Thermal.lean ====
section
/-! DEFINITION. The thermal model, throttling, the thermal stop and the temperature sensors (R383 to R389). Nodes stand
in 1/1,024 °C, sensor readings in 0.1 °C, times in 1/256 of 10 ns. -/

namespace Sys2Proof.Machine

/-! ### Heat (R383) -/

/-- A LINEAR11 reading in A as numerator and denominator (R107). -/
def linear11 (w : Half) : Int × Nat :=
  let e := signed 5 (w.toNat / 2048)
  let m := signed 11 w.toNat
  if 0 ≤ e then (m * 2 ^ e.toNat, 1) else (m, 2 ^ (-e).toNat)

/-- Share of its regulator's current that zone `z` takes, as numerator and denominator: all of it, or in a
crossed-over pair in proportion to the displayed ZSUM; with both ZSUM zero the share is open.
DESIGN CHOICE: log 34. -/
def currentShare (s : State) (z : Zone) : Nat × Nat :=
  let p := partner z
  if !(isCrossed s z || isCrossed s p) then (1, 1)
  else
    let x := (s.safe.shown[z]).zsum
    let y := (s.safe.shown[p]).zsum
    if x + y ≠ 0 then (x, x + y)
    else
      let f := (Config.free (s.free + z.val / 2)).toNat % 65537
      (if z.val % 2 = 0 then f else 65536 - f, 65536)

/-- P_h,z in mW, halves up (R383, R384). DESIGN CHOICE: log 35. -/
def heatOf (s : State) (z : Zone) : Int :=
  if !srcEnabled s z then 0
  else
    let (m, d) := linear11 s.rail.z[feeder s z].iout
    let (x, y) := currentShare s z
    divRound (s.fld F.THRM_MODEL2_HEATF * 20 * s.fld (F.RAIL_ZREQ_VERIFIED z) * x * m) (256 * d * y)

/-! ### The model (R384) -/

/-- Neighbours of a zone in the 4 × 4 grid. -/
def gridNeighbours (z : Zone) : List Zone :=
  allZones.filter fun m =>
    (m.val / 4 = z.val / 4 && (m.val % 4 + 1 = z.val % 4 || z.val % 4 + 1 = m.val % 4))
      || (m.val % 4 = z.val % 4 && (m.val / 4 + 1 = z.val / 4 || z.val / 4 + 1 = m.val / 4))

/-- A value in a signed 32-bit node. -/
def node32 (x : Int) : Int := signed 32 (x.emod (2 ^ 32)).toNat

/-- T_pad in 1/1,024 °C, to the nearest. DESIGN CHOICE: log 35. -/
def padNode (s : State) : Int := divAway (s.fldI F.THRM_TEMP_PAD * 1024) 10

/-- One of the `n` steps of an advance over `dt`, with the heats `ph`. DESIGN CHOICE: log 35. -/
def thermStep (dt n : Nat) (ph : Zone → Int) (s : State) : State :=
  let rjb := s.fld F.THRM_MODEL0_R_JB
  let rbp := s.fld F.THRM_MODEL0_R_BP
  let rl := s.fld F.THRM_MODEL2_R_LAT
  let cj := s.fld F.THRM_MODEL1_C_J
  let cb := s.fld F.THRM_MODEL1_C_B
  let tp := padNode s
  let tj (z : Zone) : Int :=
    let d := s.therm.tj[z] - s.therm.tb[z]
    node32 (s.therm.tj[z] + divAway (dt * (1024 * rjb * ph z - 100000 * d)) (256000000 * n * cj * rjb))
  let tb (z : Zone) : Int :=
    let d := s.therm.tj[z] - s.therm.tb[z]
    let lat := ((gridNeighbours z).map fun m => s.therm.tb[z] - s.therm.tb[m]).sum
    node32 (s.therm.tb[z] + divAway (dt * (d * rbp * rl - (s.therm.tb[z] - tp) * rjb * rl - lat * rjb * rbp))
      (2560 * n * cb * rjb * rbp * rl))
  { s with therm := { s.therm with tj := Vector.ofFn tj, tb := Vector.ofFn tb } }

/-- A node in 0.1 °C, halves upwards (R387). -/
def tenths (t : Int) : Int := (20 * t + 1024).fdiv 2048

/-- One advance over `dt` (R384): HEAT and TB show it. DESIGN CHOICE: log 35. DEDUCED: log 36. -/
def thermAdvance (dt : Nat) (s : State) : State :=
  let hs : Vector Int 16 := Vector.ofFn (heatOf s)
  let s : State := { s with free := s.free + 8 }
  let n := ceilDiv dt 25600000
  let s := (List.range n).foldl (fun s _ => thermStep dt n (fun z => hs[z]) s) s
  s.forEach allZones fun z s =>
    (s.setFld (F.THRM_ZB_HEAT z) (min hs[z].toNat 65535)).setFldI (F.THRM_ZB_TB z) (tenths s.therm.tb[z])

/-! ### Throttle and stop (R387 to R389) -/

/-- s_z for a junction of `t10` tenths (R387). -/
def scaleOf (s : State) (t10 : Int) : Nat :=
  let d := t10 - 10 * s.fld F.THRM_CTRL_T_THR
  if d ≤ 0 then 65535 else max 16384 (65535 - 65535 * s.fld F.THRM_CTRL_KTH * d.toNat / 10000)

/-- A thermal stop takes effect: requests withdrawn, targets 6.00 V, DARK, a running MODE_REQ or CAL_ZONE ended
(R388, R379). DEDUCED: log 37. -/
def thermalDark (s : State) : State :=
  let s : State := { s with therm := { s.therm with stopDue := false } }
  if s.mode == .safeDark || s.mode == .boot || !s.mode.dieOn then s
  else
    let zoneCal := s.bit F.CAL_STAT_RUNNING && s.cal.zone.isSome
    let s := abandonCal s
    let s := if zoneCal then preemptLong s else s
    if s.mode == .dark then railsDark (endModeReq .modeReject s) else ownChange .dark 6 s

/-- A thermal stop is decided (R388). DEDUCED: log 37. -/
def thermalStop (cause z : Nat) (s : State) : State :=
  let s := ((s.setBit F.THRM_STAT_THERM_STOP true).setFld F.THRM_STAT_STOP_CAUSE cause).setFld F.THRM_STAT_STOP_ZONE z
  let s := raiseAll 57 (cause * 65536 + z) s
  if s.seq.running then { s with therm := { s.therm with stopDue := true } } else thermalDark s

/-- The junction limit, or the end of a stop (R388, R389). DEDUCED: log 37. -/
def thermJudge (s : State) : State :=
  if s.bit F.THRM_STAT_THERM_STOP then
    let cool := allZones.all fun z => decide (tenths s.therm.tj[z] < 1200)
    if cool && (s.bit F.THRM_STAT_DIE_FAIL || decide (s.fldI F.THRM_TEMP_DIE < 1200)) then
      raiseAll 57 0 (((s.setBit F.THRM_STAT_THERM_STOP false).setFld F.THRM_STAT_STOP_CAUSE 0).setFld
        F.THRM_STAT_STOP_ZONE 0)
    else s
  else match allZones.find? fun z => decide (1500 ≤ tenths s.therm.tj[z]) with
    | some z => thermalStop 1 z.val s
    | none => s

/-- The latch edge (R385, R387): TJ and SCALE, event 56 when throttling begins, and the judgement of R388.
DEDUCED: log 36. -/
def thermLatch (s : State) : State :=
  let was := s.fld F.THRM_STAT_THR_ZONES
  let s := s.forEach allZones fun z s =>
    let t := tenths s.therm.tj[z]
    let k := scaleOf s t
    let s : State := { s with ffn := { s.ffn with scale := s.ffn.scale.set z k } }
    (s.setFldI (F.THRM_ZT_TJ z) t).setFld (F.THRM_ZT_SCALE z) k
  let now := zmask fun z => decide (s.ffn.scale[z] < 65535)
  let s := s.setFld F.THRM_STAT_THR_ZONES now
  thermJudge (if was = 0 ∧ now ≠ 0 then raiseAll 56 (65536 + now) s else s)

/-- THERMAL_ADVANCE: every 1 ms while the sequencer is stopped (R384). DEDUCED: log 36. -/
def execThermalAdvance (s : State) : Out :=
  if s.mode.dieOn && !s.pwr.inReset && !s.seq.running then finish (thermJudge (thermAdvance 25600000 s)) else finish s

/-! ### Sensors (R386) -/

/-- A pad reading. -/
def padRead (pad : Int) (s : State) : State :=
  let t := s.therm
  let good := decide (-550 ≤ pad) && decide (pad ≤ 1500) && decide ((pad - t.padPrev).natAbs ≤ 100)
  if good then
    let s : State := { s with therm := { t with padGood := pad, padPrev := pad
                                                padRun := if s.bit F.THRM_STAT_PAD_FAIL then t.padRun + 1 else 0 } }
    let s := if s.therm.padRun ≥ 1000 then s.setBit F.THRM_STAT_PAD_FAIL false else s
    s.setFldI F.THRM_TEMP_PAD pad
  else
    let s : State := { s with therm := { t with padPrev := pad, padRun := 0 } }
    let s := s.setFldI F.THRM_TEMP_PAD (max t.padGood (10 * (s.fld F.THRM_CTRL_PAD_FB : Int)))
    if s.bit F.THRM_STAT_PAD_FAIL then s
    else raiseAll 56 (2 * 65536 + s.fld F.THRM_STAT_THR_ZONES) (s.setBit F.THRM_STAT_PAD_FAIL true)

/-- A die reading; a valid one of 125.0 °C or more stops, unless DIE_FAIL is set (R388). -/
def dieRead (die : Int) (s : State) : State :=
  let t := s.therm
  let s := s.setFldI F.THRM_TEMP_DIE die
  if decide (-550 ≤ die) && decide (die ≤ 1750) then
    let s : State := { s with therm := { t with dieValid := true
                                                dieRun := if s.bit F.THRM_STAT_DIE_FAIL then t.dieRun + 1 else 0 } }
    let s := if s.therm.dieRun ≥ 1000 then s.setBit F.THRM_STAT_DIE_FAIL false else s
    if 1250 ≤ die && !s.bit F.THRM_STAT_DIE_FAIL && !s.bit F.THRM_STAT_THERM_STOP then thermalStop 2 0 s else s
  else
    let s : State := { s with therm := { t with dieValid := false, dieRun := 0 } }
    if s.bit F.THRM_STAT_DIE_FAIL then s
    else raiseAll 56 (3 * 65536 + s.fld F.THRM_STAT_THR_ZONES) (s.setBit F.THRM_STAT_DIE_FAIL true)

/-- SENSOR_READ (R386). What the running LONG command has done on the store was done under the reading before. -/
def execSensorRead (pad die : Int) (s : State) : Out :=
  if s.mode.dieOn && !s.pwr.inReset then finish (dieRead die (padRead pad (advanceJob s))) else finish s

end Sys2Proof.Machine
end

