-- ==== Sys2Proof/Machine/Boot.lean ====
section
/-! DEFINITION. BOOT (R406): restored lock-outs (R400), straps (R326), the safety configuration block (R328, R329), the
firmware (R407, R408), nonce and LOCK_SEQ (R263, R339), the images, and the end of BOOT with its raises (R440). -/

namespace Sys2Proof.Machine

/-! ### Lock-outs that the always-on domain kept -/

/-- A restored zone lock-out (R400, R337): recorded, with no cause but 0xE; its event waits for the end of BOOT. -/
def restoreZone (z : Zone) (s : State) : State :=
  let s := lockRecord false z.val 14 s
  s.setFld F.SAFE_ZONES_ZLOCK (s.fld F.SAFE_ZONES_ZLOCK ||| 2 ^ z.val)

/-- A restored device lock-out of cause DEV_CAUSE. -/
def restoreDevice (cause : Nat) (s : State) : State :=
  ((lockRecord true 0 cause s).setFld F.SAFE_LOCK_DEV_CAUSE cause).setBit F.SAFE_STAT_DEV_LOCK true

/-- Restore the lock-outs of AON_MODE, the device's first; events 33 and 32 to raise at the end of BOOT.
DEDUCED: log 68. -/
def restoreLocks (s : State) : List (Nat × Nat) × State :=
  let dev := s.bit F.AON_MODE_LOCKED
  let cause := s.fld F.AON_MODE_DEV_CAUSE
  let zl := s.fld F.AON_MODE_ZLOCK
  let s := s.setBit F.SAFE_STAT_DEV_LOCK false
  let s := (s.setFld F.SAFE_LOCK_DEV_CAUSE 0).setFld F.SAFE_ZONES_ZLOCK 0
  let (r, s) := s.draw
  let s := s.setFld F.SAFE_LOCK_LOCK_SEQ (r.toNat % 65536)
  let s := if dev then restoreDevice cause s else s
  let e33 := if dev then [(33, cause * 256 + s.fld F.SAFE_LOCK_LOCK_SEQ * 65536)] else []
  let zs := allZones.filter fun z => maskBit zl z
  let s := s.forEach zs restoreZone
  (e33 ++ zs.map (fun z => (32, z.val + 14 * 256)), if dev || !zs.isEmpty then s.setBit F.PWR_BOOTSTAT_RESTORED true else s)

/-! ### Straps and configuration -/

/-- The strap word in force (R326). -/
def loadStraps (w : Half) (s : State) : State :=
  let n := w.toNat
  let s := (s.setFld F.SAFE_STRAP_BOOT n).setFld F.SAFE_STRAP_LAST n
  let s := (s.setFld F.SAFE_INH_POL_SWAP (bitsOf n 0 0)).setFld F.SAFE_OPT_EN (bitsOf n 1 1)
  let s := s.setFld F.SAFE_INH_TD_CODE (bitsOf n 5 2)
  s.setBit F.SAFE_STAT_ARCH_LEGACY (bitsOf n 7 6 = 1)

/-- Load register `a` under `mask`. -/
def loadReg (a : Nat) (mask v : Word) (s : State) : State := s.setReg a ((s.reg a &&& ~~~mask) ||| (v &&& mask))

/-- A 32-bit word of the block. -/
def cfgWord (bs : List Byte) (o : Nat) : Word := BitVec.ofNat 32 (leAt bs o 4)

/-- Context entries of R328. -/
def loadCtx (bs : List Byte) (s : State) : State :=
  s.forEach allCtx fun c s =>
    let o := 0x10 + 16 * c.val
    let s := s.setFld ⟨0x40000, 3 * c.val, 3⟩ (leAt bs o 1)
    let s := s.setFld (F.HCTX_PERM_PERM c) (leAt bs (o + 1) 1)
    let s := s.setFld (F.BRTH_QUOTA_GRAN_QUOTA c) (leAt bs (o + 2) 2)
    let s := s.setFld (F.BRTH_BCNT_BERTH_QUOTA c) (leAt bs (o + 4) 1)
    loadReg (0x40044 + 0x20 * c.val) 0x3FFFFF (cfgWord bs (o + 8)) s

/-- Layer pins, zone map, ports and CAN FD of R328. -/
def loadPorts (bs : List Byte) (s : State) : State :=
  let s := s.forEach [0, 1] fun i s => loadReg (0x70018 + 4 * i) 0xFFFFFFFF (cfgWord bs (0x50 + 4 * i)) s
  let s := s.forEach (List.range 16) fun z s => loadReg (0x140040 + 4 * z) 0x1FF7F (cfgWord bs (0x60 + 4 * z)) s
  let s := s.forEach [0, 1] fun p s => loadReg (0x50000 + 0x100 * p) 0xF9 (cfgWord bs (0xA0 + 4 * p)) s
  let s := loadReg 0x60000 5 (cfgWord bs 0xA8) s
  let s := s.forEach [0, 1, 2] fun i s => loadReg (0x6000C + 4 * i) 0x1FFFFFFF (cfgWord bs (0xAC + 4 * i)) s
  { s with can := { s.can with ctrl := s.reg 0x60000 } }

/-- Zone limits, glare windows, masks, keys and flags of R328. -/
def loadSafety (bs : List Byte) (s : State) : State :=
  let s := s.forEach (List.range 16) fun z s => s.setFld (F.SAFE_ZLIM_LIM z) (leAt bs (0xC0 + 4 * z) 4)
  let s := s.forEach (List.range 4) fun w s =>
    let o := 0x100 + 12 * w
    let s := (s.setFld (F.SAFE_GWX_X0 w) (leAt bs o 2)).setFld (F.SAFE_GWX_X1 w) (leAt bs (o + 2) 2)
    let s := (s.setFld (F.SAFE_GWY_Y0 w) (leAt bs (o + 4) 2)).setFld (F.SAFE_GWY_Y1 w) (leAt bs (o + 6) 2)
    s.setFld (F.SAFE_GWLIM_LIM w) (leAt bs (o + 8) 3)
  let s := (s.setFld F.SAFE_CFG_LL_ZMASK (leAt bs 0x130 2)).setFld F.SAFE_CFG_FB_ZMASK (leAt bs 0x132 2)
  let s := s.setFld F.SAFE_GW_GW_EN (leAt bs 0x134 1)
  { s with safe := { s.safe with
      sealByte := byteAt bs 6, cfgFlags := byteAt bs 7, cfgBad := false
      molKeys := (List.range 4).map fun i => (leAt bs (0x140 + 64 * i) 32, leAt bs (0x160 + 64 * i) 32) } }

/-- The block of the valid SAFECFG bank, if it passes (R329); one that CFG_RECOVER has written takes effect only after
all supplies have been absent (R415). DEDUCED: log 81. -/
def bootConfig (s : State) : Option (List Byte) :=
  match newestRec ((goodRecs s 3).filter fun r => !s.store.cfgSkip.contains r.gen) with
  | none => none
  | some r => match recContent s 3 r with
    | some bs => if cfgCheck bs = 0 then some bs else none
    | none => none

/-- Event 36 waits for the end of BOOT beside the lock-out of cause 0x3 (R326). DEDUCED: log 69. -/
def strapFault (w : Half) (s : State) : State :=
  deviceRecord 3 { s with safe := { s.safe with ev36 := some w } }

/-- Step 4 of R406: straps, then the configuration block. With a block that fails no context is bound.
DEDUCED: log 68, 69. -/
def safetyStart (w : Half) (s : State) : State :=
  let s := loadStraps w s
  let arch := bitsOf w.toNat 7 6
  let s := if 2 ≤ arch then strapFault w s else s
  match bootConfig s with
  | none => deviceRecord 9 { s with safe := { s.safe with cfgBad := true } }
  | some bs =>
    let s := loadSafety bs s
    if arch < 2 && bitsOf w.toNat 15 8 ≠ (byteAt bs 6).toNat then strapFault w s else s

/-! ### Units, images and the nonce -/

/-- Harbourmaster RAM BIST (R299, R407). -/
def bootHms (okA okB : Bool) (s : State) : State :=
  let role (ok other : Bool) (first : Bool) : Role :=
    if !ok then .failed else if first || !other then .active else .standby
  let s : State := { s with dplx := { s.dplx with hmA := role okA okB true, hmB := role okB okA false } }
  s.setBit F.DPLX_STAT_ACT_HM (!okA && okB)

/-- The nonce of R263. -/
def drawNonce (s : State) : State :=
  let (x, s) := s.draw
  let (y, s) := s.draw
  (s.setReg 0x40008 x).setReg 0x4000C y

/-- Ports with EN start training (R239). -/
def startPorts (s : State) : State :=
  s.forEach [0, 1] fun (p : Port) s => if s.bit (F.LINK_PCFG_EN p) then startTraining p s else s

/-- Engine BIST and cold start (R169, R407). DEDUCED: log 72. -/
def bootEngine (e : Side) (ok : Bool) (s : State) : State :=
  let s := s.updEng e fun g => { g with powered := true, role := if ok then .offline else .failed }
  if ok then coldStart e s else clearEngine e s

/-- Roles at the end of BOOT (R298). DEDUCED: log 72. -/
def bootRoles (s : State) : State :=
  let has (e : Side) : Bool := (s.eng e).role != .failed && (s.eng e).imgValid
  let s' := if has .a then (s.setRole .a .active).when (has .b) (State.setRole .b .standby)
    else s.when (has .b) (State.setRole .b .active)
  let b := !has .a && has .b
  (({ s' with tl := { s'.tl with selB := b } } : State).setBit F.DPLX_STAT_ACT_ENG b).setBit F.PWR_BOOTSTAT_MOL_BAD
    (!(match validContent s 1 with | some bs => imageCheck s bs == 0 | none => false))

/-- Both nodes of every zone start at the higher of T_pad and T_die (R385). DEDUCED: log 71. -/
def bootThermal (pad die : Int) (s : State) : State :=
  let s : State := { s with therm := { s.therm with padPrev := pad } }
  let s := dieRead die (padRead pad s)
  let t := divAway (max (s.fldI F.THRM_TEMP_PAD) (s.fldI F.THRM_TEMP_DIE) * 1024) 10
  { s with therm := { s.therm with tj := .replicate 16 t, tb := .replicate 16 t } }

/-! ### The end of BOOT -/

/-- Every bit of AON_EVTLATCH.LATCHED raises its event once (R440). -/
def replayLatched (s : State) : State :=
  let m := s.fld F.AON_EVTLATCH_LATCHED
  s.forEach ([14, 33, 53, 54, 55, 61, 62, 63].zipIdx.filter fun e => m.testBit e.2) fun e s =>
    raiseAll e.1 (2 ^ 31 + if e.1 = 54 then 16 + s.fld F.AON_EVTLATCH_RAIL else 0) s

/-- BOOT ends: SAFE-DARK with a device lock-out, else CALIBRATE, which a thermal stop ends at once (R388); then the
raises of R440, and after them those of restored lock-outs and event 36 (R326, R400). DEDUCED: log 68. -/
def bootEnd (restored : List (Nat × Nat)) (s : State) : State :=
  let s := s.setFld F.PWR_BOOTSTAT_BOOT_MS (sinceWake s)
  let s := if s.bit F.SAFE_STAT_DEV_LOCK then preemptAll (enterMode .safeDark 7 s)
    else
      let s := enterCalibrate 1 s
      if s.bit F.THRM_STAT_THERM_STOP then thermalDark s else s
  let s := flushEvents (replayLatched s)
  let s := s.forEach restored fun e s => raiseAll e.1 e.2 s
  let s := match s.safe.ev36 with
    | some w => if s.everyCtx.isEmpty then s else raiseAll 36 w.toNat s
    | none => s
  dispatchEvery { s with safe := { s.safe with ev36 := none } }

/-- Steps 4 to 9 of R406. Without a working harbourmaster or berth memory BOOT does not end (R407); without firmware
the monitor runs (R408), unless a device lock-out ends BOOT in SAFE-DARK. One that AON_MODE holds does so whatever the
checks of BOOT find (R400). LAST of both queues restarts at 0 (R264), the pending events and masks at theirs (R438).
DEDUCED: log 60, 68, 70, 72. -/
def bootRun (env : BootEnv) (s : State) : State :=
  let locked := s.bit F.AON_MODE_LOCKED
  let s := s.forEach allCtx fun c s => s.updCtx c fun k => { k with pend := 0, mask := 0xFFFFFFFFFFFFFFFE }
  let s : State := { s with pwr := { s.pwr with bootDue := false } }
  let s := s.setBit F.PWR_BOOTSTAT_FW_MON false
  let s := s.forEach allCtx fun c s => (s.setFld (F.HCTX_MSEQF_LAST c) 0).setFld (F.HCTX_MSEQM_LAST c) 0
  let s := bootThermal env.pad env.die s
  let (restored, s) := restoreLocks s
  let s := writeAonLocks (safetyStart env.straps s)
  let s := bootHms env.hmAOk env.hmBOk s
  if ((!env.hmAOk && !env.hmBOk) || !env.berthOk) && !locked then s
  else
    let s := match bootConfig s with
      | some bs => loadPorts bs (loadCtx bs s)
      | none => s
    let s := (State.setBit F.TLNK_RTN_RTN0_LOCK true s).setBit F.TLNK_RTN_RTN1_LOCK true
    let s := s.forEach (List.range 6) loadStor
    let fw := match validContent s 0 with | some bs => fwPasses bs | none => false
    if !fw && !s.bit F.SAFE_STAT_DEV_LOCK then startPorts (drawNonce (s.setBit F.PWR_BOOTSTAT_FW_MON true))
    else
      let s := loadUni (loadOptics (drawNonce s))
      let s := bootEngine .b env.beBOk (bootEngine .a env.beAOk s)
      bootEnd restored (startPorts (bootRoles s))

/-- BOOT (R406). DEDUCED: log 60. -/
def execBoot (env : BootEnv) (s : State) : Out :=
  if s.mode == .boot && !s.pwr.inReset && s.pwr.bootDue then finishCut (bootRun env s) else finish s

end Sys2Proof.Machine
end

