-- ==== Sys2Proof/Machine/Duplex.lean ====
section
/-! DEFINITION. Beacons and their monitor (R300 to R302), self-tests, cold starts and resynchronisation of a unit (R309
to R312, R317, R318). -/

namespace Sys2Proof.Machine

/-- Does the duplex logic run? -/
def dplxRuns (s : State) : Bool := s.mode.dieOn && !s.pwr.inReset

/-! ### Beacons (R300, R301) -/

def busPath (u : UnitNo) (f : BeaconPath → BeaconPath) (s : State) : State :=
  { s with dplx := { s.dplx with bus := s.dplx.bus.set (unitIx u) (f s.dplx.bus[unitIx u]) } }

def wirePath (u : UnitNo) (f : BeaconPath → BeaconPath) (s : State) : State :=
  { s with dplx := { s.dplx with wire := s.dplx.wire.set (unitIx u) (f s.dplx.wire[unitIx u]) } }

/-- PATH_FLT of a unit's path. -/
def pathFlt (u : UnitNo) (wire : Bool) : Fld := ⟨0x120008, 2 * (unitIx u).val + wire.toNat, 1⟩

/-- One more beacon of a path: a valid one counts, an invalid one starts the count again. -/
def countBeacon (valid : Bool) (p : BeaconPath) : BeaconPath :=
  if valid then { p with good := min 256 (p.good + 1), missing := false } else { p with good := 0 }

/-- The path's bit clears after 256 consecutive valid beacons. -/
def clearFlt (u : UnitNo) (wire : Bool) (p : BeaconPath) (s : State) : State :=
  if p.good = 256 then s.setBit (pathFlt u wire) false else s

/-- A bus beacon passes its CRC. DEDUCED: log 126. -/
def beaconOk (bytes : List Byte) : Bool := bytes.length = 8 && crc8 (bytes.take 7) = byteAt bytes 7

/-- The standby harbourmaster after three differing pairs: resynchronised, or self-tested if that was within 10 s
(R318). -/
def arbitrateHm (u : UnitNo) (s : State) : State :=
  let soon := match s.dplx.sigAt with | some t => decide (s.now ≤ t + 10 ^ 9) | none => false
  let at_ : Option Nat := if soon then none else some s.now
  let s : State := { s with dplx := { s.dplx with sigDiff := 0, sigAt := at_ } }
  if soon then startTest u .arbStandby s else startResync u s

/-- Both signatures of a beacon pair, those of one COUNT, are there: they are compared while one harbourmaster is
ACTIVE and the other STANDBY. DEDUCED: log 126. -/
def compareSigs (s : State) : State :=
  match s.dplx.sigA, s.dplx.sigB with
  | some x, some y =>
    if x.1 ≠ y.1 then s
    else
    let s : State := { s with dplx := { s.dplx with sigA := none, sigB := none } }
    let pair (p q : Role) : Bool := p == .active && q == .standby
    if !(pair s.dplx.hmA s.dplx.hmB || pair s.dplx.hmB s.dplx.hmA) || x.2 = y.2 then
      { s with dplx := { s.dplx with sigDiff := 0 } }
    else
      let n := s.dplx.sigDiff + 1
      let s : State := { s with dplx := { s.dplx with sigDiff := n } }
      if n = 3 then arbitrateHm (if s.dplx.hmA == .standby then .hmA else .hmB) s else s
  | _, _ => s

/-- A harbourmaster's signature in its beacon of COUNT `n`. -/
def takeSig (u : UnitNo) (n : Byte) (v : Nat) (s : State) : State :=
  match u with
  | .hmA => compareSigs { s with dplx := { s.dplx with sigA := some (n, v) } }
  | .hmB => compareSigs { s with dplx := { s.dplx with sigB := some (n, v) } }
  | _ => s

/-- COUNT follows the previous valid COUNT; the first message has none before it. DEDUCED: log 126. -/
def countFollows (n : Byte) (last : Option Byte) : Bool :=
  match last with
  | some c => n == c + 1
  | none => true

/-- A message on the bus path: valid when its CRC passes and COUNT follows the previous valid COUNT. -/
def busBeacon (u : UnitNo) (bytes : List Byte) (s : State) : State :=
  let n := byteAt bytes 1
  if beaconOk bytes && countFollows n (s.dplx.bus[unitIx u]).last then
    let s := busPath u (fun p => { countBeacon true p with last := some n }) s
    takeSig u n (leAt bytes 2 4) (clearFlt u false s.dplx.bus[unitIx u] s)
  else busPath u (countBeacon false) s

/-- Are the unit's beacons awaited? An engine that is unpowered or FAILED sends none (R166); they count again as soon as
its recovery takes it out of FAILED. DEDUCED: log 127. -/
def beacons (s : State) (u : UnitNo) : Bool :=
  dplxRuns s && (match unitSide u with | some e => (s.eng e).powered && (s.eng e).role != .failed | none => true)

/-- BEACON: a side whose clocks are gated sends none (R427). -/
def execBeacon (u : UnitNo) (k : BeaconRx) (s : State) : Out :=
  if !beacons s u || unitGated s u then finish s
  else match k with
    | .bus bytes => finish (busBeacon u bytes s)
    | .wire sinceUs =>
      let s := wirePath u (countBeacon (decide (50 ≤ sinceUs))) s
      finish (clearFlt u true s.dplx.wire[unitIx u] s)

/-- No valid beacon on a path for 300 µs. -/
def losePath (u : UnitNo) (wire : Bool) (s : State) : State :=
  let lost (p : BeaconPath) : BeaconPath := { p with good := 0, missing := true }
  if wire then wirePath u lost s else busPath u lost s

/-- BEACON_PATH_MISSING: no valid beacon on the path for 300 µs, or with `both` on either path (R301); with both
paths missing the unit has failed (R302). -/
def execBeaconPathMissing (u : UnitNo) (wire both : Bool) (s : State) : Out :=
  if !beacons s u then finish s
  else
    let s := if both then losePath u (!wire) (losePath u wire s) else losePath u wire s
    if (s.dplx.bus[unitIx u]).missing && (s.dplx.wire[unitIx u]).missing then finishCut (unitFailed u 1 s)
    else finish (raiseAll (if wire then 25 else 24) (unitIx u).val (s.setBit (pathFlt u wire) true))

/-- HM_CORE_CHECK_ERROR (R302). -/
def execHmCoreCheckError (b : Bool) (s : State) : Out :=
  finishCut (if dplxRuns s then hmFailed (if b then .hmB else .hmA) 2 s else s)

/-! ### Self-tests (R309) -/

def endTest (u : UnitNo) (s : State) : State :=
  { s with dplx := { s.dplx with testing := s.dplx.testing &&& ~~~ unitBit u } }

/-- A self-test fails: FAILED, event 28 with cause 0x7; the attempt after a failure follows (R312).
DEDUCED: log 129. -/
def testFails (u : UnitNo) (s : State) : State :=
  let s := setUnitRole u .failed (setPlan u .none s)
  let s := match unitSide u with | some e => clearEngine e s | none => s
  autoRecover u (raiseAll 28 ((unitIx u).val + 7 * 16) (s.setFld F.DPLX_RESYNC_AB_CAUSE 7))

/-- A self-test passes: an engine cold-starts, a harbourmaster is resynchronised. -/
def testPasses (u : UnitNo) (s : State) : State :=
  match unitSide u with
  | some _ =>
    let s := if s.dplx.plan[unitIx u] = .arbStandby then s.setBit F.DPLX_STAT_SUSP_ACT true else s
    startCold u s
  | none => startResync u s

/-- SELF_TEST_DONE: while the clocks of the unit's side are gated, nothing in it goes on (R427). -/
def execSelfTestDone (u : UnitNo) (pass : Bool) (s : State) : Out :=
  if s.dplx.testing &&& unitBit u = 0 || unitGated s u then finish s
  else finishCut (if pass then testPasses u (endTest u s) else testFails u (endTest u s))

/-! ### Cold starts (R169) -/

/-- The image that HOT_SWAP has written: still without commit record, or with it when the old engine has failed. -/
def hotImage (s : State) (h : HotSwap) : List Byte :=
  if h.committed then (validContent s 1).getD [] else storeBytes s (bankBase 1 (inactiveBank s 1)) h.len

/-- The new engine of HOT_SWAP has loaded (R212 step 4), or its image fails (R213). -/
def hotLoaded (h : HotSwap) (s : State) : State :=
  let (k, s) := coldStartFrom h.newSide (hotImage s h) s
  if k ≠ 0 then hotFault s
  else
    let s := s.updEng h.newSide fun g => { g with tileLimit := h.tl }
    { s with dplx := { s.dplx with hot := some { h with step := 4 } } }

/-- An engine's cold start ends: without an image it is OFFLINE; the engine started in HOLD waits for the latch edge;
otherwise resynchronisation follows where an engine is ACTIVE, but not in LOWLIGHT. DEDUCED: log 133. -/
def engineLoaded (e : Side) (s : State) : State :=
  let s := coldStart e s
  if !(s.eng e).imgValid then setPlan (unitOfSide e) .none (s.setRole e .offline)
  else if s.dplx.hold3 = some e then s
  else if s.active.isSome && s.mode != .lowlight then startResync (unitOfSide e) s
  else s.setRole e .offline

/-- A harbourmaster's cold start ends: the valid FW bank must pass its signature check (R317). -/
def hmLoaded (u : UnitNo) (s : State) : State :=
  let good := match validContent s 0 with | some bs => fwPasses bs | none => false
  if good && roleOf s (otherUnit u) == .active then startResync u s
  else autoRecover u (setUnitRole u .failed s)

/-- COLD_START_DONE. -/
def execColdStartDone (u : UnitNo) (s : State) : Out :=
  if s.dplx.loading &&& unitBit u = 0 || unitGated s u then finish s
  else
    let s : State := { s with dplx := { s.dplx with loading := s.dplx.loading &&& ~~~ unitBit u } }
    match unitSide u with
    | none => finishCut (hmLoaded u s)
    | some e =>
      match s.dplx.hot with
      | some h => finishCut (if h.newSide = e ∧ h.step = 3 then hotLoaded h s else engineLoaded e s)
      | none => finishCut (engineLoaded e s)

/-! ### Resynchronisation (R310, R311) -/

/-- RESYNC_BULK_DONE. -/
def execResyncBulkDone (s : State) : Out :=
  finish (if s.dplx.rsUnit.isSome && s.fld F.DPLX_STAT_RS_PHASE = 1 then s.setFld F.DPLX_STAT_RS_PHASE 2 else s)

/-- What resynchronisation copies from the active engine: program memory, image, scratch and S registers. -/
def copyEngine (x g : EngineState) : EngineState :=
  let cl := Vector.ofFn fun c : Cluster => { g.cl[c] with s := x.cl[c].s, scratch := x.cl[c].scratch }
  { g with pm := x.pm, imgValid := x.imgValid, imgCrc := x.imgCrc, codeWords := x.codeWords
           frameEntry := x.frameEntry, tileEntry := x.tileEntry, cl := cl }

/-- A harbourmaster is STANDBY again (R317); after arbitration the roles are exchanged and the old active one is
tested (R318). -/
def hmSynced (u : UnitNo) (s : State) : State :=
  let arb := s.dplx.plan[unitIx u] = .arbStandby
  let s := setUnitRole u .standby (unitIdle u s)
  let s := raiseAll 27 (unitIx u).val (s.inc F.DPLX_RESYNC_RS_CNT)
  if arb then startTest (otherUnit u) .arbOldActive (hmSwitch u 3 s) else s

/-- RESYNC_FINAL_PHASE: of an engine once the active one has handed off its frame. DEDUCED: log 133. -/
def execResyncFinalPhase (s : State) : Out :=
  match s.dplx.rsUnit with
  | none => finish s
  | some u =>
    if s.fld F.DPLX_STAT_RS_PHASE ≠ 2 || s.dplx.rsDone then finish s
    else match unitSide u with
      | none => finish (if noHm s then s else nextResync (hmSynced u s))
      | some e =>
        match s.active with
        | none => finish s
        | some x =>
          if s.fld (F.ENG_STAT_CLUS_DONE (sideIx x)) ≠ 255 then finish s
          else
            let from_ := s.eng x
            let s := s.updEng e (copyEngine from_)
            finish { s with dplx := { s.dplx with rsDone := true } }

/-- RESYNC_ABORT: the bulk phase, or with `final` the final phase, was not done within 256 frames. -/
def execResyncAbort (final : Bool) (s : State) : Out :=
  if s.dplx.rsUnit.isSome && !s.dplx.rsDone && s.fld F.DPLX_STAT_RS_PHASE = (if final then 2 else 1) then
    finish (nextResync (abortResync (if final then 5 else 4) s))
  else finish s

/-- RESYNC_RESTART: 1 s after the abort, the oldest first; while another unit is copied it waits for the copier. -/
def execResyncRestart (s : State) : Out :=
  match s.dplx.rsAgain with
  | u :: us => finish (startResync u { s with dplx := { s.dplx with rsAgain := us } })
  | [] => finish s

/-- MISMATCH_WINDOW_END: 1,000 frames after the mismatch that started the window (R307). -/
def execMismatchWindowEnd (s : State) : Out := finish (s.setFld F.DPLX_MISM_MM_STEP 0)

end Sys2Proof.Machine
end

