-- ==== Sys2Proof/Machine/Sequencer.lean ====
section
/-! DEFINITION. The period of the tick (R39 to R46), the FSYNC_IN lock states (R47 to R50), FSYNC_OUT (R51) and the
composition deadline (R60). Exact times stand in 1/256 of 10 ns. -/

namespace Sys2Proof.Machine

/-! ### Periods -/

/-- Resolution n that SEQ_TIMING.RES names (R45). -/
def resOf (s : State) : Nat := 8 + 2 * s.fld F.SEQ_TIMING_RES

/-- Period of a rate in 0.1 Hz (R41, R45). -/
def periodOfRate (rate : Nat) : Nat := (divRound (256 * 10 ^ 9 : Nat) rate).toNat

/-- The period of LOWLIGHT: 10 ms (R43). -/
def lowlightPeriod : Nat := 256 * 10 ^ 6

/-- The shortest period at resolution `n`, 1/F_max(n) (R44). -/
def minPeriod (n : Nat) : Nat := max (ceilDiv (256 * (100 * 2 ^ n + 86400)) 27) (ceilDiv (256 * 10 ^ 8) 410)

/-- The guard time G: 32 µs (R40). -/
def guardUnits : Nat := 3200 * 256

/-- A_k of the displayed frame (R40). -/
def activeUnits (s : State) : Nat := s.fld F.SEQ_PERIOD_PERIOD - guardUnits

/-- `p` limited to 1 % away from `prev` (R48). -/
def stepPeriod (prev p : Int) : Int := max (prev - prev / 100) (min (prev + prev / 100) p)

/-! ### Lock states -/

/-- An interval in 10 ns lies between 90 Hz and F_max(n). -/
def intervalOk (n i : Nat) : Bool :=
  decide (90 * i ≤ 10 ^ 8) && decide (10 ^ 8 ≤ 410 * i) && decide (100 * 2 ^ n + 86400 ≤ 27 * i)

/-- Four consecutive intervals in range and within ±0.5 % of each other: what Holdover waits for (R48).
DESIGN CHOICE: log 11. -/
def steady (s : State) : Bool :=
  let l := s.seq.intervals
  let lo := l.foldl min (l.headD 0)
  let hi := l.foldl max 0
  l.length = 4 && l.all (intervalOk (resOf s)) && decide (200 * (hi - lo) ≤ lo)

/-- What Acquiring waits for: steady intervals, and the phase error below 1 % of P (R48). -/
def acquires (s : State) : Bool :=
  steady s && decide ((s.fldI F.SEQ_LOCKSTAT_PHASE_ERR).natAbs * 25600 < s.fld F.SEQ_PERIOD_PERIOD)

/-- Holdover with a cause of event 4 (R48, R49). Intervals measured before stay among the latest four.
DESIGN CHOICE: log 140. -/
def loseFsync (cause : Nat) (s : State) : State :=
  let s := (s.setFld F.SEQ_LOCKSTAT_STATE 3).setFld F.SEQ_EVTCAUSE_LOSS_CAUSE cause
  raiseAll 4 cause { s with seq := { s.seq with hold64 := 0, missed := 0, outside := 0 } }

/-- What a new interval does in each lock state (R48). An interval out of range that is also the fourth beyond ±3 %
shows the cause 0b11. DESIGN CHOICE: log 10, 157. -/
def judgeInterval (i : Nat) (s : State) : State :=
  match s.fld F.SEQ_LOCKSTAT_STATE with
  | 1 =>
    if acquires s then
      let q := { s.seq with pAcq := s.seq.intervals.sum, tracked := 256 * i, missed := 0, outside := 0 }
      raiseAll 5 0 ({ s with seq := q }.setFld F.SEQ_LOCKSTAT_STATE 2)
    else s
  | 2 =>
    if !intervalOk (resOf s) i then loseFsync 3 s
    else if 100 * (4 * (i : Int) - s.seq.pAcq).natAbs > 3 * s.seq.pAcq then
      if s.seq.outside ≥ 3 then loseFsync 2 s else { s with seq := { s.seq with outside := s.seq.outside + 1 } }
    else { s with seq := { s.seq with outside := 0, tracked := 256 * i } }
  | 3 => if steady s then s.setFld F.SEQ_LOCKSTAT_STATE 1 else s
  | _ => s

/-- The phase error of the tick nearest to the target (R47). DESIGN CHOICE: log 10. -/
def phaseOf (t : Nat) (s : State) : Int :=
  let tgt : Int := 256 * ((t : Int) + 100 * s.fldI F.SEQ_FSYNC_FSI_OFFSET)
  let e1 : Int := (256 * s.seq.edge : Nat) - tgt
  let e2 : Int := (s.seq.due : Int) - tgt
  if e1.natAbs ≤ e2.natAbs then e1 else e2

/-- A valid edge at time `t` (R47). -/
def fsyncEdge (t : Nat) (s : State) : State :=
  let s := s.setFldI F.SEQ_LOCKSTAT_PHASE_ERR (divRound (phaseOf t s) 256)
  match s.seq.lastEdge with
  | none => { s with seq := { s.seq with lastEdge := some t, gotEdge := true } }
  | some l =>
    let i := t - l
    let q := { s.seq with lastEdge := some t, gotEdge := true, intervals := (i :: s.seq.intervals).take 4 }
    judgeInterval i { s with seq := q }

/-- FSYNC_IN_EDGE: the input goes to level `high` at `t` for `widthNs`. Only an edge to the level that FSI_POL selects
counts; pulses below 1 µs are ignored, and every edge while the sequencer does not steer (R43, R47).
DEDUCED: log 12. -/
def execFsyncInEdge (high : Bool) (t widthNs : Nat) (s : State) : Out :=
  let steers := s.mode != .lowlight && s.fld F.SEQ_LOCKSTAT_STATE ≠ 0
  if s.seq.running && high != s.bit F.SEQ_CTRL_FSI_POL && decide (1000 ≤ widthNs) && steers then
    finish (fsyncEdge t { s with now := max s.now t })
  else finish s

/-- Lock states as the tick finds them: entry to and exit from LOWLIGHT, TICK_SRC, missing edges (R43, R48).
DEDUCED: log 12. -/
def lockTick (s : State) : State :=
  let st := s.fld F.SEQ_LOCKSTAT_STATE
  let fresh : SeqState := { s.seq with lastEdge := none, intervals := [], gotEdge := false, missed := 0, outside := 0 }
  let src := s.bit F.SEQ_CTRL_TICK_SRC
  if s.mode == .lowlight then
    { s with seq := { fresh with wasLowlight := true, toRate := false } }.setFld F.SEQ_LOCKSTAT_STATE 0
  else if s.seq.wasLowlight then
    ({ s with seq := { fresh with wasLowlight := false, toRate := false } }.setFld F.SEQ_PERIOD_PERIOD 0).setFld
      F.SEQ_LOCKSTAT_STATE src.toNat
  else if src && st = 0 then { s with seq := { fresh with toRate := false } }.setFld F.SEQ_LOCKSTAT_STATE 1
  else if !src && st ≠ 0 then { s with seq := { fresh with toRate := true } }.setFld F.SEQ_LOCKSTAT_STATE 0
  else if st = 2 then
    let missed := if s.seq.gotEdge then 0 else s.seq.missed + 1
    let s := { s with seq := { s.seq with missed := missed, gotEdge := false } }
    if missed ≥ 3 then loseFsync 1 s else s
  else s

/-! ### The period chosen at a tick -/

/-- The period towards which Acquiring moves: the measured interval, with the phase error reduced by at most 1 % of
P. DESIGN CHOICE: log 11. -/
def acquireAim (s : State) (prev : Int) : Int :=
  match s.seq.intervals with
  | [] => prev
  | i :: _ => (256 * i : Nat) - max (-(prev / 100)) (min (prev / 100) (256 * s.fldI F.SEQ_LOCKSTAT_PHASE_ERR))

/-- P_k, chosen at T_k (R40, R43, R46, R48). How far Acquiring moves inside its bound is open; Holdover keeps the
latest tracked interval. DESIGN CHOICE: log 10, 11, 141. -/
def choosePeriod (s : State) : Nat × State :=
  let prev : Int := s.fld F.SEQ_PERIOD_PERIOD
  let rate : Int := periodOfRate (s.fld F.SEQ_TIMING_RATE)
  let lim (p : Int) : Nat := max p.toNat (minPeriod (resOf s))
  if s.mode == .lowlight then (lowlightPeriod, s)
  else if prev = 0 then (rate.toNat, s)
  else match s.fld F.SEQ_LOCKSTAT_STATE with
    | 1 =>
      let (w, t) := s.draw
      let d := stepPeriod prev (acquireAim s prev) - prev
      (lim (prev + (d * (w.toNat % 65537 : Nat)).tdiv 65536), t)
    | 2 => (lim (stepPeriod prev (s.seq.tracked + divRound (256 * s.fldI F.SEQ_LOCKSTAT_PHASE_ERR) 16)), s)
    | 3 =>
      let aim : Int := if s.seq.hold64 < 64 then s.seq.tracked else rate
      (lim (stepPeriod prev aim), { s with seq := { s.seq with hold64 := s.seq.hold64 + 1 } })
    | _ =>
      if s.seq.toRate then
        let p := stepPeriod prev rate
        (p.toNat, { s with seq := { s.seq with toRate := p ≠ rate } })
      else (rate.toNat, s)

/-- The tick falls on its edge (R41): the edge nearest to its exact time, a half on the later one.
DESIGN CHOICE: log 2. -/
def tickEdge (s : State) : State :=
  let edge := max s.now ((s.seq.due + 128) / 256)
  let due := if s.now * 256 > s.seq.due + 128 then edge * 256 else s.seq.due
  { s with now := edge, seq := { s.seq with edge := edge, due := due } }

/-- The next tick's exact time, from the period chosen now (R40, R41); the rise of FSYNC_OUT (R51). -/
def startPeriod (s : State) : State :=
  let (p, s) := choosePeriod s
  let rise := s.seq.edge + 100 * s.fld F.SEQ_FSYNC_FSO_DELAY
  { s with seq := { s.seq with due := s.seq.due + p, fsyncOut := some rise } }.setFld F.SEQ_PERIOD_PERIOD p

/-! ### The composition deadline (R60) -/

/-- Has every engine that composes in step handed off its last tile? -/
def handedAll (s : State) : Bool :=
  sides.all fun e => !((s.eng e).role == .active || (s.eng e).role == .standby)
    || s.fld (F.ENG_STAT_CLUS_DONE (sideIx e)) = 255

/-- COMPOSITION_DEADLINE: a warning only. DESIGN CHOICE: log 2. -/
def execCompositionDeadline (s : State) : Out :=
  if !s.seq.running || !s.seq.started then finish s
  else
    let at_ := s.seq.edge + s.fld F.SEQ_DEADLINE_CD_FRAC * activeUnits s / 65536
    let s : State := { s with now := max s.now at_ }
    if s.ffn.composing && !handedAll s then finish (raiseAll 7 1 (s.setBit F.SEQ_EVTCAUSE_CD_LATE true))
    else finish s

end Sys2Proof.Machine
end

