-- ==== Sys2Proof/Machine/Latch.lean ====
section
/-! DEFINITION. The latch of R22: commits (R57, R471), layers and berths (R132, R141), object lists and tracked glare
objects (R21 to R24, R218, R222), fades (R226), the custom curve (R224), Vf_max (R98) and the latch page (R151). -/

namespace Sys2Proof.Machine

/-! ### Commits (R57, R471) -/

/-- RWS words of a pending set take force. A change of RATE applies in one step in Free-run, which ends a move
towards the old RATE (R46). -/
def applyWords (k : Commit) (s : State) : State :=
  let t := s.forEach k.set.words fun w s =>
    match w.2 with
    | none => s
    | some v =>
      let m := rwsMask w.1
      let new := (s.reg w.1 &&& ~~~m) ||| (v &&& m)
      if new = s.reg w.1 then s else s.setReg w.1 new
  if t.fld F.SEQ_TIMING_RATE = s.fld F.SEQ_TIMING_RATE then t else { t with seq := { t.seq with toRate := false } }

/-- Entry `i` of the custom table as committed. -/
def curveEntry (s : State) (i : Nat) : Nat :=
  bitsOf (s.reg (0xB1000 + 4 * (i / 2))).toNat (16 * (i % 2) + 15) (16 * (i % 2))

/-- The monotonic table t_0 to t_4096 (R224): its cells, and whether an entry was changed to form it. -/
def monotonic (s : State) : Sparse Half × Bool :=
  let r := (List.range 4096).foldl (fun (r : List (Nat × Half) × Nat × Bool) j =>
    let v := curveEntry s (j + 1)
    let t := max v r.2.1
    ((if t = 0 then r.1 else (j + 1, BitVec.ofNat 16 t) :: r.1), t, r.2.2 || decide (v < r.2.1))) ([], 0, decide (curveEntry s 0 ≠ 0))
  (r.1.reverse, r.2.2)

/-- Is `a` in the curve window? -/
def inCurve (a : Nat) : Bool := 0xB1000 ≤ a && a ≤ 0xB3000

/-- The custom table takes force with every commit that carries words of it (R224, R471). DEDUCED: log 18. -/
def applyCurve (k : Commit) (s : State) : State :=
  if k.set.words.any fun w => inCurve w.1 then
    let (t, low) := monotonic s
    let s : State := { s with ffn := { s.ffn with curve := t } }
    if low then s.setBit F.FFN_STAT_NONMONO true else s
  else s

/-- Layer entries: parameters take force; a release makes the layer unowned and leaves the shadow set.
DEDUCED: log 16. -/
def applyLayers (c : Ctx) (k : Commit) (s : State) : State :=
  s.forEach k.set.layers fun l s =>
    if (byteAt l.2 0).getLsbD 5 then
      let s := s.updCtx c fun x =>
        if Sparse.get (Sparse.all []) x.shadow.layers l.1 = l.2 then
          { x with shadow := { x.shadow with layers := Sparse.put (Sparse.all []) x.shadow.layers l.1 [] } }
        else x
      let br := { s.br with layers := Sparse.put (Sparse.all []) s.br.layers l.1 []
                            owner := s.br.owner.set (Fin.ofNat 16 l.1 : Fin 16) none }
      { s with br := br }
    else { s with br := { s.br with layers := Sparse.put (Sparse.all []) s.br.layers l.1 l.2 } }

/-- Factor of a fade at step `i` (R226): linear exactly, logarithmic within ±1 count of the exact value.
DEDUCED: log 16. -/
def fadeFactor (f : Fade) (i : Nat) (w : Word) : Nat :=
  if f.frames ≤ i then f.target
  else if !f.log then
    let d : Int := (f.target : Int) - f.phi0
    ((f.phi0 : Int) + divAway (d * i) f.frames).toNat
  else
    let x := max f.phi0 16 ^ (f.frames - i) * max f.target 16 ^ i
    let t := largestT fun t => (2 * t - 1) ^ f.frames ≤ 2 ^ f.frames * x
    min 65535 (t + w.toNat % 3 - 1)

/-- The zone's factor at step `i` of fade `f`; a finished fade ends. -/
def setFade (z : Zone) (f : Fade) (i : Nat) (s : State) : State :=
  let (w, s) := if f.log then s.draw else (0, s)
  let p := fadeFactor f i w
  let next : Option Fade := if f.frames ≤ i then none else some { f with i := i }
  { s with ffn := { s.ffn with phi := s.ffn.phi.set z p, fade := s.ffn.fade.set z next } }

/-- Fade entries of context `c` start (R226); they leave the shadow set. DEDUCED: log 16. -/
def startFades (c : Ctx) (k : Commit) (s : State) : State :=
  let s := s.updCtx c fun x =>
    let keep := x.shadow.fades.filter fun e => match e.2 with | some v => !v.carried | none => true
    { x with shadow := { x.shadow with fades := keep } }
  s.forEach k.set.fades fun e s =>
    match e.2 with
    | none => s
    | some v =>
      let z : Zone := Fin.ofNat 16 e.1
      let f : Fade := { phi0 := s.ffn.phi[z], target := v.target, frames := v.frames, i := 0, log := v.log, ctx := c
                        all := false }
      { s with ffn := { s.ffn with fade := s.ffn.fade.set z (some f) } }

/-- One context's pending set, if it is due for frame `j` (R57). -/
def applyCommit (j : Word) (c : Ctx) (s : State) : State :=
  match (s.ctx[c]).commit with
  | none => s
  | some k =>
    if k.applyFrame ≠ j then s
    else
      let s := applyLayers c k (applyCurve k (applyWords k s))
      let s := startFades c k s
      let s := match k.set.pitchYaw with
        | some p => { s with ffn := { s.ffn with pitch := p.1, yaw := p.2 } }
        | none => s
      let s := s.updCtx c fun x => { x with commit := none, lastApplied := j }
      raiseTo 1 j.toNat [c] (s.incWrap (F.SEQ_COMMITSTAT_APPLIED_CNT c))

/-- Every running fade takes one step (R63, R226); event 6 names the zones whose fade ended at this edge.
DEDUCED: log 16. -/
def stepFades (s : State) : State :=
  let was := s.ffn.fade
  let s := s.forEach allZones fun z s =>
    match s.ffn.fade[z] with
    | some f => setFade z f (f.i + 1) s
    | none => s
  let ended (p : Fade → Bool) : Nat := zmask fun z =>
    match was[z] with
    | some f => p f && (s.ffn.fade[z]).isNone
    | none => false
  let s := s.forEach allCtx fun c s =>
    let m := ended fun f => !f.all && f.ctx == c
    if m = 0 then s else raiseTo 6 m [c] s
  let m := ended fun f => f.all
  if m = 0 then s else raiseAll 6 m s

/-! ### Layers (R141) -/

/-- Is berth `n` usable for a layer of context `c` with parameters `p`? -/
def usable (s : State) (c : Ctx) (p : List Byte) (n : BerthNo) : Bool :=
  let b := s.berth n
  b.st != .free && b.owner == c && (b.st == .ready || b.st == .inFlight) && fitsBerth (layerPar p) (b.size * 4096)

/-- The berth layer `l` is latched with; events 17 with causes 3 and 4. The berth latched before the sequencer stopped
still serves as the previous one at T_0. DESIGN CHOICE: log 144. -/
def latchLayer (l : Fin 16) (s : State) : State :=
  let p := Sparse.get (Sparse.all []) s.br.layers l.val
  let put (n : Option BerthNo) (s : State) : State := { s with br := { s.br with latched := s.br.latched.set l n } }
  match (s.br.owner)[l] with
  | none => put none s
  | some c =>
    if p.isEmpty || !(layerPar p).enable then put none s
    else
      let n := (layerPar p).berth
      let fault (cause : Nat) (s : State) : State :=
        raiseTo 17 (cause + n.val * 16 + l.val * 1024) [c] (berthFault c cause n.val l.val s)
      let old := match (s.br.latched)[l] with
        | some m => if usable s c p m then some m else none
        | none => none
      if usable s c p n then put (some n) s
      else if old.isSome then fault 3 (put old s)
      else
        let s := fault 4 (put none s)
        { s with br := { s.br with skipped := s.br.skipped ||| BitVec.ofNat 16 (2 ^ l.val) } }

/-- All layers, then the berth table (R132). -/
def latchLayers (s : State) : State :=
  let s : State := { s with br := { s.br with skipped := 0 } }
  let s := s.forEach (List.finRange 16) latchLayer
  berthTick (s.br.latched.toList.filterMap id) s

/-! ### Glare objects -/

def objId (e : ObjEntry) : Nat := leAt e.bytes 14 2

/-- The 16 bytes of polygon `n` in force (R220). -/
def polyBytes (s : State) (n : Nat) : List Byte :=
  (List.range 4).flatMap fun i => toLe 4 (s.reg (0xB4000 + 16 * n + 4 * i)).toNat

def objType (e : ObjEntry) : Nat := (byteAt e.bytes 0).toNat % 4
def objPoly (e : ObjEntry) : Nat := (byteAt e.bytes 1).toNat % 32

/-- The polygon an entry references has a vertex count of 3 to 7. -/
def polyOk (s : State) (e : ObjEntry) : Bool :=
  objType e ≠ 2 || within (byteAt (polyBytes s (objPoly e)) 0).toNat 3 7

/-- The other conditions of R218 on an entry of context `c`. -/
def entryOk (c : Ctx) (e : ObjEntry) : Bool :=
  decide ((byteAt e.bytes 0).toNat < 4) && decide ((byteAt e.bytes 1).toNat < 32) && decide (leAt e.bytes 12 2 < 4096)
    && objType e ≠ 3 && (objType e = 2 || objPoly e = 0) && decide (entI e.bytes 2 ≤ entI e.bytes 4)
    && decide (entI e.bytes 6 ≤ entI e.bytes 8) && (objType e ≠ 2 || objPoly e / 8 = c.val)

/-- Entries of a list whose identity an earlier entry has. -/
def isDup (l : List ObjEntry) (i : Nat) : Bool :=
  match l[i]? with
  | some e => (l.take i).any fun x => objId x = objId e
  | none => false

/-- Entries of a list of context `c` that are not ignored (R218). -/
def taken (s : State) (c : Ctx) (l : List ObjEntry) : List ObjEntry :=
  (l.zipIdx.filter fun e => !isDup l e.2 && entryOk c e.1 && polyOk s e.1).map (·.1)

/-- Places in a list of entries ignored for their polygon alone (R218). -/
def polyBadAt (s : State) (c : Ctx) (l : List ObjEntry) : List Nat :=
  (l.zipIdx.filter fun e => entryOk c e.1 && !polyOk s e.1).map (·.2)

/-- A list latched for the first time is counted (R218). DEDUCED: log 17. -/
def countList (c : Ctx) (l : List ObjEntry) (s : State) : State :=
  let bad := (l.filter fun e => !(entryOk c e && polyOk s e)).length
  let dup := ((List.range l.length).filter (isDup l)).length
  let s := (s.addFld F.FFN_OBJSTAT_BAD bad).addFld F.FFN_OBJSTAT_DUP dup
  s.updCtx c fun x => { x with polyBad := polyBadAt s c l }

/-- Entries of a list kept latched whose polygon has become invalid at this edge are counted (R218).
DEDUCED: log 17. -/
def countPolys (c : Ctx) (s : State) : State :=
  let x := s.ctx[c]
  let bad := polyBadAt s c x.objList
  let new := bad.filter fun i => !x.polyBad.contains i
  (s.addFld F.FFN_OBJSTAT_BAD new.length).updCtx c fun x => { x with polyBad := bad }

/-- The latest list complete before the edge becomes the latched one (R23); every identity in it is to be judged
(R222). -/
def takeList (c : Ctx) (s : State) : State :=
  match (s.ctx[c]).objNew with
  | some l =>
    let s := countList c l s
    s.updCtx c fun x =>
      { x with objList := l, objNew := none, objFresh := true, objDue := l.map fun e => BitVec.ofNat 16 (objId e) }
  | none => countPolys c s

/-- R21 for context `c` with `free` entries left: the entries applied, whether the list itself was (whole or
shortened), and whether it was replaced or shortened. DEDUCED: log 17. -/
def fitList (free : Nat) (x : CtxState) : List ObjEntry × Bool × Bool :=
  if x.objList.length ≤ free then (x.objList, true, false)
  else if x.objApplied.length ≤ free then (x.objApplied, false, true)
  else (x.objList.take free, true, true)

/-- Target intensity of an entry (R221). -/
def capOf (e : ObjEntry) : Nat := let t := leAt e.bytes 12 2 % 4096; t * 16 + t / 256

/-- Cap of a tracked identity after `i` frames of its rise or release (R222). -/
def capAt (t : Tracked) (i : Nat) : Nat :=
  if t.frames ≤ i then t.c1 else t.c0 + (t.c1 - t.c0) * i / t.frames

/-- A fresh entry for an identity that is tracked, or new (R222). -/
def judgeEntry (old : Option Tracked) (e : ObjEntry) : Tracked :=
  let c := capOf e
  let f := (byteAt e.bytes 11).toNat
  let now : Tracked := { ent := e, cap := c, c0 := c, c1 := c, i := 0, frames := 0, releasing := false, applied := true
                         poly := [] }
  match old with
  | none => now
  | some t =>
    if c ≤ t.cap ∨ f = 0 then now
    else
      let r : Tracked := { ent := e, cap := t.cap, c0 := t.cap, c1 := c, i := 1, frames := f, releasing := false
                           applied := true, poly := [] }
      { r with cap := capAt r 1 }

/-- One more frame of a rise or release; a release that has ended is gone. -/
def advance (t : Tracked) : Option Tracked :=
  if t.releasing then
    if t.frames ≤ t.i then none else some { t with i := t.i + 1, cap := capAt t (t.i + 1), applied := true }
  else if t.frames ≤ t.i then some t
  else some { t with i := t.i + 1, cap := capAt t (t.i + 1) }

/-- An identity absent from a fresh list enters release (R222). -/
def release (t : Tracked) : Option Tracked :=
  let f := (byteAt t.ent.bytes 11).toNat
  if f = 0 then none
  else
    let r : Tracked := { t with c0 := t.cap, c1 := 65535, i := 1, frames := f, releasing := true, applied := true }
    some { r with cap := capAt r 1 }

/-- The releasing object that a release beyond 64 completes: fewest frames left, then lowest OBJ_ID. -/
def firstDone (l : List Tracked) : Option Tracked :=
  l.foldl (fun b t => if !t.releasing then b else match b with
    | none => some t
    | some u =>
      let x := t.frames - t.i
      let y := u.frames - u.i
      if x < y ∨ (x = y ∧ objId t.ent < objId u.ent) then some t else some u) none

/-- Complete releases until at most 64 remain. -/
def limitReleases : Nat → List Tracked → List Tracked
  | 0, l => l
  | n + 1, l =>
    if (l.filter (·.releasing)).length ≤ 64 then l
    else match firstDone l with
      | some t => limitReleases n (l.erase t)
      | none => l

/-- Is identity `t` among the entries `es`? -/
def named (es : List ObjEntry) (t : Tracked) : Bool := es.any fun e => objId e = objId t.ent

/-- What the edge does to an identity that no applied entry names (R222): one that R21 leaves out of the latched list
`full`, in release or not, keeps its state and caps nothing; another release goes on; one absent from a `fresh` list,
applied for the first time, enters release; one whose polygon is invalid keeps its state too. DEDUCED: log 17. -/
def unnamed (fresh : Bool) (full : List ObjEntry) (t : Tracked) : Option Tracked :=
  if named full t then some { t with applied := false }
  else if t.releasing then advance t
  else if fresh then release t
  else some { t with applied := false }

/-- What the edge does to the identity of an applied entry `e`: a fresh entry, or one for an identity in release or left
out at the edge before, is judged; else its rise goes on (R222). DEDUCED: log 17. -/
def followed (due : List Half) (l : List Tracked) (e : ObjEntry) : Tracked :=
  match l.find? fun t => objId t.ent = objId e with
  | none => judgeEntry none e
  | some t =>
    if due.contains (BitVec.ofNat 16 (objId e)) || t.releasing || !t.applied then judgeEntry (some t) e
    else (advance t).getD t

/-- Tracked identities of a context at an edge: `es` the entries applied, `full` those of its latched list, `fresh`
whether that list is applied for the first time, `due` identities not yet judged. -/
def track (fresh : Bool) (due : List Half) (full es : List ObjEntry) (l : List Tracked) : List Tracked :=
  let rest := (l.filter fun t => !named es t).filterMap (unnamed fresh full)
  limitReleases rest.length (rest ++ es.map (followed due l))

/-- One context's objects at the latch edge: the entries left for later contexts, and the state. DEDUCED: log 17. -/
def latchCtx (first : Bool) (c : Ctx) (r : Nat × State) : Nat × State :=
  let (free, s) := r
  let s := takeList c s
  let s := if first then s.updCtx c fun x => { x with objApplied := [] } else s
  let x := s.ctx[c]
  let (es, own, ovf) := fitList free x
  let s := if ovf then raiseTo 7 2 [c] (s.setBit F.SEQ_EVTCAUSE_LIST_OVF true) else s
  let live := taken s c es
  let l := track (x.objFresh && own) (if own then x.objDue else []) (taken s c x.objList) live x.tracked
  let l := l.map fun t => if t.applied && !t.releasing then { t with poly := polyBytes s (objPoly t.ent) } else t
  let due := if own then x.objDue.filter fun i => !live.any fun e => BitVec.ofNat 16 (objId e) = i else x.objDue
  (free - es.length, s.updCtx c fun x =>
    { x with objApplied := es, tracked := l, objDue := due, objFresh := x.objFresh && !own })

/-- The shapes of a context as they act in the frame (R219, R222). -/
def shapesOf (s : State) (c : Ctx) : List Shape :=
  ((s.ctx[c]).tracked.filter (·.applied)).map fun t =>
    { ent := t.ent, cap := t.cap, poly := t.poly }

/-- Object lists and tracked objects of every context. `first`: the first tick after the sequencer starts. -/
def latchObjects (first : Bool) (s : State) : State :=
  let (_, s) := allCtx.foldl (fun r c => latchCtx first c r) (128, s)
  let n := (allCtx.map fun c => ((s.ctx[c]).objApplied).length).sum
  let rel := (allCtx.map fun c => ((s.ctx[c]).tracked.filter (·.releasing)).length).sum
  let s := (s.setFld F.FFN_OBJSTAT_LATCHED n).setFld F.FFN_RELCNT_RELEASING rel
  { s with ffn := { s.ffn with shapes := allCtx.flatMap (shapesOf s) } }

/-- The new active copy starts fresh (R313): fades end at their target at this edge with event 6 to every context,
releases end, and the previous lists are empty. -/
def freshCopy (s : State) : State :=
  let fade := s.ffn.fade.map fun o => o.map fun f => { f with i := f.frames, all := true }
  let fresh (x : CtxState) : CtxState :=
    { x with tracked := [], objFresh := true, objDue := x.objList.map fun e => BitVec.ofNat 16 (objId e) }
  { s with ffn := { s.ffn with fade := fade }, ctx := s.ctx.map fresh }

/-! ### Vf_max (R98) -/

/-- Vf_max of zone `z` in whole mV. -/
def vfMax (s : State) (z : Zone) : Nat :=
  let up : Nat := s.fld (F.STK_ZCUR_ICODE z) - s.fld (F.RAIL_ZCFG_ICODE_CAL z)
  let x : Int := 10240 * s.fld (F.RAIL_ZVF_VF_CAL z)
    + s.fldI F.RAIL_VFCFG_VF_TC * (s.therm.tj[z] - 1024 * s.fldI (F.RAIL_ZVF_T_CAL z))
    + 10240 * (s.fld F.RAIL_VFCFG_VF_IS * up : Nat)
  (max 2500 (min 3300 (-((-x).fdiv 10240)))).toNat

/-! ### The frame's inputs -/

/-- Bytes of one latch page field. -/
def pageAt (o : Nat) (bs : List Byte) (m : Sparse Byte) : Sparse Byte := putBytes m o bs

/-- Descriptor of layer `l` (R151). -/
def descriptor (s : State) (l : Fin 16) : List Byte :=
  let p := Sparse.get (Sparse.all []) s.br.layers l.val
  let at_ := (s.br.latched)[l]
  let n := at_.getD (layerPar p).berth
  let valid := at_.isSome
  if p.isEmpty then toLe 1 l.val ++ List.replicate 31 0
  else
    let owner := match (s.br.owner)[l] with | some c => c.val | none => 0
    toLe 1 ((if valid then 128 else 0) + l.val) ++ [byteAt p 1] ++ toLe 1 n.val ++ [byteAt p 3]
      ++ (p.drop 4).take 20 ++ toLe 4 ((s.berth n).size * 4096) ++ toLe 1 owner ++ [0, 0, 0]

/-- The period of frame FRM: what the next tick would choose where the rate is the device's own, else the running
one, also while Free-run still moves to a new RATE (R151). DESIGN CHOICE: log 15. -/
def pagePeriod (s : State) : Nat :=
  if s.mode != .lowlight && s.fld F.SEQ_LOCKSTAT_STATE = 0 && !s.seq.toRate then periodOfRate (s.fld F.SEQ_TIMING_RATE)
  else s.fld F.SEQ_PERIOD_PERIOD

/-- The latch page of frame `frm` (R151). DESIGN CHOICE: log 15. -/
def latchPage (frm : Word) (s : State) : Sparse Byte :=
  let flags := s.seq.prevAborted.toNat + (if frm = 1 then 2 else 0)
  let m := pageAt 0 (toLe 4 frm.toNat ++ toLe 4 flags ++ toLe 4 s.ffn.n ++ toLe 4 (pagePeriod s)
    ++ toLe 2 s.ffn.pitch.toNat ++ toLe 2 s.ffn.yaw.toNat) []
  let m := (List.finRange 16).foldl (fun m l => pageAt (0x40 + 32 * l.val) (descriptor s l) m) m
  (List.range 64).foldl (fun m n => pageAt (0x240 + 4 * n) (toLe 4 (s.reg (0x90100 + 4 * n)).toNat) m) m

/-- Bypass bits by string from the classes of the pixel map (R31, R229). -/
def mapBypass (m : Sparse Byte) : Sparse Byte :=
  m.foldl (fun b e =>
    let bits := (List.range 4).foldl (fun n i =>
      if bitsOf e.2.toNat (2 * i + 1) (2 * i) = 0 then n else n + 2 ^ (i + 4 * (e.1 % 2))) 0
    let q := e.1 / 2
    Sparse.put (Sparse.all 0) b q (Sparse.get (Sparse.all 0) b q ||| BitVec.ofNat 8 bits)) []

/-- What the fixed-function copies and the engines read for frame `frm`. -/
def latchInputs (frm : Word) (s : State) : State :=
  let failed := (s.diag.tiles.filter fun e => decide (2 ≤ e.2)).map (·.1)
  let f := { s.ffn with frm := frm, n := resOf s, bypass := mapBypass s.diag.map, failed := failed }
  let s : State := { s with ffn := f }
  { s with ffn := { s.ffn with page := latchPage frm s } }

/-- The latch of R22 for frame `frm`, in one step: commits in context order, berths and layers, objects, the thermal
estimate and Vf_max, fades. `first`: T_0. DESIGN CHOICE: log 13. -/
def latch (first : Bool) (frm : Word) (s : State) : State :=
  let s := s.forEach allCtx (applyCommit frm)
  let s := latchObjects first (latchLayers s)
  let s := stepFades (thermLatch s)
  let s := s.forEach allZones fun z s => s.setFld (F.RAIL_ZVF_VFMAX z) (vfMax s z)
  latchInputs frm s

end Sys2Proof.Machine
end

