-- ==== Sys2Proof/Machine/Guard.lean ====
section
/-! DEFINITION. The guard window (R26, R61, R103, R288, R303) and the freeze detector (R363 to R365). -/

namespace Sys2Proof.Machine

/-! ### Completion (R26, R288) -/

def darkZone (s : State) (z : Zone) : Bool := s.seq.darkmask.getLsbD z.val

/-- All 32 tiles of the zone are acknowledged on the lane that judges completion. -/
def zoneAcked (s : State) (z : Zone) : Bool :=
  decide ((s.tl.acked[rtnIx (judgeLane s)])[z] = 0xFFFFFFFF)

/-- The zone is complete and its ZCRC record shows MATCH, or it is shipped dark. -/
def zoneDone (s : State) (z : Zone) : Bool :=
  darkZone s z || (zoneAcked s z && (s.tl.mtch[rtnIx (judgeLane s)])[z])

/-- Deadline evidence (R303): the active side is late while the standby has packed every zone. -/
def lateActive (s : State) : Bool :=
  allZones.any (fun z => !darkZone s z && !zoneAcked s z) &&
    match s.withRole .standby with
    | some e => allZones.all fun z => (((s.eng e).pack[z]).zcrc).isSome
    | none => false

/-! ### Underruns (R61, R66) -/

/-- An aborted frame is counted; the third in a row enters HOLD at its tick. DEDUCED: log 21. -/
def countAbort (mask : Nat) (s : State) : State :=
  let s := (raiseAll 2 mask s).inc F.SEQ_UNDERRUN_UR_TOTAL
  let n := s.fld F.SEQ_UNDERRUN_UR_CONSEC
  if 2 ≤ n then { s with seq := { s.seq with third := true } } else s.setFld F.SEQ_UNDERRUN_UR_CONSEC (n + 1)

/-- The frame in composition is aborted for all zones; tug entries stop part-way (R200). -/
def abortFrame (mask : Nat) (s : State) : State :=
  let s := stopCompose ((countAbort mask s).forEach allClusters cutTug)
  { s with seq := { s.seq with aborted := true } }

/-! ### Rail-limited frames (R103) -/

/-- n_allow of a zone from V_rd, or from VERIFIED where there is no reading; the switch of a crossed-over zone takes
0.10 V first (R94). -/
def allowOf (s : State) (z : Zone) : Nat :=
  let (num, den) := match s.rail.z[feeder s z].vrd with
    | some v => (1000 * v, 4096)
    | none => (20 * s.fld (F.RAIL_ZREQ_VERIFIED z), 1)
  let off : Int := (if isCrossed s z then 9900 else 0) + 45000
  let n := ((99 * num : Nat) - off * (den : Nat)).fdiv (100 * den * s.fld (F.RAIL_ZVF_VFMAX z) : Nat)
  (max 0 (min 8 n)).toNat

/-- Is the upward write for the coming frame not done in the zone's regulator? -/
def upwardDue (s : State) (z : Zone) : Bool :=
  let f := s.rail.z[feeder s z]
  s.rail.z[z].up && (match f.wr with | some w => w.up | none => false)

/-- One zone's n_allow in the order for the coming tick (R103), no larger than that of R99. -/
def limitZone (z : Zone) (s : State) : State :=
  if upwardDue s z then
    let n := allowOf s z
    let s := (raiseAll 49 (z.val + 16) s).inc (F.RAIL_ZSTAT_LIMITED_CNT z)
    { s with seq := { s.seq with nallow := s.seq.nallow.set z (min s.seq.nallow[z] n) } }
  else s

/-! ### Orders (R283, R288) -/

/-- The order of zone `z`'s lane. -/
def orderFor (s : State) (swap : Bool) (z : Zone) : OrderBlock :=
  let k : OrderBlock := { b1 := BitVec.ofNat 8 ((if swap then 1 else 2) + 16 * s.seq.nallow[z]), darkmask := s.seq.darkmask
                          frm := s.ffn.frm.setWidth 16, rsv := 0, crc8 := 0 }
  { k with crc8 := crc8 (orderBytes k) }

/-- Every lane of the selected side but those in electrical idle (R290) sends its zone's order. DESIGN CHOICE: log 23. -/
def sendOrder (swap : Bool) (s : State) : State :=
  let order := Vector.ofFn fun z => if laneIdle s z then none else some (orderFor s swap z)
  { s with seq := { s.seq with order := some order, swap := swap } }

/-- The order for the coming tick: SWAP for a complete frame; the frame is aborted, or repeated because the active
engine has failed (R304) or no harbourmaster runs (R319). Rail-limited zones are judged in every window (R103).
DESIGN CHOICE: log 23. -/
def judgeFrame (s : State) : State :=
  let s := s.forEach allZones limitZone
  if !s.ffn.composing || s.dplx.fo.isSome || noHm s then sendOrder false s
  else
    let late := zmask fun z => !zoneDone s z
    if late = 0 then sendOrder true s
    else if lateActive s then
      match s.active with
      | some e => sendOrder false (engineFailed e 3 s)
      | none => sendOrder false (abortFrame late s)
    else sendOrder false (abortFrame late s)

/-! ### The freeze detector (R363 to R365) -/

/-- Tile `t` of the front buffer as the comparators read it. -/
def frontTile (s : State) (t : Nat) : List Half :=
  match Sparse.get (Sparse.all []) s.stk.front t with
  | [] => List.replicate 4096 0
  | l => l

/-- DSIG of zone `z` over the stored codes and the buffer's FRM. -/
def ownDsig (s : State) (z : Zone) : Word :=
  crc32c (((List.range 32).flatMap fun j => codeBytes (frontTile s (tileOfZone z.val j))) ++ toLe 4 s.stk.frontFrm.toNat)

def event44 (cause : Nat) (z : Zone) (s : State) : State := raiseAll 44 (cause * 256 + z.val) s

def zbit (z : Zone) : BitVec 16 := BitVec.ofNat 16 (2 ^ z.val)

/-- A freeze of zone `z`. DEDUCED: log 22. -/
def freeze (z : Zone) (s : State) : State :=
  let ts := s.uptime :: (s.diag.frzTimes[z]).take 2
  let third := 3 ≤ (ts.filter fun t => decide (s.uptime ≤ t + 10)).length
  let s : State := { s with diag := { s.diag with frzTimes := s.diag.frzTimes.set z ts } }
  let s := event44 1 z (s.setFld F.DIAG_FRZ_ZFRZ (s.fld F.DIAG_FRZ_ZFRZ ||| 2 ^ z.val))
  if third then event44 3 z { s with diag := { s.diag with frzKept := s.diag.frzKept ||| zbit z } } else s

/-- A frame whose signature matches, or does not. -/
def judgeDsig (z : Zone) (hit : Bool) (s : State) : State :=
  let d := s.diag
  if hit then
    { s with diag := { d with frzMism := d.frzMism.set z 0, frzMatch := d.frzMatch.set z (d.frzMatch[z] + 1) } }
  else
    let n := d.frzMism[z] + 1
    let s : State := { s with diag := { d with frzMism := d.frzMism.set z n, frzMatch := d.frzMatch.set z 0 } }
    let s := s.inc F.DIAG_FRZ_MISM_CNT
    if 2 ≤ n ∧ !(s.fld F.DIAG_FRZ_ZFRZ).testBit z.val then freeze z s else s

/-- A signature that cannot be read (R365). -/
def unreadable (z : Zone) (s : State) : State :=
  let n := s.diag.unread[z] + 1
  let s : State := { s with diag := { s.diag with unread := s.diag.unread.set z n } }
  let s := s.inc F.DIAG_FRZ_UNAVAIL
  if n = 8 then event44 2 z s else s

/-- The signature of one zone as read in this window; it is judged if an order was sent for the frame (R363). -/
def readDsig (sent : Bool) (listed : List (Nat × Option Word)) (z : Zone) (s : State) : State :=
  let x : Option Word := match listed.find? fun e => e.1 = z.val with
    | some e => e.2
    | none => some (ownDsig s z)
  match x with
  | none => unreadable z s
  | some w =>
    let s : State := { s with diag := { s.diag with unread := s.diag.unread.set z 0 } }
    let s := s.setFld (F.DIAG_DSIG_DSIG z) w.toNat
    match s.diag.zcrcShown[z] with
    | some c => if sent then judgeDsig z (decide (w = c)) s else s
    | none => s

/-! ### The window -/

/-- Lanes outside electrical idle without lock in time: one of the standby side fails, and a FAILED one starts its
clean windows again (R293, R294). -/
def failUnlocked (l : List (Side × Zone)) (s : State) : State :=
  let s := s.forEach sides fun e s => s.forEach allZones fun z s => updTx e z (fun t => { t with unlocked := false }) s
  s.forEach (l.filter fun x => !laneIdle s x.2) fun x s =>
    let s := updTx x.1 x.2 (fun t => { t with unlocked := true, clean := 0 }) s
    if (s.eng x.1).role == .standby then failLane x.1 x.2 s else s

/-- PRBS31 bit errors that the stack counted on the lane of side `e` for zone `z` in this window (R293); an idle lane
sends none (R290). -/
def prbsErrors (s : State) (l : List (Side × Zone × Nat)) (e : Side) (z : Zone) : Nat :=
  if laneIdle s z then 0 else match l.find? fun x => x.1 == e && x.2.1 == z with
  | some x => min 65535 x.2.2
  | none => 0

/-- After each guard window the stack sends one LSTAT record per zone (R291). -/
def sendLstats (l : List (Side × Zone × Nat)) (s : State) : State :=
  if s.stk.powered then s.forEach allZones fun z s =>
    sendRecord 7 z.val s.stk.frontFrm.toNat 0 (toLe 2 (prbsErrors s l .a z) ++ toLe 2 (prbsErrors s l .b z)) s
  else s

/-- GUARD_WINDOW. The signatures are judged only while orders are sent: `sent` says that one was sent for the frame
displayed; they are read in every window. DESIGN CHOICE: log 2. DEDUCED: log 22. -/
def execGuardWindow (env : GuardEnv) (s : State) : Out :=
  if !s.seq.running || !s.seq.started then finish s
  else
    let sent := s.seq.order.isSome
    let s : State := { s with now := max s.now (s.seq.edge + activeUnits s / 256) }
    let s := failUnlocked env.noLock (judgeFrame (relockWindow s))
    let s := sendLstats env.prbs { s with tl := { s.tl with newSel := false } }
    finishCut (if s.stk.powered then s.forEach allZones (readDsig sent env.dsig) else s)

end Sys2Proof.Machine
end

