-- ==== Sys2Proof/Machine/MoliaControl.lean ====
section
/-! DEFINITION. Molia control, branch and tug rows (R186, R187, R198 to R200), and the engine rows of budget, exceptions and tugs (R157, R159, R166). -/

namespace Sys2Proof.Machine

/-- Fields of format C: reserved bits and, except for BAR and TUGWAIT, imm8 are 0. -/
def cLegal (f : FC) (imm : Bool) : Bool := f.rsv == 0 && (imm || f.imm8 == 0)

/-- NOP. -/
def execNop (e : Side) (c : Cluster) (f : FC) (s : State) : Out := molia e c 1 (.nop e c f) f.ecc (cLegal f false) (fun s => .done s none) s

/-- YIELD: waits until the tug queue is empty, then ends the routine. -/
def execYield (e : Side) (c : Cluster) (f : FC) (s : State) : Out :=
  molia e c 1 (.yield e c f) f.ecc (cLegal f false) (fun s =>
    if (s.cluster e c).tugs.isEmpty then .ends s (endRoutine e c) else .stall) s

/-- The cluster's frame ends; tiles not handed off are handed off with intensity 0 (R150). DEDUCED: log 121. -/
def tickWait (e : Side) (c : Cluster) (s : State) : State :=
  endFrame e c (handOffRest e c ((s.cluster e c).pos - 1) (notePeak e c s))

/-- TICKWAIT. -/
def execTickwait (e : Side) (c : Cluster) (f : FC) (s : State) : Out :=
  molia e c 1 (.tickwait e c f) f.ecc (cLegal f false) (fun s =>
    if (s.cluster e c).tugs.isEmpty then .ends s (tickWait e c) else .stall) s

/-- Arrive at barrier `i`: wait unless it is met (R150). DEDUCED: log 125. -/
def arrive (e : Side) (c : Cluster) (i : Byte) (s : State) : State :=
  let s := s.updEng e fun g =>
    { g with bar := Sparse.put (Sparse.all 0) g.bar i.toNat
               (Sparse.get (Sparse.all 0) g.bar i.toNat ||| BitVec.ofNat 8 (2 ^ c.val)) }
  let k := s.cluster e c
  let s := if k.pc < (s.eng e).codeWords then s.updCl e c fun k => { k with run := .waitBar i }
    else programExc e c 2 k.lastPc 0 s
  releaseBarriers e s

/-- BAR. DEDUCED: log 125. -/
def execBar (e : Side) (c : Cluster) (f : FC) (s : State) : Out :=
  molia e c 1 (.bar e c f) f.ecc (cLegal f true) (fun s => .ends s (arrive e c f.imm8)) s

/-- TUGWAIT: at most imm8 entries remain; imm8 above 7 is ILLEGAL. -/
def execTugwait (e : Side) (c : Cluster) (f : FC) (s : State) : Out :=
  molia e c 1 (.tugwait e c f) f.ecc (cLegal f true && decide (f.imm8.toNat ≤ 7)) (fun s =>
    if (s.cluster e c).tugs.length ≤ f.imm8.toNat then .done s none else .stall) s

/-- The value of a special (R186). -/
def special (k : ClusterState) (c : Cluster) : SgetSel → Word
  | .tile => BitVec.ofNat 32 k.tile
  | .frm => k.frm
  | .cluster => BitVec.ofNat 32 c.val
  | .rowY0 => BitVec.ofNat 32 (k.tile / 32 * 64)
  | .colX0 => BitVec.ofNat 32 (k.tile % 32 * 64)

/-- SGET. -/
def execSget (e : Side) (c : Cluster) (sel : SgetSel) (f : FG) (s : State) : Out :=
  molia e c 1 (.sget e c sel f) f.ecc (f.rsv == 0) (fun s => .done (s.setS e c f.sd (special (s.cluster e c) c sel)) none) s

/-- PROF: the retired count, or the stall count, which timing decides and the model leaves free. FORBIDDEN unless
PROFILE = 1 in this engine (R162). DESIGN CHOICE: log 120. -/
def execProf (e : Side) (c : Cluster) (stall : Bool) (f : FG) (s : State) : Out :=
  molia e c 1 (.prof e c stall f) f.ecc (f.rsv == 0) (fun s =>
    if s.fld (F.ENG_CTRL_PROFILE (sideIx e)) = 0 then .exc 5
    else if stall then let (w, s) := s.draw; .done (s.setS e c f.sd w) none
    else .done (s.setS e c f.sd (BitVec.ofNat 32 (s.cluster e c).retired)) none) s

/-- BR. -/
def execBr (e : Side) (c : Cluster) (f : FB) (s : State) : Out := branchOp e c (.br e c f) f (f.sa == 0) (fun _ => true) s
/-- BZ. -/
def execBz (e : Side) (c : Cluster) (f : FB) (s : State) : Out := branchOp e c (.bz e c f) f true (fun k => k.sreg f.sa == 0) s
/-- BNZ. -/
def execBnz (e : Side) (c : Cluster) (f : FB) (s : State) : Out := branchOp e c (.bnz e c f) f true (fun k => k.sreg f.sa != 0) s
/-- BLTZ. -/
def execBltz (e : Side) (c : Cluster) (f : FB) (s : State) : Out := branchOp e c (.bltz e c f) f true (fun k => (k.sreg f.sa).msb) s
/-- BGEZ. -/
def execBgez (e : Side) (c : Cluster) (f : FB) (s : State) : Out := branchOp e c (.bgez e c f) f true (fun k => !(k.sreg f.sa).msb) s

/-- BDEC: S[sa] − 1, taken if the new value is not 0; sa = 0 is ILLEGAL. -/
def execBdec (e : Side) (c : Cluster) (f : FB) (s : State) : Out :=
  molia e c 1 (.bdec e c f) f.ecc (f.rsv == 0 && f.sa != 0) (fun s =>
    let v := (s.cluster e c).sreg f.sa - 1
    .done (s.setS e c f.sa v) (if v = 0 then none else some f.target.toNat)) s

/-- BANY. -/
def execBany (e : Side) (c : Cluster) (f : FB) (s : State) : Out :=
  branchOp e c (.bany e c f) f (!f.sa.getLsbD 3) (fun k => k.preg (f.sa.extractLsb' 0 3) != 0) s
/-- BNONE. -/
def execBnone (e : Side) (c : Cluster) (f : FB) (s : State) : Out :=
  branchOp e c (.bnone e c f) f (!f.sa.getLsbD 3) (fun k => k.preg (f.sa.extractLsb' 0 3) == 0) s

/-- CALL: the index of the next instruction to S[sd]. -/
def execCall (e : Side) (c : Cluster) (f : FJ) (s : State) : Out :=
  molia e c 1 (.call e c f) f.ecc (f.rsv == 0 && f.sa == 0) (fun s =>
    .done (s.setS e c f.sd (BitVec.ofNat 32 ((s.cluster e c).pc + 1))) (some f.target.toNat)) s

/-- JR: to S[sa] as read before the write of S[sd]. -/
def execJr (e : Side) (c : Cluster) (f : FJ) (s : State) : Out :=
  molia e c 1 (.jr e c f) f.ecc (f.rsv == 0 && f.target == 0) (fun s =>
    let k := s.cluster e c
    .done (s.setS e c f.sd (BitVec.ofNat 32 (k.pc + 1))) (some (k.sreg f.sa).toNat)) s

/-- VOUT: row S[sr] + row; nothing is written during FRAME_ENTRY (R198). -/
def execVout (e : Side) (c : Cluster) (f : FO) (s : State) : Out :=
  molia e c 1 (.vout e c f) f.ecc (f.rsv == 0 && predOk f.pred) (fun s =>
    let k := s.cluster e c
    let r := (k.sreg f.sr + BitVec.ofNat 32 f.row.toNat).toNat
    if k.pos = 0 then .done s none
    else if r > 63 then .exc 6
    else
      let v := lanes k f.pred (Sparse.get (Sparse.all zeroLanes) k.buf r) fun l => (k.vreg f.vs)[l]
      .done (s.updCl e c fun k => { k with buf := Sparse.put (Sparse.all zeroLanes) k.buf r v }) none) s

/-! ### Tugs -/

/-- Length, alignment and destination of a tug (R199). -/
def tugShapeOk (dst src len : Nat) : Bool :=
  4 ≤ len && len ≤ 16384 && len % 4 = 0 && dst % 4 = 0 && src % 4 = 0 && dst + len ≤ 0x40000

/-- Enter an entry into the queue of 8; an issue into a full queue stalls (R157). -/
def enqueueTug (e : Side) (c : Cluster) (t : Tug) (s : State) : MolRes :=
  if (s.cluster e c).tugs.length ≥ 8 then .stall
  else .done (s.updCl e c fun k => { k with tugs := k.tugs ++ [t] }) none

/-- TUGL: judged against the latched descriptor of the layer (R151, R156). -/
def execTugl (e : Side) (c : Cluster) (f : FT) (s : State) : Out :=
  molia e c 1 (.tugl e c f) f.ecc (f.rsv == 0) (fun s =>
    let k := s.cluster e c
    let dst := (k.sreg f.sd).toNat
    let src := (k.sreg f.sa).toNat
    let len := (k.sreg f.sl).toNat
    let d := 0x40 + 32 * f.layer.toNat
    let byte (o : Nat) : Byte := Sparse.get (Sparse.all 0) s.ffn.page (d + o)
    let size := leNat [byte 24, byte 25, byte 26, byte 27]
    if !tugShapeOk dst src len then .exc 3
    else if !(byte 0).getLsbD 7 || src + len > size then .exc 4
    else enqueueTug e c ⟨dst, src, len, some (Fin.ofNat 64 ((byte 2).toNat % 64))⟩ s) s

/-- TUGS: the layer field is reserved. -/
def execTugs (e : Side) (c : Cluster) (f : FT) (s : State) : Out :=
  molia e c 1 (.tugs e c f) f.ecc (f.rsv == 0 && f.layer == 0) (fun s =>
    let k := s.cluster e c
    let dst := (k.sreg f.sd).toNat
    let src := (k.sreg f.sa).toNat
    let len := (k.sreg f.sl).toNat
    if !tugShapeOk dst src len || src + len > 0x41000 then .exc 3
    else enqueueTug e c ⟨dst, src, len, none⟩ s) s

/-- TUG_TRANSFER: the first entry of the queue completes (R157), while the side's clocks run (R427).
DESIGN CHOICE: log 120. -/
def execTugTransfer (e : Side) (c : Cluster) (ecc : List EccHit) (scr : Nat) (s : State) : Out :=
  finish (if (s.eng e).gated then s else tugStep e c ecc scr s)

/-! ### Budget and hardware exceptions -/

/-- BUDGET_OVERRUN: the next instruction of a running routine would exceed the limit (R159). DEDUCED: log 119. -/
def execBudgetOverrun (e : Side) (c : Cluster) (s : State) : Out :=
  let k := s.cluster e c
  if k.run == .running && !(s.eng e).gated && decide (tileLimit s e < k.count + 1) then finish (overrun e c 0 s) else finish s

/-- Causes of hardware exceptions (R164). -/
def hwCode : HwCause → Nat
  | .pmEcc => 8 | .scrEcc => 9 | .handoff => 10

/-- HARDWARE_EXCEPTION: the engine halts and is FAILED, recognised at once (R166, R302). DEDUCED: log 122. -/
def execHardwareException (e : Side) (c : Cluster) (cause : HwCause) (s : State) : Out :=
  if !(s.eng e).powered || (s.eng e).role == .failed then finish s
  else
    let s := (recordExc e c (hwCode cause) (s.cluster e c).pc s).inc (F.ENG_EXCCNT_HW_CNT (sideIx e))
    finish (engineFailed e 2 s)

end Sys2Proof.Machine
end

