-- ==== Sys2Proof/Machine/MoliaScalar.lean ====
section
/-! DEFINITION. Molia scalar rows (R188 to R190). -/

namespace Sys2Proof.Machine

/-- SADD. -/
def execSadd (e : Side) (c : Cluster) (f : FS) (s : State) : Out := scalarOp e c (.sadd e c f) f (fun a b => a + b) s

/-- SSUB. -/
def execSsub (e : Side) (c : Cluster) (f : FS) (s : State) : Out := scalarOp e c (.ssub e c f) f (fun a b => a - b) s

/-- SAND. -/
def execSand (e : Side) (c : Cluster) (f : FS) (s : State) : Out := scalarOp e c (.sand e c f) f (fun a b => a &&& b) s

/-- SOR. -/
def execSor (e : Side) (c : Cluster) (f : FS) (s : State) : Out := scalarOp e c (.sor e c f) f (fun a b => a ||| b) s

/-- SXOR. -/
def execSxor (e : Side) (c : Cluster) (f : FS) (s : State) : Out := scalarOp e c (.sxor e c f) f (fun a b => a ^^^ b) s

/-- SSHL. -/
def execSshl (e : Side) (c : Cluster) (f : FS) (s : State) : Out := scalarOp e c (.sshl e c f) f (fun a b => a <<< (b.toNat % 32)) s

/-- SSHRU. -/
def execSshru (e : Side) (c : Cluster) (f : FS) (s : State) : Out := scalarOp e c (.sshru e c f) f (fun a b => a >>> (b.toNat % 32)) s

/-- SSHRS. -/
def execSshrs (e : Side) (c : Cluster) (f : FS) (s : State) : Out := scalarOp e c (.sshrs e c f) f (fun a b => a.sshiftRight (b.toNat % 32)) s

/-- SMUL. -/
def execSmul (e : Side) (c : Cluster) (f : FS) (s : State) : Out := scalarOp e c (.smul e c f) f (fun a b => a * b) s

/-- SMULHU. -/
def execSmulhu (e : Side) (c : Cluster) (f : FS) (s : State) : Out := scalarOp e c (.smulhu e c f) f (fun a b => BitVec.ofNat 32 (a.toNat * b.toNat / 2 ^ 32)) s

/-- SMULHS. -/
def execSmulhs (e : Side) (c : Cluster) (f : FS) (s : State) : Out := scalarOp e c (.smulhs e c f) f (fun a b => BitVec.ofInt 32 ((a.toInt * b.toInt).fdiv (2 ^ 32))) s

/-- SMIN. -/
def execSmin (e : Side) (c : Cluster) (f : FS) (s : State) : Out := scalarOp e c (.smin e c f) f (fun a b => if a.toInt ≤ b.toInt then a else b) s

/-- SMAX. -/
def execSmax (e : Side) (c : Cluster) (f : FS) (s : State) : Out := scalarOp e c (.smax e c f) f (fun a b => if a.toInt ≤ b.toInt then b else a) s

/-- SMINU. -/
def execSminu (e : Side) (c : Cluster) (f : FS) (s : State) : Out := scalarOp e c (.sminu e c f) f (fun a b => if a.toNat ≤ b.toNat then a else b) s

/-- SMAXU. -/
def execSmaxu (e : Side) (c : Cluster) (f : FS) (s : State) : Out := scalarOp e c (.smaxu e c f) f (fun a b => if a.toNat ≤ b.toNat then b else a) s

/-- SSLT. -/
def execSslt (e : Side) (c : Cluster) (f : FS) (s : State) : Out := scalarOp e c (.sslt e c f) f (fun a b => truth (a.toInt < b.toInt)) s

/-- SSLTU. -/
def execSsltu (e : Side) (c : Cluster) (f : FS) (s : State) : Out := scalarOp e c (.ssltu e c f) f (fun a b => truth (a.toNat < b.toNat)) s

/-- SSEQ. -/
def execSseq (e : Side) (c : Cluster) (f : FS) (s : State) : Out := scalarOp e c (.sseq e c f) f (fun a b => truth (a == b)) s

/-- SSNE. -/
def execSsne (e : Side) (c : Cluster) (f : FS) (s : State) : Out := scalarOp e c (.ssne e c f) f (fun a b => truth (a != b)) s

/-- SADDI (R189). -/
def execSaddi (e : Side) (c : Cluster) (f : FSI) (s : State) : Out :=
  molia e c 1 (.saddi e c f) f.ecc (f.rsv == 0) (fun s =>
    .done (s.setS e c f.sd ((s.cluster e c).sreg f.sa + f.imm16.signExtend 32)) none) s

/-- SLUI: its sa field is reserved (R189). -/
def execSlui (e : Side) (c : Cluster) (f : FSI) (s : State) : Out :=
  molia e c 1 (.slui e c f) f.ecc (f.rsv == 0 && f.sa == 0) (fun s => .done (s.setS e c f.sd (f.imm16.setWidth 32 <<< 16)) none) s

/-- SLD (R190). -/
def execSld (e : Side) (c : Cluster) (f : FSM) (s : State) : Out := scalarLoad e c (.sld e c f) f 4 s
/-- SLDH. -/
def execSldh (e : Side) (c : Cluster) (f : FSM) (s : State) : Out := scalarLoad e c (.sldh e c f) f 2 s
/-- SLDB. -/
def execSldb (e : Side) (c : Cluster) (f : FSM) (s : State) : Out := scalarLoad e c (.sldb e c f) f 1 s
/-- SST. -/
def execSst (e : Side) (c : Cluster) (f : FSM) (s : State) : Out := scalarStore e c (.sst e c f) f 4 s
/-- SSTH. -/
def execSsth (e : Side) (c : Cluster) (f : FSM) (s : State) : Out := scalarStore e c (.ssth e c f) f 2 s
/-- SSTB. -/
def execSstb (e : Side) (c : Cluster) (f : FSM) (s : State) : Out := scalarStore e c (.sstb e c f) f 1 s

end Sys2Proof.Machine
end

