-- ==== Sys2Proof/Machine/MoliaVector.lean ====
section
/-! DEFINITION. Molia vector and predicate rows (R191 to R197). -/

namespace Sys2Proof.Machine

/-- VADD. -/
def execVadd (e : Side) (c : Cluster) (f : FV) (s : State) : Out := vectorOp e c (.vadd e c f) f true (fun a b _ => a + b) s

/-- VADDUS. -/
def execVaddus (e : Side) (c : Cluster) (f : FV) (s : State) : Out := vectorOp e c (.vaddus e c f) f true (fun a b _ => satU (a.toNat + b.toNat)) s

/-- VADDSS. -/
def execVaddss (e : Side) (c : Cluster) (f : FV) (s : State) : Out := vectorOp e c (.vaddss e c f) f true (fun a b _ => satS (a.toInt + b.toInt)) s

/-- VSUB. -/
def execVsub (e : Side) (c : Cluster) (f : FV) (s : State) : Out := vectorOp e c (.vsub e c f) f true (fun a b _ => a - b) s

/-- VSUBUS. -/
def execVsubus (e : Side) (c : Cluster) (f : FV) (s : State) : Out := vectorOp e c (.vsubus e c f) f true (fun a b _ => satU ((a.toNat : Int) - b.toNat)) s

/-- VSUBSS. -/
def execVsubss (e : Side) (c : Cluster) (f : FV) (s : State) : Out := vectorOp e c (.vsubss e c f) f true (fun a b _ => satS (a.toInt - b.toInt)) s

/-- VMINU. -/
def execVminu (e : Side) (c : Cluster) (f : FV) (s : State) : Out := vectorOp e c (.vminu e c f) f true (fun a b _ => if a.toNat ≤ b.toNat then a else b) s

/-- VMAXU. -/
def execVmaxu (e : Side) (c : Cluster) (f : FV) (s : State) : Out := vectorOp e c (.vmaxu e c f) f true (fun a b _ => if a.toNat ≤ b.toNat then b else a) s

/-- VMINS. -/
def execVmins (e : Side) (c : Cluster) (f : FV) (s : State) : Out := vectorOp e c (.vmins e c f) f true (fun a b _ => if a.toInt ≤ b.toInt then a else b) s

/-- VMAXS. -/
def execVmaxs (e : Side) (c : Cluster) (f : FV) (s : State) : Out := vectorOp e c (.vmaxs e c f) f true (fun a b _ => if a.toInt ≤ b.toInt then b else a) s

/-- VAND. -/
def execVand (e : Side) (c : Cluster) (f : FV) (s : State) : Out := vectorOp e c (.vand e c f) f true (fun a b _ => a &&& b) s

/-- VOR. -/
def execVor (e : Side) (c : Cluster) (f : FV) (s : State) : Out := vectorOp e c (.vor e c f) f true (fun a b _ => a ||| b) s

/-- VXOR. -/
def execVxor (e : Side) (c : Cluster) (f : FV) (s : State) : Out := vectorOp e c (.vxor e c f) f true (fun a b _ => a ^^^ b) s

/-- VANDN. -/
def execVandn (e : Side) (c : Cluster) (f : FV) (s : State) : Out := vectorOp e c (.vandn e c f) f true (fun a b _ => a &&& ~~~b) s

/-- VMULLO. -/
def execVmullo (e : Side) (c : Cluster) (f : FV) (s : State) : Out := vectorOp e c (.vmullo e c f) f true (fun a b _ => a * b) s

/-- VMULHU. -/
def execVmulhu (e : Side) (c : Cluster) (f : FV) (s : State) : Out := vectorOp e c (.vmulhu e c f) f true (fun a b _ => BitVec.ofNat 16 (a.toNat * b.toNat / 65536)) s

/-- VMULHS. -/
def execVmulhs (e : Side) (c : Cluster) (f : FV) (s : State) : Out := vectorOp e c (.vmulhs e c f) f true (fun a b _ => BitVec.ofInt 16 ((a.toInt * b.toInt).fdiv 65536)) s

/-- VMULN. -/
def execVmuln (e : Side) (c : Cluster) (f : FV) (s : State) : Out := vectorOp e c (.vmuln e c f) f true (fun a b _ => BitVec.ofInt 16 (rnd65535 (a.toNat * b.toNat))) s

/-- VMULG. -/
def execVmulg (e : Side) (c : Cluster) (f : FV) (s : State) : Out := vectorOp e c (.vmulg e c f) f true (fun a b _ => BitVec.ofNat 16 (min 65535 (a.toNat * b.toNat / 128))) s

/-- VSHL. -/
def execVshl (e : Side) (c : Cluster) (f : FV) (s : State) : Out := vectorOp e c (.vshl e c f) f true (fun a b _ => a <<< (b.toNat % 16)) s

/-- VSHRU. -/
def execVshru (e : Side) (c : Cluster) (f : FV) (s : State) : Out := vectorOp e c (.vshru e c f) f true (fun a b _ => a >>> (b.toNat % 16)) s

/-- VSHRS. -/
def execVshrs (e : Side) (c : Cluster) (f : FV) (s : State) : Out := vectorOp e c (.vshrs e c f) f true (fun a b _ => a.sshiftRight (b.toNat % 16)) s

/-- VABSDU. -/
def execVabsdu (e : Side) (c : Cluster) (f : FV) (s : State) : Out := vectorOp e c (.vabsdu e c f) f true (fun a b _ => BitVec.ofNat 16 ((a.toNat : Int) - b.toNat).natAbs) s

/-- VAVGU. -/
def execVavgu (e : Side) (c : Cluster) (f : FV) (s : State) : Out := vectorOp e c (.vavgu e c f) f true (fun a b _ => BitVec.ofNat 16 ((a.toNat + b.toNat + 1) / 2)) s

/-- VMOV: field va is reserved. -/
def execVmov (e : Side) (c : Cluster) (f : FV) (s : State) : Out := vectorOp e c (.vmov e c f) f (f.va == 0) (fun _ b _ => b) s

/-- VIDX: V form only, va and vb reserved. -/
def execVidx (e : Side) (c : Cluster) (f : FV) (s : State) : Out :=
  molia e c (vWords f) (.vidx e c f) f.ecc (!f.bcast && f.va == 0 && f.vb == 0 && predOk f.pred) (fun s =>
    let k := s.cluster e c
    .done (s.setV e c f.vd (lanes k f.pred (k.vreg f.vd) fun l => BitVec.ofNat 16 l.val)) none) s

/-- VSEL: a in active lanes, b in the others; PEN = 0 is ILLEGAL. -/
def execVsel (e : Side) (c : Cluster) (f : FV) (s : State) : Out :=
  molia e c (vWords f) (.vsel e c f) f.ecc (f.pred.getLsbD 4 && bselOk f) (fun s =>
    let k := s.cluster e c
    .done (s.setV e c f.vd (Vector.ofFn fun l =>
      if lane k f.pred l.val then (k.vreg f.va)[l] else operandB k f l)) none) s

/-- VLERP: the weight is the destination's old value. -/
def execVlerp (e : Side) (c : Cluster) (f : FV) (s : State) : Out :=
  vectorOp e c (.vlerp e c f) f true (fun a b d =>
    BitVec.ofInt 16 (a.toNat + rnd65535 (((b.toNat : Int) - a.toNat) * d.toNat))) s

/-- VCMPEQ. -/
def execVcmpeq (e : Side) (c : Cluster) (f : FV) (s : State) : Out := compareOp e c (.vcmpeq e c f) f (fun a b => a == b) s

/-- VCMPNE. -/
def execVcmpne (e : Side) (c : Cluster) (f : FV) (s : State) : Out := compareOp e c (.vcmpne e c f) f (fun a b => a != b) s

/-- VCMPLTU. -/
def execVcmpltu (e : Side) (c : Cluster) (f : FV) (s : State) : Out := compareOp e c (.vcmpltu e c f) f (fun a b => decide (a.toNat < b.toNat)) s

/-- VCMPLEU. -/
def execVcmpleu (e : Side) (c : Cluster) (f : FV) (s : State) : Out := compareOp e c (.vcmpleu e c f) f (fun a b => decide (a.toNat ≤ b.toNat)) s

/-- VCMPLTS. -/
def execVcmplts (e : Side) (c : Cluster) (f : FV) (s : State) : Out := compareOp e c (.vcmplts e c f) f (fun a b => decide (a.toInt < b.toInt)) s

/-- VCMPLES. -/
def execVcmples (e : Side) (c : Cluster) (f : FV) (s : State) : Out := compareOp e c (.vcmples e c f) f (fun a b => decide (a.toInt ≤ b.toInt)) s

/-- VRMAXU. -/
def execVrmaxu (e : Side) (c : Cluster) (f : FV) (s : State) : Out := reduceOp e c (.vrmaxu e c f) f (fun xs => xs.foldl max 0) s

/-- VRMINU. -/
def execVrminu (e : Side) (c : Cluster) (f : FV) (s : State) : Out := reduceOp e c (.vrminu e c f) f (fun xs => xs.foldl min 65535) s

/-- VRSUM. -/
def execVrsum (e : Side) (c : Cluster) (f : FV) (s : State) : Out := reduceOp e c (.vrsum e c f) f (fun xs => xs.sum) s

/-- PAND. -/
def execPand (e : Side) (c : Cluster) (f : FP) (s : State) : Out := predOp e c (.pand e c f) f true (fun a b => a &&& b) s

/-- POR. -/
def execPor (e : Side) (c : Cluster) (f : FP) (s : State) : Out := predOp e c (.por e c f) f true (fun a b => a ||| b) s

/-- PXOR. -/
def execPxor (e : Side) (c : Cluster) (f : FP) (s : State) : Out := predOp e c (.pxor e c f) f true (fun a b => a ^^^ b) s

/-- PANDN. -/
def execPandn (e : Side) (c : Cluster) (f : FP) (s : State) : Out := predOp e c (.pandn e c f) f true (fun a b => a &&& ~~~b) s

/-- PNOT: pb is reserved. -/
def execPnot (e : Side) (c : Cluster) (f : FP) (s : State) : Out := predOp e c (.pnot e c f) f (f.pb == 0) (fun a _ => ~~~a) s
/-- PSET: pa and pb are reserved. -/
def execPset (e : Side) (c : Cluster) (f : FP) (s : State) : Out :=
  predOp e c (.pset e c f) f (f.pa == 0 && f.pb == 0) (fun _ _ => BitVec.allOnes 64) s
/-- PCLR: pa and pb are reserved. -/
def execPclr (e : Side) (c : Cluster) (f : FP) (s : State) : Out := predOp e c (.pclr e c f) f (f.pa == 0 && f.pb == 0) (fun _ _ => 0) s

/-- PRANGE: lanes with S[sa] ≤ L < S[sb] as S32. -/
def execPrange (e : Side) (c : Cluster) (f : FPR) (s : State) : Out :=
  molia e c 1 (.prange e c f) f.ecc (f.rsv == 0) (fun s =>
    let k := s.cluster e c
    let lo := (k.sreg f.sa).toInt
    let hi := (k.sreg f.sb).toInt
    .done (s.setP e c f.pd (predOf fun l => decide (lo ≤ l) && decide ((l : Int) < hi))) none) s

/-- VLDW (R195). -/
def execVldw (e : Side) (c : Cluster) (f : FVM) (s : State) : Out := vectorLoad e c (.vldw e c f) f 2 s
/-- VLDB. -/
def execVldb (e : Side) (c : Cluster) (f : FVM) (s : State) : Out := vectorLoad e c (.vldb e c f) f 1 s
/-- VSTW. -/
def execVstw (e : Side) (c : Cluster) (f : FVM) (s : State) : Out := vectorStore e c (.vstw e c f) f 2 s
/-- VSTB. -/
def execVstb (e : Side) (c : Cluster) (f : FVM) (s : State) : Out := vectorStore e c (.vstb e c f) f 1 s

/-! ### Lookup (R196) -/

/-- Entry `i` of the table at `t`. -/
def entry (s : State) (e : Side) (c : Cluster) (t i : Nat) : Nat := scrNat s e c (t + 2 * i) 2

/-- VLUT and VLUTI: `g` gives a lane from the table and its operand. -/
def lookup (e : Side) (c : Cluster) (i : Instr) (f : FL) (interp : Bool) (g : State → Nat → Half → Half) (s : State) : Out :=
  molia e c 1 i f.ecc (f.rsv == 0 && predOk f.pred && (!interp || f.sh != 0)) (fun s =>
    let k := s.cluster e c
    let t := (k.sreg f.sb).toNat
    loadAt s e c t (2 * (65536 / 2 ^ f.sh.toNat + interp.toNat)) 2 f.ecc fun s =>
      s.setV e c f.vd (lanes k f.pred (k.vreg f.vd) fun l => g s t (k.vreg f.va)[l])) s

/-- VLUT. -/
def execVlut (e : Side) (c : Cluster) (f : FL) (s : State) : Out :=
  lookup e c (.vlut e c f) f false (fun s t a => BitVec.ofNat 16 (entry s e c t (a.toNat / 2 ^ f.sh.toNat))) s

/-- VLUTI. -/
def execVluti (e : Side) (c : Cluster) (f : FL) (s : State) : Out :=
  lookup e c (.vluti e c f) f true (fun s t a =>
    let sh := f.sh.toNat
    let i := a.toNat / 2 ^ sh
    let t0 : Int := entry s e c t i
    let t1 : Int := entry s e c t (i + 1)
    BitVec.ofInt 16 (t0 + rnd2 ((t1 - t0) * (a.toNat % 2 ^ sh : Nat)) sh)) s

/-! ### Resampling (R197) -/

/-- Bytes checked from B for `w` samples of type `t`; none for a type not listed. The last gain of a G8 row stands one
byte behind the bytes checked. -/
def rowBytes (t w : Nat) : Option Nat :=
  match t with
  | 0 => some w
  | 1 => some (2 * w)
  | 2 => some (5 * ceilDiv w 4)
  | 3 => some (2 * w)
  | 4 => some (2 * w - 1)
  | _ => none

/-- Sample `i` of a row at `b`. -/
def sample (s : State) (e : Side) (c : Cluster) (t b i : Nat) : Nat :=
  match t with
  | 0 => scrNat s e c (b + i) 1
  | 1 => scrNat s e c (b + 2 * i) 2
  | 2 => scrNat s e c (b + 5 * (i / 4)) 5 / 2 ^ (10 * (i % 4)) % 1024
  | 3 => scrNat s e c (b + 2 * i) 1
  | _ => scrNat s e c (b + 2 * i + 1) 1

/-- The highest sample index that a lane at position `p` reads in a row of `w` samples. -/
def lastIndex (lin : Bool) (w : Nat) (p : Int) : Int :=
  if !lin then clampI ((p + 0x8000).fdiv 65536) 0 (w - 1)
  else
    let i := p.fdiv 65536
    if i < 0 then 0 else if i ≥ (w : Int) - 1 then w - 1 else i + 1

/-- Lane value at position `p` (16 fractional bits) of a row of `w` samples `g`. -/
def resample (lin : Bool) (w : Nat) (p : Int) (g : Nat → Nat) : Int :=
  if !lin then g (clampI ((p + 0x8000).fdiv 65536) 0 (w - 1)).toNat
  else
    let i := p.fdiv 65536
    if i < 0 then g 0
    else if i ≥ (w : Int) - 1 then g (w - 1)
    else
      let a : Int := g i.toNat
      let b : Int := g (i.toNat + 1)
      a + rnd2 ((b - a) * p.emod 65536) 16

/-- VRS: W = 0, or an ETYPE not listed, raises SCR_RANGE. DEDUCED: log 124. -/
def execVrs (e : Side) (c : Cluster) (f : FRS) (s : State) : Out :=
  molia e c 1 (.vrs e c f) f.ecc (f.rsv == 0 && predOk f.pred && f.g != 0) (fun s =>
    let k := s.cluster e c
    let r (j : Nat) : Word := k.sreg (BitVec.ofNat 4 (4 * f.g.toNat + j))
    let b := (r 0).toNat
    let w := (r 3).toNat % 65536
    let t := (r 3).toNat / 65536 % 8
    match rowBytes t w with
    | none => .exc 3
    | some n =>
      -- R185: the last gain must lie inside scratch where an active lane reads it
      let reads (l : Fin 64) : Bool :=
        t = 4 && lane k f.pred l.val && lastIndex f.lin w ((r 1).toInt + l.val * (r 2).toInt) = (w : Int) - 1
      let n := if (List.finRange 64).any reads then n + 1 else n
      if w = 0 then .exc 3
      else loadAt s e c b n (if t = 1 then 2 else 1) f.ecc fun s =>
        s.setV e c f.vd (lanes k f.pred (k.vreg f.vd) fun l =>
          BitVec.ofInt 16 (resample f.lin w ((r 1).toInt + l.val * (r 2).toInt) (sample s e c t b)))) s

end Sys2Proof.Machine
end

