-- ==== Sys2Proof/Machine/Mooring.lean ====
section
/-! DEFINITION. The mooring port (R404) with its wake (R401), and the IEEE 1149.1 operations of CFG_RECOVER (R415). -/

namespace Sys2Proof.Machine

/-! ### The mooring port -/

/-- The reply of a transaction: acknowledged, and the bytes sent. -/
def mpReply (ack : Bool) (bytes : List Byte) (s : State) : State :=
  { s with pwr := { s.pwr with mpAck := ack, mpSent := bytes } }

/-- Does the port answer at `addr`: 0x38 + MP_ADDR, with VDD_AON present? PRESUMED: log 82. -/
def mpMatch (addr : Byte) (s : State) : Bool :=
  s.mode != .off && !s.pwr.brownOut && addr.toNat == 0x38 + s.pwr.mpAddr.toNat

/-- Does `off` name an always-on register? -/
def mpOffset (off : Byte) : Bool := off.toNat % 4 == 0 && decide (off.toNat < 0x18)

/-- An address match in SLEEP wakes when enabled, and records event 14 (R401). PRESUMED: log 82. -/
def mpWake (s : State) : State :=
  if s.mode == .sleep && s.bit F.AON_WAKECFG_MP_WAKE then startWake 2 (latchEvt 14 s) else s

/-- MOORING_WRITE: `crc` covers the address byte, the offset and the four data bytes. PRESUMED: log 82. -/
def execMooringWrite (addr off : Byte) (v : Word) (crc : Byte) (s : State) : Out :=
  if !mpMatch addr s then finish (mpReply false [] s)
  else
    let s := mpWake s
    if mpOffset off && crc == crc8 ([2 * addr, off] ++ toLe 4 v.toNat) then
      finish (mpReply true [] (putReg 0 (0x20100 + off.toNat) v s))
    else finish (mpReply false [] s)

/-- MOORING_READ: the register's bytes, then the CRC-8 over the address byte of the read, the offset and them.
PRESUMED: log 82. -/
def execMooringRead (addr off : Byte) (s : State) : Out :=
  if !mpMatch addr s then finish (mpReply false [] s)
  else
    let s := mpWake s
    if mpOffset off then
      let d := toLe 4 (viewReg 0 s (0x20100 + off.toNat)).toNat
      finish (mpReply true (d ++ [crc8 ([2 * addr + 1, off] ++ d)]) s)
    else finish (mpReply false [] s)

/-! ### IEEE 1149.1 -/

/-- TRST_N low resets the test logic only (R430). DEDUCED: log 81. -/
def execTrstN (s : State) : Out :=
  finish { s with store := { s.store with jtagWord := 0, jtagDone := false, jtagFail := false, jtagOut := 0 } }

/-- CFG_RECOVER_WRITE, OP 0b01: the next word of the inactive SAFECFG bank; the first word of a sequence erases it.
Words beyond the bank are not stored; while the window of R390 is closed nothing is erased or programmed, and the word
is lost. DEDUCED: log 81. -/
def execCfgRecoverWrite (v : Word) (s : State) : Out :=
  if !s.mode.dieOn || s.pwr.inReset then finish s
  else
    let b := bankBase 3 (inactiveBank s 3)
    let n := s.store.jtagWord
    let put (s : State) : State :=
      let s := if n = 0 then eraseStore b (bankSize 3) s else s
      if 4 * n < bankSize 3 then putStore (b + 4 * n) (toLe 4 v.toNat) s else s
    let s := if storeWindow s then put s else s
    finish { s with store := { s.store with jtagWord := n + 1 } }

/-- CFG_RECOVER_COMMIT, OP 0b10: the written block is checked under R329, and only if it passes, with the window of
R390 open, is the record written. DEDUCED: log 81. -/
def execCfgRecoverCommit (s : State) : Out :=
  if !s.mode.dieOn || s.pwr.inReset then finish s
  else
    let bank := inactiveBank s 3
    let len := min (4 * s.store.jtagWord) (bankSize 3)
    let ok := cfgCheck (storeBytes s (bankBase 3 bank) len) == 0 && storeWindow s
    let s := if ok then writeRec 3 bank len s else s
    let gen := match latestRec s 3 with | some r => if ok then [r.gen] else [] | none => []
    finish { s with store := { s.store with
      jtagWord := 0, jtagDone := ok, jtagFail := !ok, cfgSkip := s.store.cfgSkip ++ gen } }

/-- CFG_RECOVER_STATUS, OP 0b11: bit 0 committed, bit 1 check failed. DEDUCED: log 81. -/
def execCfgRecoverStatus (s : State) : Out :=
  if !s.mode.dieOn || s.pwr.inReset then finish s
  else
    finish { s with store := { s.store with
      jtagOut := BitVec.ofNat 32 (s.store.jtagDone.toNat + 2 * s.store.jtagFail.toNat) } }

end Sys2Proof.Machine
end

