-- ==== Sys2Proof/Machine/RailCmds.lean ====
section
/-! DEFINITION. The PMBus rows (R107 to R109): what the end of one attempt does, and the rail timers and monitors
(R101, R112, R116, R117, R119 to R121). A VOUT_MODE exponent N lies in −12 to −6, so a reading v stands for
v × 2^(N + 12) units of 1/4,096 V exactly. -/

namespace Sys2Proof.Machine

/-! ### Attempts (R109) -/

/-- The 7-bit address of a regulator (R107, R120). -/
def addrOf (s : State) : PmTarget → Nat
  | .zone z => s.fld ⟨0x140040 + 4 * z.val, 0, 7⟩
  | .logic i => 0x40 + i.val

def nakFld (b : Fin 3) : Fld := ⟨0x140008, 8 * b.val, 8⟩

/-- Three consecutive transactions that end in event 48 make a zone's regulator faulty (R112). -/
def count48 (t : PmTarget) (s : State) : State :=
  match t with
  | .logic _ => s
  | .zone z =>
    let s := s.updRail z fun r => { r with fail48 := r.fail48 + 1 }
    if s.rail.z[z].fail48 ≥ 3 then judgeFaulty z 4 s else s

/-- The configuration transactions, which a regulator must carry out at BOOT (R107, R110). -/
def isConfig (code : Nat) : Bool :=
  code = 0x02 || code = 0x03 || code = 0x19 || code = 0x20 || code = 0x24 || code = 0x64

/-- A regulator that does not carry out a configuration transaction fails configuration (R112). DEDUCED: log 88. -/
def configFail (t : PmTarget) (code : Nat) (s : State) : State :=
  match t with
  | .zone z => if (s.mode == .boot || s.mode == .calibrate) && isConfig code then judgeFaulty z 5 s else s
  | .logic _ => s

/-! ### The order on a bus (R110)

Polls, READ_IOUT and the configuration of BOOT come at their times, which the rows give; what else waits stands in
State. -/

/-- Kinds of R110, first to last. -/
def kindOf (s : State) (x : PmReq) : Nat :=
  match x.target with
  | .logic _ => 1
  | .zone z =>
    if x.code = 0x21 then
      (match s.rail.z[z].wr with | some w => if w.up && (s.rail.z[z].seq != .none || zenLow s z) then 1 else 5 | none => 5)
    else if x.code = 0x8B then 2
    else if x.code = 0x79 then (if s.rail.statusDue.contains x.target && s.rail.z[z].seq == .none then 3 else 2)
    else if x.code = 0x7A then 3
    else if x.code = 0x8C then 6
    else 4

/-- The zone number of a transaction's regulator, or the logic rail's. -/
def orderNo : PmTarget → Nat
  | .zone z => z.val
  | .logic i => i.val

/-- Does `x` go before `y`? -/
def goesBefore (s : State) (x y : PmReq) : Bool :=
  kindOf s x < kindOf s y || (kindOf s x = kindOf s y && orderNo x.target < orderNo y.target)

/-- Does the LX2100 drive the PMBus lines of bus `b` (R454)? PMB0 and PMB1 from BOOT, where they carry configuration, but
not under the firmware monitor; PMB2 from WAKE; none in a reset. DEDUCED: log 92. -/
def busDriven (s : State) (b : Fin 3) : Bool :=
  !s.pwr.inReset &&
    (if b = 2 then s.mode != .off && s.mode != .sleep else s.mode.dieOn && (s.mode != .boot || s.pwr.bootDue))

/-- Can an attempt of the transaction `code` to regulator `t` end now? The retries of a transaction come before any
other; else nothing that waited when the bus chose, and still waits, goes before it. At BOOT configuration is
the only traffic of PMB0 and PMB1. DESIGN CHOICE: log 87. -/
def admitted (s : State) (t : PmTarget) (code : Nat) : Bool :=
  let b := busOf t
  busDriven s b && match s.rail.bus[b] with
  | some q => q.target = t && (q.code = code || q.code = 0)
  | none =>
    (s.mode != .boot || b = 2 || isConfig code)
      && !(s.rail.queued[b].any fun x => (busWaiting s b).contains x && goesBefore s x ⟨t, code, 0⟩)

/-- Failed attempts so far of the transaction `code` to regulator `t` (R109). -/
def failsBefore (s : State) (t : PmTarget) (code : Nat) : Nat :=
  match s.rail.bus[busOf t] with
  | some q => if q.target = t ∧ q.code = code then q.fails else 0
  | none => 0

/-- A transaction to regulator `t` has ended: its bus is free. -/
def busFree (t : PmTarget) (s : State) : State :=
  let b := busOf t
  choose b { s with rail := { s.rail with bus := s.rail.bus.set b none } }

/-- Does PAGE precede the transactions of regulator `t` (R107)? PAGE is not used on PMB2 (R120). -/
def isPaged (s : State) : PmTarget → Bool
  | .zone z => s.fld ⟨0x140040 + 4 * z.val, 16, 1⟩ = 1
  | .logic _ => false

/-- The transaction `code` to regulator `t` is abandoned (R109): it is not sent again. A retry of R116 fails with it; a
bring-up or a release goes no further and ends at its limit; an upward write that is not done limits the frame as
before (R103). -/
def abandon (t : PmTarget) (code : Nat) (s : State) : State :=
  let r := s.rail
  let s : State := { s with rail := { r with statusDue := if code = 0x79 then r.statusDue.erase t else r.statusDue
                                             voutDue := if code = 0x7A then r.voutDue.erase t else r.voutDue } }
  match t with
  | .logic _ => s
  | .zone z =>
    if s.rail.z[z].seq == .retry then seqFailed z s
    else s.updRail z fun r =>
      let step := (code = 0x21 && r.stage == .write) || (code = 0x03 && r.stage == .clear)
      { r with wr := if code = 0x21 then r.wr.map fun w => { w with dropped := !w.acked } else r.wr
               stage := if r.seq != .none && step then .dropped else r.stage }

/-- An attempt of `code`, or of PAGE before it, fails (R109): a third failure abandons the transaction `own` with event
48. -/
def attemptFails (t : PmTarget) (code own : Nat) (s : State) : State :=
  let b := busOf t
  let s := s.inc (nakFld b)
  let n := failsBefore s t code + 1
  if n < 3 then
    { s with rail := { s.rail with bus := s.rail.bus.set b (some { target := t, code := code, fails := n }) } }
  else
    let s := raiseAll 48 (b.val + addrOf s t * 256 + code * 65536) s
    busFree t (count48 t (configFail t own (abandon t own s)))

/-- One attempt of the transaction `code` to regulator `t` ends (R109). On success `f` has the word read. An attempt
that R110 does not let the bus carry now changes nothing, nor does a PAGE to a regulator without one.
DESIGN CHOICE: log 87. -/
def attempt (t : PmTarget) (code : Nat) (r : PmResult) (f : Half → State → State) (s : State) : State :=
  if !admitted s t code then s
  else match r with
    | .ok v =>
      let s := match t with
        | .zone z => s.updRail z fun r => { r with fail48 := 0 }
        | .logic _ => s
      busFree t (f v s)
    | .failed => attemptFails t code code s
    | .pageFailed => if isPaged s t && failsBefore s t code = 0 then attemptFails t 0 code s else s

/-! ### Readings -/

/-- Units of 1/4,096 V in one count at exponent `e` (R108). -/
def countUnits (e : Int) : Nat := 2 ^ (e + 12).toNat

/-- VOUT_COMMAND for `mv` millivolts: multiplied by 2^−N and rounded up (R108). A count above 16 bits stays as it is: no
reading of 16 bits comes near it. DESIGN CHOICE: log 160. -/
def voutCode (mv : Nat) (e : Int) : Nat := ceilDiv (mv * 2 ^ (-e).toNat) 1000

/-- Is the reading within ±`pct` % of the value written? -/
def withinPct (pct v code : Nat) : Bool :=
  decide (v * 100 ≤ code * (100 + pct)) && decide (code * (100 - pct) ≤ v * 100)

/-- A reading rounded down to 20 mV (R122). -/
def verified20 (v : Nat) (e : Int) : Nat := v * countUnits e * 50 / 4096

/-- Is `z`'s regulator in a sequence? -/
def inSeq (s : State) (z : Zone) : Bool := s.rail.z[z].seq != .none

/-! ### The zone regulators -/

/-- VOUT_COMMAND acknowledged: ZEN_N goes low in a sequence, which polls from then on (R119 step 2); a write made while
ZEN_N is high is done (R101). -/
def voutAcked (z : Zone) (s : State) : State :=
  match s.rail.z[z].wr with
  | none => s
  | some w =>
    let ack (r : ZoneRail) : ZoneRail := { r with wr := some { w with acked := true } }
    if w.dropped then s
    else if inSeq s z && s.rail.z[z].stage == .write then
      (s.updRail z fun r => { ack r with reqB := true, stage := .poll }).setBit (F.RAIL_ZREQ_CHECKING z) true
    else if zenLow s z then (s.updRail z ack).setBit (F.RAIL_ZREQ_CHECKING z) true
    else (s.updRail z fun r => { r with wr := none, movedFrom := 0 }).setBit (F.RAIL_ZREQ_CHECKING z) false

/-- The request of logic rail `i` has ended step `n` of R120. -/
def logicStepped (i : Fin 8) (n : Nat) (s : State) : State :=
  if s.mode == .wake && s.pwr.railsUp = i.val && s.rail.logicStep = n then
    { s with rail := { s.rail with logicStep := n + 1 } }
  else s

/-- VOUT_COMMAND: a zone's target (R101, R107), or a logic rail's nominal value at WAKE (R120 step 1).
DESIGN CHOICE: log 87. -/
def execVoutCommand (t : PmTarget) (r : PmResult) (s : State) : Out :=
  finishCut (attempt t 0x21 r (fun _ s => match t with
    | .zone z => voutAcked z s
    | .logic i => logicStepped i 1 s) s)

/-- The write of `z` is done. -/
def checkDone (z : Zone) (s : State) : State :=
  (s.updRail z fun r => { r with wr := none, movedFrom := 0 }).setBit (F.RAIL_ZREQ_CHECKING z) false

/-- The write of `z` is done, and the sequence it belongs to ends. -/
def writeDone (z : Zone) (s : State) : State := checkDone z (s.updRail z fun r => { r with seq := .none })

/-- The sequence that polls: while a bring-up waits or writes, the regulator's own write is checked as such. -/
def polling (r : ZoneRail) : RailSeq := if r.stage == .poll then r.seq else .none

/-- The release check has passed: R93 runs in reverse, and the rail follows R100 and R118 on its own regulator
(R95 step 3). -/
def releaseDone (z : Zone) (v20 : Nat) (s : State) : State :=
  let serve := inService s z
  let s := (writeDone z (setCrossedBit z false s)).setFld (F.RAIL_ZREQ_VERIFIED z) v20
  let s := s.setFld (F.RAIL_ZSTAT_STATE z) (if serve then 1 else 0)
  s.updRail z fun r => { r with faulty := false, upFails := 0, fail48 := 0, reqB := serve, exempt := false }

/-- A reading within ±1 % (R101): the write is done, or the sequence it belongs to. DEDUCED: log 89, 90. -/
def readingGood (z : Zone) (v : Nat) (s : State) : State :=
  let r := s.rail.z[z]
  let v20 := verified20 v r.exp
  match polling r with
  | .none =>
    let late : Bool := match r.wr with | some w => w.late | none => false
    let up : Bool := match r.wr with | some w => w.up | none => false
    let s := (checkDone z s).setFld (F.RAIL_ZREQ_VERIFIED z) v20
    let s := if feedsPair s z then s.setFld (F.RAIL_ZREQ_VERIFIED (partner z)) v20 else s
    if up && !late then s.updRail z fun r => { r with upFails := 0 } else s
  | .bringup => if r.pgood then verified z (20 * v20) (writeDone z s) else s
  | .release => if r.pgood then releaseDone z v20 s else s
  | .retry =>
    (writeDone z s).setFld (F.RAIL_ZREQ_VERIFIED z) v20 |>.updRail z fun r =>
      { r with faulty := false, upFails := 0, fail48 := 0, back := true }

/-- A zone regulator's READ_VOUT: the latest reading after the write counts for R103. -/
def zoneVout (z : Zone) (v : Nat) (s : State) : State :=
  let r := s.rail.z[z]
  match r.wr with
  | none => s
  | some w =>
    if !w.acked then s
    else
      let s := s.updRail z fun r => { r with vrd := some (v * countUnits r.exp) }
      if withinPct 1 v (voutCode w.mv r.exp) then readingGood z v s else s

/-! ### The logic rails (R120, R121) -/

/-- Nominal voltages of the logic rails in mV, in the order of R120. -/
def logicMv (i : Fin 8) : Nat := [3300, 1800, 1800, 750, 850, 800, 900, 5000].getD i.val 0

def lpgFld (i : Fin 8) : Fld := ⟨0x14000C, i.val, 1⟩
def lfaultFld (i : Fin 8) : Fld := ⟨0x14000C, 8 + i.val, 1⟩

/-- Note whether the fault of logic rail `i` shows. -/
def markLogic (i : Fin 8) (bad : Bool) (s : State) : State :=
  let m : BitVec 8 := BitVec.ofNat 8 (2 ^ i.val)
  { s with rail := { s.rail with logicBad := if bad then s.rail.logicBad ||| m else s.rail.logicBad &&& ~~~m } }

/-- A logic regulator fault after WAKE: supply loss, every zone cut, SAFE-DARK (R121), once for each onset (R339).
DEDUCED: log 92. -/
def logicFault (i : Fin 8) (s : State) : State :=
  if !s.mode.dieOn || s.rail.logicBad.getLsbD i.val then s
  else deviceLockout 5 (raiseAll 54 (i.val + 1 + 16) (s.setBit (lfaultFld i) true |> markLogic i true))

/-- Does logic rail `i` poll at WAKE (R120 step 3)? -/
def logicPolls (s : State) (i : Fin 8) : Bool := s.mode == .wake && s.pwr.railsUp = i.val && s.rail.logicStep = 3

/-- A logic rail's READ_VOUT in WAKE: within ±3 % of nominal with POWER_GOOD# clear, the rail is good and the next
one starts (R120 step 4). DEDUCED: log 98. -/
def logicVout (i : Fin 8) (v : Nat) (s : State) : State :=
  let e := s.rail.logicExp[i]
  let good := withinPct 3 (v * countUnits e * 1000) (logicMv i * 4096)
  if logicPolls s i && s.rail.logicPg.getLsbD i.val && good then
    let s := s.setBit (lpgFld i) true
    { s with pwr := { s.pwr with railsUp := i.val + 1 }, rail := { s.rail with logicStep := 0 } }
  else s

/-- READ_VOUT (R101, R120). DESIGN CHOICE: log 87. -/
def execReadVout (t : PmTarget) (r : PmResult) (s : State) : Out :=
  finishCut (attempt t 0x8B r (fun v s => match t with
    | .zone z => zoneVout z v.toNat s
    | .logic i => logicVout i v.toNat s) s)

/-! ### STATUS (R112) -/

/-- Bits of STATUS_WORD: POWER_GOOD#, OFF and VOUT (R112). -/
def powerGoodN (w : Half) : Bool := w.getLsbD 11
def statusOff (w : Half) : Bool := w.getLsbD 6
def statusVfault (w : Half) : Bool := w.getLsbD 15

/-- A zone regulator's STATUS_WORD. The polls of a sequence wait for POWER_GOOD# to clear; OFF or a VOUT fault, and
outside such polls POWER_GOOD# too, judge the regulator faulty while ZEN_N is low. DEDUCED: log 89. -/
def zoneStatus (z : Zone) (w : Half) (s : State) : State :=
  let polls := polling s.rail.z[z] != .none
  let bad := statusOff w || statusVfault w || (powerGoodN w && !polls)
  if zenLow s z && bad then (if inSeq s z then seqFault z s else judgeFaulty z 2 s)
  else if polls then s.updRail z fun r => { r with pgood := !powerGoodN w }
  else s

/-- A logic regulator's STATUS_WORD: a poll in WAKE, a supply fault later (R120, R121). DEDUCED: log 92. -/
def logicStatus (i : Fin 8) (w : Half) (s : State) : State :=
  if s.mode == .wake then
    if !logicPolls s i then s else
    let m : BitVec 8 := BitVec.ofNat 8 (2 ^ i.val)
    let pg : BitVec 8 := if powerGoodN w then s.rail.logicPg &&& ~~~m else s.rail.logicPg ||| m
    { s with rail := { s.rail with logicPg := pg } }
  else
    let s := if powerGoodN w then s.setBit (lpgFld i) false else s
    if powerGoodN w || statusVfault w then logicFault i s else markLogic i false s

/-- STATUS_WORD (R112): a VOUT fault has its detail read next (R107). DESIGN CHOICE: log 87. -/
def execStatusWord (t : PmTarget) (r : PmResult) (s : State) : Out :=
  finishCut (attempt t 0x79 r (fun w s =>
    let due := if statusVfault w then s.rail.voutDue ++ [t] else s.rail.voutDue
    let s := enqueue (busOf t) (fun s =>
      { s with rail := { s.rail with statusDue := s.rail.statusDue.erase t, voutDue := due } }) s
    match t with
    | .zone z => zoneStatus z w s
    | .logic i => logicStatus i w s) s)

/-- STATUS_VOUT (R107): the detail is read; nothing the chapters name holds it.
DESIGN CHOICE: log 87. DEDUCED: log 91. -/
def execStatusVout (t : PmTarget) (r : PmResult) (s : State) : Out :=
  finish (attempt t 0x7A r (fun _ s =>
    { s with rail := { s.rail with voutDue := s.rail.voutDue.erase t } }) s)

/-- PMB_ALERT: STATUS reads of every regulator of the bus are queued (R107, R110). DEDUCED: log 91. -/
def execPmbAlert (bus : Fin 3) (s : State) : Out :=
  let ts : List PmTarget :=
    if bus = 2 then (List.finRange 8).map PmTarget.logic
    else (allZones.map PmTarget.zone).filter fun t => busOf t = bus
  let new := ts.filter fun t => !s.rail.statusDue.contains t
  if !busDriven s bus then finish s
  else finish (enqueue bus (fun s => { s with rail := { s.rail with statusDue := s.rail.statusDue ++ new } }) s)

/-- Is READ_IOUT of zone `z` due: one zone per bus per frame, round robin (R107)? -/
def ioutDue (s : State) (z : Zone) : Bool :=
  let b := zoneBus z
  s.rail.ioutNext[b].val = z.val % 8 && !s.rail.ioutDone[b]

/-- READ_IOUT (R107, R383): a transaction that has ended makes the next zone's due, one per frame. -/
def execReadIout (z : Zone) (r : PmResult) (s : State) : Out :=
  let b := zoneBus z
  if !ioutDue s z || !admitted s (.zone z) 0x8C then finishCut s
  else
    let s := attempt (.zone z) 0x8C r (fun v s => s.updRail z fun r => { r with iout := v }) s
    finishCut (if (s.rail.bus[busOf (.zone z)]).isSome then s
      else { s with rail := { s.rail with ioutNext := s.rail.ioutNext.set b (s.rail.ioutNext[b] + 1)
                                          ioutDone := s.rail.ioutDone.set b s.seq.running } })

/-! ### Configuration (R107, R108) -/

/-- CLEAR_FAULTS (R107): it acts on the regulator; in a release or a retry the VOUT_COMMAND follows (R95, R116). -/
def execClearFaults (z : Zone) (r : PmResult) (s : State) : Out :=
  finishCut (attempt (.zone z) 0x03 r (fun _ s =>
    let k := s.rail.z[z]
    if (k.seq == .release || k.seq == .retry) && k.stage == .clear then writeSeq z s else s) s)

/-- CAPABILITY: PEC support is bit [7]; without it the regulator fails configuration (R106, R108). DEDUCED: log 88. -/
def execCapability (z : Zone) (r : PmResult) (s : State) : Out :=
  finishCut (attempt (.zone z) 0x19 r (fun v s => if v.getLsbD 7 then s else judgeFaulty z 5 s) s)

/-- VOUT_MODE: linear mode with an exponent of −12 to −6 (R106); a logic rail's exponent is taken as read.
DEDUCED: log 88, 98. -/
def execVoutMode (t : PmTarget) (r : PmResult) (s : State) : Out :=
  finishCut (attempt t 0x20 r (fun v s =>
    let e := signed 5 v.toNat
    let fits := bitsOf v.toNat 7 5 = 0 ∧ -12 ≤ e ∧ e ≤ -6
    match t with
    | .zone z => if fits then s.updRail z fun r => { r with exp := e } else judgeFaulty z 5 s
    | .logic i =>
      if fits then logicStepped i 0 { s with rail := { s.rail with logicExp := s.rail.logicExp.set i e } } else s) s)

/-- ON_OFF_CONFIG: 0x14 written and read back (R107). DEDUCED: log 88. -/
def execOnOffConfig (z : Zone) (r : PmResult) (s : State) : Out :=
  finishCut (attempt (.zone z) 0x02 r (fun v s => if bitsOf v.toNat 7 0 = 0x14 then s else judgeFaulty z 5 s) s)

/-- VOUT_MAX: VMAX_z, rounded up as a VOUT_COMMAND is, written and read back (R107). DEDUCED: log 88.
DESIGN CHOICE: log 161. -/
def execVoutMax (z : Zone) (r : PmResult) (s : State) : Out :=
  finishCut (attempt (.zone z) 0x24 r (fun v s =>
    if v.toNat = voutCode (20 * s.fld (F.RAIL_ZCFG_VMAX z)) s.rail.z[z].exp then s else judgeFaulty z 5 s) s)

/-- TOFF_DELAY (R107): it acts on the regulator. -/
def execToffDelay (z : Zone) (r : PmResult) (s : State) : Out := finishCut (attempt (.zone z) 0x64 r (fun _ s => s) s)

/-- OPERATION: a logic rail is turned on, or off, when it is no longer power good (R120, R399). DEDUCED: log 92. -/
def execOperation (i : Fin 8) (on : Bool) (r : PmResult) (s : State) : Out :=
  finish (attempt (.logic i) 0x01 r (fun _ s =>
    let s : State := { s with pwr := { s.pwr with logicOps := s.pwr.logicOps ++ [(i, if on then 0x80 else 0)] } }
    if on then logicStepped i 2 s
    else
      let s := s.setBit (lpgFld i) false
      { s with pwr := { s.pwr with railsUp := min s.pwr.railsUp i.val } }) s)

/-! ### Timers and monitors -/

/-- SETTLE_FAILURE: a write not done 1 ms after its acknowledgement (R101). A write made while ZEN_N was high raises
no event 49: in a retry it ends the retry (R116), and bring-up and release have their own limit.
DEDUCED: log 89, 90. -/
def execSettleFailure (z : Zone) (s : State) : Out :=
  let r := s.rail.z[z]
  match r.wr, polling r with
  | some w, .none =>
    if !w.acked || w.late then finishCut s
    else
      let s := s.updRail z fun r => { r with wr := some { w with late := true }
                                             upFails := if w.up then r.upFails + 1 else r.upFails }
      let s := raiseAll 49 z.val (s.inc (F.RAIL_ZSTAT_SETTLE_FAIL z))
      finishCut (if w.up && s.rail.z[z].upFails ≥ 3 then judgeFaulty z 3 s else s)
  | some w, .retry => finishCut (if w.acked then seqFailed z s else s)
  | _, _ => finishCut s

/-- BRINGUP_TIMEOUT: 10 ms without a verified output (R119 step 5, R95 step 4). DEDUCED: log 89. -/
def execBringupTimeout (z : Zone) (s : State) : Out :=
  finishCut (match s.rail.z[z].seq with
    | .bringup => if s.rail.z[z].stage == .waits then s else seqFailed z s
    | .release => seqFailed z s
    | _ => s)

/-- RAIL_UNDERVOLTAGE: the internal rail below 90 % of the lower of VERIFIED and the target while ZEN_N is low
(R112). -/
def execRailUndervoltage (z : Zone) (mv : Nat) (s : State) : Out :=
  let ref := 20 * min (s.fld (F.RAIL_ZREQ_VERIFIED z)) (target s z)
  finishCut (if zenLow s z && !isCrossed s z && decide (mv * 10 < ref * 9) then judgeFaulty z 1 s else s)

/-- Is `mv` above the overvoltage limit of R117? During a downward move the target before the move counts.
DEDUCED: log 97. -/
def overVolt (s : State) (z : Zone) (mv : Nat) : Bool :=
  let m := s.rail.z[feeder s z].movedFrom
  let ref := 20 * (if m = 0 then target s z else m)
  (decide (ref * 11 < mv * 10) && decide (ref + 1000 < mv)) || decide (27600 < mv)

/-- RAIL_OVERVOLTAGE (R117): event 50 and a zone lock-out of cause 0xB, which a zone already locked out does not enter
again (R339); a CAL_ZONE of the zone is abandoned. -/
def execRailOvervoltage (z : Zone) (mv : Nat) (s : State) : Out :=
  finishCut (if overVolt s z mv then
      let s := (s.setFld (F.RAIL_ZSTAT_FAULT_SRC z) 6).setBit (F.RAIL_ZSTAT_OVLOCK z) true
      zoneLockout z 0xB (raiseAll 50 (z.val + 32) s)
    else s)

/-- STRANDED_RETRY: CLEAR_FAULTS, 6.00 V, ZEN_N low and the settle check, every 100 frames (R116). DEDUCED: log 94. -/
def execStrandedRetry (z : Zone) (s : State) : Out :=
  let m := s.mode
  let retries := m == .dark || m == .lowlight || m == .beam || m == .simplex || m == .service
  let frame := s.fld F.SEQ_FRAME_FRAME
  let due := decide ((frame + 2 ^ 32 - s.rail.z[z].retryAt % 2 ^ 32) % 2 ^ 32 < 2 ^ 31)
  finish (if isStranded s z && s.rail.z[z].faulty && !inSeq s z && retries && due then
      (startSeq z .retry s).updRail z fun r => { r with retryAt := frame + 100 }
    else s)

/-- LOGIC_RAIL_TIMEOUT: the rails already on go off in reverse order and the device returns to SLEEP; the rail and
event 54 are recorded (R120 step 5). DEDUCED: log 92. -/
def execLogicRailTimeout (i : Fin 8) (s : State) : Out :=
  if s.mode == .wake && s.pwr.railsUp = i.val && !s.pwr.inReset then
    let s := (raiseAll 54 (i.val + 1 + 16) s).setFld F.AON_EVTLATCH_RAIL (i.val + 1)
    let s := s.setFld ⟨0x14000C, 0, 8⟩ 0
    let s := logicOff s.pwr.railsUp s
    finish { s with pwr := { s.pwr with mode := .sleep, railsUp := 0 }, rail := { s.rail with logicPg := 0, logicStep := 0 } }
  else finish s

/-- LOGIC_SUPPLY_FAULT (R121). -/
def execLogicSupplyFault (i : Fin 8) (s : State) : Out := finishCut (logicFault i s)

end Sys2Proof.Machine
end

