-- ==== Sys2Proof/Machine/Supply.lean ====
section
/-! DEFINITION. Supplies and resets (R395, R403, R430, R431). -/

namespace Sys2Proof.Machine

/-- All supplies are absent, and a LONG command that runs is cut (R269): only the program store, the straps of MP_ADDR
and what the model itself counts stay. With VDD_AON present the mode is SLEEP, else OFF. -/
def unpowered (m : Mode) (s : State) : State :=
  let s := cutJob s
  { pending := s.pending, now := s.now, free := s.free, store := { mem := s.store.mem }
    pwr := { mode := m, mpAddr := s.pwr.mpAddr, upFrom := s.now } }

/-- POWER_ON: VDD_AON rises from absence (R430, R395). -/
def execPowerOn (s : State) : Out := finish (if s.mode == .off then unpowered .sleep s else s)

/-- SUPPLY_LOSS: every supply is removed (R395, R91, R127, R400). -/
def execSupplyLoss (s : State) : Out := finish (unpowered .off s)

/-- The always-on domain and its retention cells take their reset values. DEDUCED: log 58. -/
def aonReset (s : State) : State :=
  { s with regs := s.regs.filter fun c => !aonHeld c.1
           pwr := { s.pwr with upFrom := s.now, padCap := 0, padLevel := 0, brownOut := true, bootDue := false } }

/-- BROWN_OUT: VDD_AON below 1.60 V for `lowUs` (R403). In WAKE and BOOT too the device enters SAFE-DARK.
DEDUCED: log 57. -/
def execBrownOut (lowUs : Nat) (s : State) : Out :=
  if lowUs ≤ 10 || s.mode == .off || s.pwr.brownOut then finish s
  else if s.mode == .sleep then finish (unpowered .off s)
  else finishCut (deviceLockout 5 (raiseAll 55 0 (aonReset s)))

/-- AON_RECOVERY: the lock-out cells are rewritten, and LAST reads 0x4 (R403). Event 55 is then recorded.
DEDUCED: log 58. -/
def execAonRecovery (s : State) : Out :=
  if !s.pwr.brownOut then finish s
  else
    let s : State := { s with pwr := { s.pwr with brownOut := false, upFrom := s.now } }
    finish (latchEvt 55 ((writeAonLocks s).setFld F.SYS_RSTCAUSE_LAST 4))

/-- RESET_N low for `lowNs`: from 1 µs it resets, below 0.1 µs never, between the two it is open (R430, R463).
DESIGN CHOICE: log 59. -/
def execResetN (lowNs : Nat) (s : State) : Out :=
  if s.mode == .off || s.mode == .sleep || lowNs < 100 then finish s
  else if 1000 ≤ lowNs then finish (startReset 2 s)
  else
    let (f, s) := s.draw
    finish (if f.getLsbD 0 then startReset 2 s else s)

/-- RESET_END: the clock part of WAKE follows (R430). DEDUCED: log 60. -/
def execResetEnd (s : State) : Out := finish { s with pwr := { s.pwr with inReset := false } }

end Sys2Proof.Machine
end

