-- ==== Sys2Proof/Machine/DplxTick.lean ====
section
/-! DEFINITION. What the duplex logic and the mode rules do at a tick: mode entries (R397), exits from HOLD (R398),
failover and second faults (R304, R313, R314), controlled swaps (R306), arbitration (R307), the end of
resynchronisation (R310), HOT_SWAP (R212, R213) and roles after PROG_LOAD (R209). -/

namespace Sys2Proof.Machine

/-! ### Roles -/

/-- Side `e` becomes ACTIVE and the stack takes codes and orders from it, with the failover qualifier `q`. -/
def takeOver (e : Side) (q : Bool) (s : State) : State :=
  let s := (s.setRole e .active).setBit F.DPLX_STAT_ACT_ENG (e == .b)
  { s with tl := { s.tl with selB := e == .b, failover := q, newSel := s.tl.newSel || s.tl.selB != (e == .b) } }

/-- A change of the active side with `cause` of DPLX_FOVER: event 26. DEDUCED: log 127. -/
def roleChange (e : Side) (cause : Nat) (q : Bool) (s : State) : State :=
  let old := sideIx s.actSide
  let s := ((s.inc F.DPLX_FOVER_FO_CNT).setFld F.DPLX_FOVER_LAST_CAUSE cause).setFld F.DPLX_FOVER_LAST_FROM old
  raiseAll 26 cause (takeOver e q s)

/-- The image of HOT_SWAP serves from now on (R212 step 6): TILE_LIMIT, step 8. DEDUCED: log 132. -/
def hotServe (h : HotSwap) (s : State) : State :=
  let s := s.updEng h.newSide fun g => { g with tileLimit := 0 }
  let s := if h.tl = 0 then s else s.setFld F.ENG_BUDGET_TILE_LIMIT h.tl
  { s with dplx := { s.dplx with hot := some { h with step := 8, committed := true } } }

/-- Step 6 of R212; with the store window closed the command has ended and the new engine cold-starts from the old
valid bank (R390). DEDUCED: log 132. -/
def hotTakeover (h : HotSwap) (s : State) : State :=
  let s := hotCommit s
  if s.dplx.hot.isNone then startCold (unitOfSide h.newSide) s
  else
    let s := restartOld (otherSide h.newSide) (hotServe h s)
    raiseAll 31 (sideIx h.newSide) (takeOver h.newSide false s)

/-- The new engine of HOT_SWAP has composed a warm frame and the old one has failed: failover, then step 8 (R213).
DEDUCED: log 132. -/
def hotLead (h : HotSwap) (cause : Nat) (s : State) : State :=
  let s := restartOld (otherSide h.newSide) (roleChange h.newSide cause true (hotServe h s))
  if s.mode == .hold && s.pwr.hold == .hotSwap then enterMode .simplex 5 s else s

/-- The old engine of HOT_SWAP has failed before step 6 (R213). DEDUCED: log 132. -/
def hotFailover (h : HotSwap) (cause : Nat) (s : State) : State :=
  if 1 ≤ h.warmed then hotLead h cause s else enterHold .hotSwap s

/-! ### Failover (R304, R313, R314) -/

/-- May engine `e` be started under R314? DEDUCED: log 130. -/
def canStart (s : State) (e : Side) : Bool :=
  let r := (s.eng e).role
  r == .offline || r == .coldStarting || (r == .failed && s.fld (attemptsFld (unitOfSide e)) ≠ 0)

/-- Start engine `e` from its cold start, in HOLD where the mode has that change (R395). DEDUCED: log 130. -/
def startInHold (e : Side) (s : State) : State :=
  let u := unitOfSide e
  let s := if (s.eng e).role == .failed then s.setFld (attemptsFld u) (s.fld (attemptsFld u) - 1) else s
  let s := startCold u (unitIdle u s)
  let s : State := { s with dplx := { s.dplx with hold3 := some e } }
  if s.mode == .hold then
    if s.pwr.hold == .hm then s else { s with pwr := { s.pwr with hold := .engine, holdStay := false } }
  else enterHold .engine s

/-- No engine is STANDBY: another is started, the one that has just failed last; with none, SAFE-DARK (R314).
DEDUCED: log 130. -/
def secondFault (s : State) : State :=
  if s.mode == .safeDark then s
  else match [otherSide s.actSide, s.actSide].find? (canStart s) with
    | some e => startInHold e s
    | none => deviceLockout 8 s

/-- T_f for a failure recognised with `cause`. DEDUCED: log 127. -/
def failover (cause : Nat) (s : State) : State :=
  let s : State := { s with dplx := { s.dplx with fo := none, swap := false, swapTest := false, mmResync := false } }
  let plain (s : State) : State :=
    match s.withRole .standby with
    | some e =>
      let s := simplexIfBeam (roleChange e cause true s)
      if s.mode == .hold && s.pwr.hold == .hotSwap then enterMode .simplex 5 s else s
    | none => secondFault s
  match s.dplx.hot with
  | some h => if h.step < 8 then hotFailover h cause s else plain s
  | none => plain s

def failoverTick (s : State) : State :=
  match s.dplx.fo with
  | some c => failover c s
  | none => s

/-- The engine started in HOLD has loaded: it becomes ACTIVE with fresh fixed-function state (R313 step 4).
DEDUCED: log 130. -/
def holdStartTick (s : State) : State :=
  match s.dplx.hold3 with
  | none => s
  | some e =>
    let g := s.eng e
    if s.mode != .safeDark && g.role == .coldStarting && g.imgValid && s.dplx.loading &&& unitBit (unitOfSide e) = 0 then
      let s : State := { s with dplx := { s.dplx with hold3 := none } }
      let s := freshCopy (roleChange e (s.fld F.DPLX_FOVER_LAST_CAUSE) false s)
      if s.mode == .hold && s.pwr.hold == .engine then enterMode .simplex 5 s else s
    else s

/-! ### PROG_LOAD, swaps and arbitration -/

/-- Engines loaded by PROG_LOAD take their roles; the active side stays if it holds an image (R209).
DEDUCED: log 135. -/
def progLoadTick (s : State) : State :=
  if !s.dplx.progLoad then s
  else
    let s : State := { s with dplx := { s.dplx with progLoad := false } }
    let has (e : Side) : Bool := (s.eng e).imgValid
    match [s.actSide, otherSide s.actSide].find? has with
    | none => (s.setRole .b .offline).setRole .a .offline
    | some e => (takeOver e false s).setRole (otherSide e) (if has (otherSide e) then .standby else .offline)

/-- A controlled swap takes place while one engine is ACTIVE and the other STANDBY (R306). -/
def swapTick (s : State) : State :=
  if !s.dplx.swap then s
  else
    let test := s.dplx.swapTest
    let s : State := { s with dplx := { s.dplx with swap := false, swapTest := false } }
    match s.active, s.withRole .standby with
    | some x, some y =>
      let s := roleChange y 4 false s
      if test then
        let s := (s.setBit F.DPLX_STAT_SUSP_ACT false).setBit F.DPLX_STAT_SUSP_STBY true
        startTest (unitOfSide x) .recover (stopClusters x s)
      else s.setRole x .standby
    | _, _ => s

/-- Step 1 of R307, and a failed lane of the standby (R320): the standby leaves STANDBY and is resynchronised.
DEDUCED: log 131, 134. -/
def mismatchTick (s : State) : State :=
  if !s.dplx.mmResync then s
  else
    let s : State := { s with dplx := { s.dplx with mmResync := false } }
    match s.withRole .standby with
    | some e => simplexIfBeam (startResync (unitOfSide e) (stopClusters e s))
    | none => s

/-! ### The end of resynchronisation (R310, R316) -/

/-- SIMPLEX returns to BEAM; in step 8 of HOT_SWAP, whose step 9 this is, the command is done. -/
def backToBeam (s : State) : State :=
  let plain (s : State) : State :=
    if s.mode != .simplex then s
    else if s.pwr.req.isSome then { s with pwr := { s.pwr with simplexWait := true } }
    else enterMode .beam 3 s
  match s.dplx.hot with
  | some h =>
    if h.step < 8 then plain s
    else
      let s : State := { s with dplx := { s.dplx with hot := none } }
      let s := if s.mode == .simplex then enterMode .beam 9 s else s
      sendFinal .ok (checkData 0 h.crc) s
  | none => plain s

/-- An engine whose final phase is done becomes STANDBY; after the arbitration of R307 a controlled swap follows. -/
def resyncTick (s : State) : State :=
  match s.dplx.rsDone, s.dplx.rsUnit with
  | true, some u =>
    let plan := s.dplx.plan[unitIx u]
    let s := setUnitRole u .standby (unitIdle u s)
    let s := (s.inc F.DPLX_RESYNC_RS_CNT).setBit F.DPLX_STAT_SUSP_STBY false
    let s := raiseAll 27 (unitIx u).val s
    if plan = .arbStandby then { s with dplx := { s.dplx with swap := true, swapTest := true } } else backToBeam s
  | _, _ => s

/-- A return to BEAM that waited for a MODE_REQ (R316). -/
def simplexWaitTick (s : State) : State :=
  if s.pwr.simplexWait && s.pwr.req.isNone then
    let s : State := { s with pwr := { s.pwr with simplexWait := false } }
    if s.mode == .simplex && (s.withRole .standby).isSome then enterMode .beam 3 s else s
  else s

/-! ### HOT_SWAP (R212) -/

/-- HOT_SWAP at a tick: T_m, where the engine that is STANDBY stops and loads, and step 6. DEDUCED: log 132. -/
def hotTick (s : State) : State :=
  match s.dplx.hot with
  | none => s
  | some h =>
    if h.step = 2 then
      let e := hotSide s h
      let s := if s.mode == .beam then enterMode .simplex 9 s else s
      let s := restartOld e (unitIdle (unitOfSide e) s)
      let s : State := { s with dplx := { s.dplx with hot := some { h with step := 3, newSide := e } } }
      s.updEng e fun g => { g with tileLimit := h.tl }
    else if h.step = 4 then
      if s.mode == .hold then
        if s.pwr.hold == .hotSwap && decide (1 ≤ h.warmed) then hotLead h (s.fld F.DPLX_FOVER_LAST_CAUSE) s else s
      else if h.warm ≤ h.warmed then hotTakeover h s
      else s
    else s

/-- The engine that LOWLIGHT left loaded but not running is resynchronised once LOWLIGHT has been left (R397, R310).
DEDUCED: log 133. -/
def afterLowlight (s : State) : State :=
  if s.seq.wasLowlight && s.mode != .lowlight && s.mode != .hold && s.mode != .safeDark && s.active.isSome then
    s.forEach sides fun e s =>
      let g := s.eng e
      let u := unitOfSide e
      let busy := (s.dplx.testing ||| s.dplx.loading) &&& unitBit u ≠ 0
      if g.role == .offline && g.powered && g.imgValid && !busy then startResync u s else s
  else s

/-- The duplex part of a tick. -/
def dplxTick (s : State) : State :=
  let s : State := { s with tl := { s.tl with failover := false } }
  let s := mismatchTick (swapTick (progLoadTick (holdStartTick (failoverTick s))))
  nextResync (afterLowlight (simplexWaitTick (resyncTick (hotTick s))))

/-! ### Mode entries and HOLD (R393 to R398) -/

/-- HOLD entered by underruns ends at the tick after its entry; composition restarts with PREV_ABORTED = 1. -/
def leaveHold (s : State) : State :=
  if s.mode == .hold && s.pwr.hold == .underrun && !s.pwr.holdStay then
    let m := if s.pwr.holdFrom == .beam && (s.withRole .standby).isNone then Mode.simplex else s.pwr.holdFrom
    let s := (enterMode m 5 s).setFld F.SEQ_UNDERRUN_UR_CONSEC 0
    { s with seq := { s.seq with aborted := true } }
  else s

/-- A change of SVC_ZMASK applies at the first tick after the write (R394). DEDUCED: log 137. -/
def serviceMask (s : State) : State :=
  let new : Half := BitVec.ofNat 16 (s.fld F.PWR_SVC_SVC_ZMASK)
  if s.mode == .service && s.pwr.svcMask ≠ new then
    let old := s.pwr.svcMask
    let s : State := { s with pwr := { s.pwr with svcMask := new } }
    s.forEach allZones fun z s =>
      if new.getLsbD z.val && !old.getLsbD z.val then bringUp z s
      else if !new.getLsbD z.val && old.getLsbD z.val then zoneOut (servesIn s .service) z s
      else s
  else s

/-- A zone counts as prepared when it is in service, faulty, stranded, or locked out. -/
def zonePrepared (s : State) (z : Zone) : Bool :=
  s.rail.z[z].up || s.rail.z[z].faulty || isStranded s z || isLocked s z

/-- Is the preparation of R397 for mode `m` complete? -/
def reqReady (s : State) (m : Mode) : Bool :=
  match m with
  | .lowlight => (allZones.filter (servesIn s .lowlight)).all (zonePrepared s)
  | .beam =>
    allZones.all (zonePrepared s) &&
      (s.mode != .lowlight || sides.all fun e => s.dplx.loading &&& unitBit (unitOfSide e) = 0)
  | .sleep => false
  | .safeDark => false
  | _ => true

/-- Entry to LOWLIGHT: the other engine stops and is unpowered, zones outside LL_ZMASK are cut; registers of the
unpowered engine keep their values. DEDUCED: log 108. DESIGN CHOICE: log 148. -/
def lowlightEntry (s : State) : State :=
  let s := enterMode .lowlight 0 s
  let s := match s.active with
    | some e =>
      let o : Side := otherSide e
      let s : State := unitIdle (unitOfSide o) s
      let s := if (s.eng o).role == Role.failed then s else s.setRole o .offline
      (clearEngine o s).updEng o fun g => { g with powered := false }
    | none => s
  s.forEach (allZones.filter fun z => !servesIn s .lowlight z) (zoneOut (servesIn s .lowlight))

/-- The effect of T_e for a requested mode. DEDUCED: log 136. -/
def enterReq (m : Mode) (s : State) : State :=
  match m with
  | .lowlight => lowlightEntry s
  | .beam =>
    if s.mode == .lowlight || (s.withRole .standby).isNone then enterMode .simplex 0 s else enterMode .beam 0 s
  | .service =>
    let new : Half := BitVec.ofNat 16 (s.fld F.PWR_SVC_SVC_ZMASK)
    let s := enterMode .service 0 { s with pwr := { s.pwr with svcMask := new } }
    s.forEach (allZones.filter (servesIn s .service)) bringUp
  | .calibrate => enterCalibrate 0 s
  | m => enterMode m 0 s

/-- A requested change between ticking modes takes effect at the first tick at which it is prepared (R397). -/
def reqTick (s : State) : State :=
  match s.pwr.req with
  | none => s
  | some r => if reqReady s r.target then endModeReq .ok (enterReq r.target s) else s

/-- HOLD without a harbourmaster is not left, whatever it was entered by (R319). DEDUCED: log 128. -/
def holdHm (s : State) : State :=
  if s.mode == .hold then { s with pwr := { s.pwr with hold := .hm, holdStay := true } } else enterHold .hm s

/-- The mode part of a tick. DEDUCED: log 128. -/
def modeTick (s : State) : State :=
  let s := leaveHold s
  let s := if s.therm.stopDue then thermalDark s else s
  let s := if s.seq.third then enterHold .underrun { s with seq := { s.seq with third := false } } else s
  let s := if noHm s then holdHm s else s
  reqTick (serviceMask s)

end Sys2Proof.Machine
end

