-- ==== Sys2Proof/Machine/Tick.lean ====
section
/-! DEFINITION. The tick (R39): what the stack, the rails, Breakwater, the DIAG block, calibration and composition do
at the tick edge. -/

namespace Sys2Proof.Machine

/-! ### The stack (R84, R85, R289) -/

/-- Do two lanes' orders agree in ORDER, DARKMASK and FRM? -/
def sameOrder (x y : OrderBlock) : Bool :=
  x.b1.toNat % 4 = y.b1.toNat % 4 && x.darkmask = y.darkmask && x.frm = y.frm

/-- The zone is brought in by order `k`: its back buffer is complete, or it is marked dark. -/
def backComplete (s : State) (k : OrderBlock) (z : Zone) : Bool :=
  k.darkmask.getLsbD z.val || (s.stk.back[z]).tiles.length = 32

/-- NALLOW of the zone's lane; 8 where the lane delivered no order. -/
def laneAllow (s : State) (z : Zone) : Nat :=
  match s.stk.orders[z] with
  | some k => min 8 (k.b1.toNat / 16)
  | none => 8

/-- The front buffer that order `k` brings in: dark zones with all codes 0. DEDUCED: log 25. -/
def frontOf (s : State) (k : OrderBlock) : Sparse (List Half) :=
  (allZones.filter fun z => !k.darkmask.getLsbD z.val).foldl (fun m z =>
    (s.stk.back[z]).tiles.foldl (fun m c => Sparse.put (Sparse.all []) m (tileOfZone z.val c.1) c.2) m) []

/-- FRM of the frame that comes in. DEDUCED: log 14. -/
def incomingFrm (s : State) (k : OrderBlock) : Word :=
  match allZones.find? fun z => !k.darkmask.getLsbD z.val with
  | some z => (s.stk.back[z]).frm.getD (s.reg F.SEQ_FRAME_FRAME.addr)
  | none => s.reg F.SEQ_FRAME_FRAME.addr

/-- The swap: all zones together (R84), with the frame's resolution, currents, spread mode and n_allow.
DEDUCED: log 14, 21, 25. -/
def swapIn (k : OrderBlock) (s : State) : State :=
  let frm := incomingFrm s k
  let icode : Vector Nat 16 := Vector.ofFn fun z : Zone =>
    if k.darkmask.getLsbD z.val then s.stk.icode[z] else (s.stk.back[z]).icode.toNat
  let allow : Vector Nat 16 := Vector.ofFn (laneAllow s)
  let t : StackState := { s.stk with front := frontOf s k, frontFrm := frm, n := s.ffn.n, icode := icode
                                     spread := s.fld F.STK_CTRL_SPREAD, nallow := allow }
  let s : State := { s with stk := t }
  let s := (s.setFld F.STK_STAT_FRONT_FRM frm.toNat).setFld F.SEQ_SHOWN_SHOWN (s.fld F.SEQ_FRAME_FRAME)
  let s := (s.setBit F.STK_STAT_BACKSTOP false).setFld F.SEQ_UNDERRUN_UR_CONSEC 0
  let s := s.forEach allZones fun z s => s.setFld (F.RAIL_ZREQ_NALLOW z) allow[z]
  { s with pwr := { s.pwr with shownSince := s.pwr.shownSince.map (· + 1) } }

/-- A repeat under R84: each zone keeps the smaller of the displayed n_allow and that of the order (R104).
DEDUCED: log 25. -/
def keepFront (s : State) : State :=
  let allow : Vector Nat 16 := Vector.ofFn fun z : Zone => min s.stk.nallow[z] (laneAllow s z)
  { s with stk := { s.stk with nallow := allow } }.inc F.STK_REPEAT_REPEAT_TOTAL

/-- ORDER_ERR (R84, R289, R290): handled as an aborted frame, unless it has been aborted already; event 47 without a
return record, a controlled swap requested; a third aborted frame enters HOLD at this tick.
DEDUCED: log 20. DESIGN CHOICE: log 145. -/
def orderError (mask : Nat) (s : State) : State :=
  let s := raiseAll 47 (5 * 256) (s.setBit F.STK_STAT_ORDER_ERR true)
  let s := requestSwap (keepFront s)
  let s := if s.seq.aborted then s else countAbort mask s
  let s : State := { s with seq := { s.seq with aborted := true } }
  if s.seq.third then enterHold .underrun { s with seq := { s.seq with third := false } } else s

/-- What the stack does with the orders of the window: whether it swaps, and the state. DEDUCED: log 19, 20. -/
def takeOrders (s : State) : Bool × State :=
  match s.stk.orders.toList.filterMap id with
  | [] => (false, s)
  | k :: ks =>
    if s.stk.sclkLost then (false, localRepeat s)
    else if s.tl.failover then (false, keepFront s)
    else if !ks.all (sameOrder k) then (false, orderError 0 s)
    else if allZones.any fun z => !k.darkmask.getLsbD z.val && (s.stk.orders[z]).isNone then
      (false, (keepFront s).inc F.TLNK_STAT_ORD_MISS)
    else if !orderIsSwap k then (false, keepFront s)
    else if allZones.all (backComplete s k) then (true, swapIn k s)
    else (false, orderError (zmask fun z => !backComplete s k z) s)

/-- Slots that R360 takes off a pixel lit by a test: round(1 µs / t_slot) in a displayed frame of active period `a`. -/
def testSlots (s : State) (a : Nat) : Nat := (divRound (25600 * 2 ^ s.stk.n : Nat) a).toNat

/-- The tick at the stack: the swap or repeat, trims and test shortening in force, back buffer and orders emptied.
DEDUCED: log 19. -/
def stackTick (s : State) : Bool × State :=
  if !s.stk.powered then (false, s)
  else
    let slot := s.stk.frontSlotUnits * 2 ^ (16 - s.stk.n)
    let (sw, s) := takeOrders s
    let s := if anyOrder s && !s.stk.sclkLost then s.setBit F.STK_STAT_SCLK_HOLDOVER false else s
    let a := if s.stk.sclkLost then s.stk.frontSlotUnits else activeUnits s
    let r := testSlots s a
    let short : Sparse Nat :=
      if r = 0 then [] else s.stk.istPixels.foldl (fun m p => Sparse.put (Sparse.all 0) m p r) []
    let t : StackState := { s.stk with back := .replicate 16 {}, orders := .replicate 16 none, trimEff := s.stk.trim
                                       frontSlotUnits := a, slotMeasured := slot, shorten := short
                                       istPixels := [] }
    (sw, { s with stk := t })

/-! ### Rails (R100, R114, R116) -/

/-- The mode whose service counts: in HOLD that of entry. -/
def effMode (s : State) : Mode := if s.mode == .hold then s.pwr.holdFrom else s.mode

/-- A downward move of zone `z`'s regulator after a swap, of whatever it feeds that R118 has tracked.
DEDUCED: log 24. -/
def moveDown (z : Zone) (s : State) : State :=
  let p := partner z
  let v := if feedsPair s z then pairReq s.rail.z[z].reqDisp s.rail.z[p].reqDisp else s.rail.z[z].reqDisp
  let tracked := !isCrossed s z && s.rail.z[z].seq == .none && (tracks s z || (feedsPair s z && tracks s p))
  if tracked && decide (v + s.fld F.RAIL_CTRL_DOWN_HYST ≤ target s z) && decide (v < target s z) then writeVout z v false s
  else s

/-- Requests of the incoming frame take the displayed frame's place; the window of R114 ends when the write is done.
DEDUCED: log 24. -/
def railSwap (s : State) : State :=
  let s := s.forEach allZones fun z s =>
    let req := match s.rail.z[z].reqNext with | some v => v | none => vReq s z 0
    let done := s.rail.z[feeder s z].wr.isNone
    s.updRail z fun r => { r with reqDisp := req, exempt := r.exempt && !done }
  if s.mode == .hold then s else s.forEach allZones moveDown

/-- A stranded zone whose retry has succeeded returns on its own rail, its partner crossed over onto it if the
partner's regulator has not returned (R116). DEDUCED: log 94, 95. -/
def returnZone (z : Zone) (s : State) : State :=
  if !s.rail.z[z].back then s
  else
    let p := partner z
    let m := effMode s
    let serve (x : Zone) : Bool := servesIn s m x && !isLocked s x
    let zs := serve z
    let ps := serve p
    let follows := isStranded s p && s.rail.z[p].faulty && !s.rail.z[p].back
    let on := zs || (follows && ps)
    let s := (s.setFld (F.RAIL_ZSTAT_STATE z) (if on then 1 else 0)).updRail z fun r =>
      { r with back := false, up := zs, reqB := on }
    if follows then
      let s := ((setCrossedBit p true s).setFld (F.RAIL_ZSTAT_STATE p) 2).updRail p fun r => { r with up := ps }
      let s := raiseAll 50 p.val s
      if on then writeVout z (pairReq (vReq s z 0) (vReq s p 0)) true s else s
    else s

/-- The rails at a tick. -/
def railTick (swapped : Bool) (s : State) : State :=
  let s := if swapped then railSwap s else s
  let s := s.forEach allZones fun z s => s.updRail z fun r => { r with reqNext := none }
  let s : State := { s with rail := { s.rail with ioutDone := .replicate 2 false } }
  nextBringups (s.forEach allZones returnZone)

/-! ### Breakwater (R330, R333 to R335, R340, R344, R345) -/

/-- The record of the incoming frame becomes zone `z`'s displayed record; without one the zone has none. -/
def showLight (frm : Half) (z : Zone) (s : State) : State :=
  let b := zbit z
  match s.safe.held[z] with
  | [] => { s with safe := { s.safe with seen := s.safe.seen &&& ~~~b } }
  | l :: _ =>
    if l.frm ≠ frm then { s with safe := { s.safe with seen := s.safe.seen &&& ~~~b } }
    else
      let f : SafeState := { s.safe with shown := s.safe.shown.set z l, seen := s.safe.seen ||| b
                                         blind := s.safe.blind &&& ~~~b }
      let s : State := { s with safe := f }
      if (violations s z).isEmpty then { s with safe := { s.safe with gwCut := s.safe.gwCut &&& ~~~b } } else s

/-- Breakwater's 21 verdict bits on the displayed records and its inputs (R330): zone limits, glare windows, inhibit
cut. -/
def verdictBits (s : State) : BitVec 21 :=
  let high := zmask fun z => s.safe.seen.getLsbD z.val
    && decide (s.fld (F.SAFE_ZLIM_LIM z) < (s.safe.shown[z]).zsum * (16 + (s.safe.shown[z]).icode))
  let inh := s.bit F.SAFE_INH_A_FILT || s.bit F.SAFE_INH_B_FILT
  BitVec.ofNat 21 (high + 2 ^ 16 * s.fld F.SAFE_GW_VIOL + 2 ^ 20 * inh.toNat)

/-- Does glare window `w` overlap zone `z`? -/
def windowIn (s : State) (w : Nat) (z : Zone) : Bool :=
  let x0 := s.fld (F.SAFE_GWX_X0 w)
  let x1 := s.fld (F.SAFE_GWX_X1 w)
  let y0 := s.fld (F.SAFE_GWY_Y0 w)
  let y1 := s.fld (F.SAFE_GWY_Y1 w)
  let x := 512 * (z.val % 4)
  let y := 256 * (z.val / 4)
  decide (x0 ≤ x1) && decide (y0 ≤ y1) && decide (x0 < x + 512) && decide (x ≤ x1) && decide (y0 < y + 256)
    && decide (y ≤ y1)

/-- The cuts of the safety core's own verdicts `m` (R330): a zone over its limit is locked out, a glare window cuts
the zones it overlaps until the tick at which this verdict is gone, since it names no zone, an inhibit cuts every zone.
DESIGN CHOICE: log 28. -/
def coreCuts (m : BitVec 21) (s : State) : State :=
  let s := s.forEach (allZones.filter fun z => m.getLsbD z.val) fun z s => zoneLockout z 0xA s
  let gw : Half := BitVec.ofNat 16 (zmask fun z => (List.range 4).any fun w => m.getLsbD (16 + w) && windowIn s w z)
  { s with safe := { s.safe with coreGw := gw, inhCut := s.safe.inhCut || m.getLsbD 20 } }

/-- The two channels in legacy mode (R330): the safety core's verdicts, which cut on their own, and the comparison with
a lock-out at the second differing tick in a row. DESIGN CHOICE: log 28. -/
def legacyCompare (flips : BitVec 21) (s : State) : State :=
  if !s.bit F.SAFE_STAT_ARCH_LEGACY then { s with safe := { s.safe with cmpRun := 0, coreVerdict := 0, coreGw := 0 } }
  else
    let v := verdictBits s ^^^ flips
    let s := coreCuts (v &&& flips) { s with safe := { s.safe with coreVerdict := v } }
    if flips = 0 then { s with safe := { s.safe with cmpRun := 0 } }
    else
      let n := s.safe.cmpRun
      let s := { s with safe := { s.safe with cmpRun := min 2 (n + 1) } }.inc F.SAFE_LEGACY_CMP_CNT
      if n = 1 then deviceLockout 7 (raiseAll 39 0 s) else s

/-- Breakwater's self-check: a lock-out at the onset of a difference. DESIGN CHOICE: log 28. -/
def selfCheck (differs : Bool) (s : State) : State :=
  let was := s.safe.selfBad
  let s : State := { s with safe := { s.safe with selfBad := differs } }
  if differs && !was then deviceLockout 0xD s else s

/-- Breakwater at a tick. In legacy mode the channels compare what they found on the records displayed until now. -/
def safetyTick (env : TickEnv) (swapped : Bool) (s : State) : State :=
  let s : State := { s with safe := { s.safe with gwEn := s.fld F.SAFE_GW_GW_EN } }
  let frm : Half := s.stk.frontFrm.setWidth 16
  let s : State := if s.bit F.SAFE_INH_A_FILT || s.bit F.SAFE_INH_B_FILT then s
    else { s with safe := { s.safe with inhCut := false } }
  let s := legacyCompare env.coreFlips s
  let s := if swapped then s.forEach allZones (showLight frm) else s
  selfCheck env.selfCheckDiffers s

/-- FALLBACK_REQ is released at the first tick at which no condition holds. DEDUCED: log 79. -/
def releaseFallback (s : State) : State := if fallbackCond s then s else s.setBit F.SAFE_STAT_FALLBACK false

/-! ### The DIAG block (R361, R363, R364) -/

/-- Frozen zones that have matched for 8 frames return; the cuts follow ZFRZ. DEDUCED: log 22. -/
def freezeTick (s : State) : State :=
  let keep := zmask fun z => (s.fld F.DIAG_FRZ_ZFRZ).testBit z.val
    && (s.diag.frzKept.getLsbD z.val || decide (s.diag.frzMatch[z] < 8))
  let s := s.setFld F.DIAG_FRZ_ZFRZ keep
  { s with diag := { s.diag with frzCut := BitVec.ofNat 16 keep } }

/-- The DIAG block at a tick. DEDUCED: log 27. -/
def diagTick (swapped : Bool) (s : State) : State :=
  let s := freezeTick s
  let d := s.diag
  let d : DiagState := { d with zcrcShown := if swapped then d.zcrcNext else d.zcrcShown
                                zcrcNext := .replicate 16 none, limited := [], ecc22 := 0 }
  let s : State := { s with diag := d }
  if s.fld F.SEQ_FRAME_FRAME % 512 = 511 then
    let s := (s.inc F.DIAG_IST_CYCLES).setFld F.DIAG_IST_SKIP_LAST (min 65535 s.diag.skip)
    let n := s.diag.cycles + 1
    let s := raiseAll 46 (n % 65536 * 65536 + min 65535 s.diag.skip) s
    { s with diag := { s.diag with skip := 0, cycles := n } }
  else s

/-! ### CAL_ZONE (R381 steps 5 and 6) -/

/-- Every string of zone `z` in a tile that was calibrated holds its trim of acceptance (R377). -/
def keepPrev (z : Zone) (s : State) : State :=
  let t := liveTiles s z
  let mine := fun (x : Nat × Byte) => t.contains (tileOfStr x.1)
  let keys := ((s.stk.trim ++ s.cal.prev).filter mine).map (·.1)
  s.forEach keys fun q s => storeTrim q (Sparse.get (Sparse.all 0) s.cal.prev q) s

/-- The tick of a CAL_ZONE: at T_a the zone goes dark; at T_c the searched trims are committed over those of its
acceptance; then the zone is shipped again. DEDUCED: log 138. -/
def calZoneTick (s : State) : State :=
  match s.cal.zone with
  | none => s
  | some z =>
    if s.cal.committed then
      let c : CalState := { s.cal with zone := none, dark := false, committed := false, ready := false, asked := [] }
      sendFinal .ok [] { s with cal := c }
    else if !s.cal.dark then { s with cal := { s.cal with dark := true } }
    else if s.cal.ready then
      let s := (keepPrev z s).forEach s.cal.work fun x s => storeTrim x.1 x.2 s
      let s := calCounted 1 z.val 0 (zoneResult false z s)
      { s with cal := { s.cal with committed := true, work := [], held := none } }
    else s

/-! ### Composition (R22, R147, R168) -/

/-- Zones shipped dark in the frame to be composed (R288, R394, R381). -/
def shipDark (s : State) : Half :=
  BitVec.ofNat 16 (zmask fun z =>
    (s.mode == .lowlight && !servesIn s .lowlight z) || (s.mode == .service && !servesIn s .service z)
      || calDark s z)

/-- Do the engines compose in this mode, with an ACTIVE engine? -/
def composes (s : State) : Bool :=
  (s.mode == .dark || s.mode.isBeam || s.mode == .service) && s.active.isSome

/-- States of the forward lanes: the selected side's lanes are up, but for LOWLIGHT's dark zones, the others idle. -/
def laneStates (s : State) : State :=
  s.forEach sides fun e s => s.forEach allZones fun z s =>
    let f := F.TLNK_LANE_STATE (sideIx e) z
    if s.fld f = 3 then s
    else
      let upw := selSide s == e && (s.eng e).powered && s.stk.powered && !laneIdle s z
      s.setFld f upw.toNat

/-- A frame with lock and without record CRC errors on a FAILED return lane (R294); the counts start again. A FAILED
lane retrains at once: it has lock again from this tick. DESIGN CHOICE: log 151. -/
def returnLanes (s : State) : State :=
  let clean : Vector Nat 2 := Vector.ofFn fun l : Fin 2 =>
    let r : RtnLane := if l = 0 then .rtn0 else .rtn1
    if s.bit (rtnFail r) && s.bit (rtnLock r) && s.tl.rtnErrs[l] = 0 then s.tl.rtnClean[l] + 1 else 0
  let s := if s.stk.powered then (s.setBit (rtnLock .rtn0) true).setBit (rtnLock .rtn1) true else s
  { s with tl := { s.tl with acked := .replicate 2 (.replicate 16 0), mtch := .replicate 2 (.replicate 16 false)
                             rtnErrs := .replicate 2 0, rtnClean := clean } }

/-- The new engine of HOT_SWAP starts a warm frame, in HOLD only the one that HOLD waits for (R212, R213). -/
def warmFrame (frm : Word) (s : State) : State :=
  match s.dplx.hot with
  | none => s
  | some h =>
    if h.step = 4 && (s.mode != .hold || s.pwr.hold == .hotSwap) then
      let s : State := { s with dplx := { s.dplx with hot := some { h with warmed := h.warmed + 1 } } }
      startFrame h.newSide frm s
    else s

/-- Composition of frame `frm` starts on the inputs just latched; CLUS_DONE clears at every latch edge (R170).
UNI_SUB shows the frame most recently composed (R228). -/
def composeTick (frm : Word) (s : State) : State :=
  let s := s.forEach sides fun e s => s.setFld (F.ENG_STAT_CLUS_DONE (sideIx e)) 0
  let s := returnLanes s
  let s := if s.ffn.begun then s.setBit F.FFN_STAT_UNI_SUB s.ffn.uniHit else s
  let q := { s.seq with darkmask := shipDark s, aborted := false, swap := false, nallow := .replicate 16 8 }
  let s : State := { s with seq := q, ffn := { s.ffn with uniHit := false, begun := composes s, composing := composes s } }
  let s := if s.ffn.composing then
      s.forEach sides fun e s =>
        let r := (s.eng e).role
        if r == Role.active || r == Role.standby then startFrame e frm s else s
    else s
  laneStates (warmFrame frm s)

/-- Spread spectrum in force from this latch edge (R424). -/
def sscTick (s : State) : State :=
  let w := s.reg 0x10004
  let w := if s.bit F.CLK_STAT_SEQ_SRC then w &&& ~~~0x80 else w
  { s with clk := { s.clk with sscInForce := w } }

/-! ### Requests of path (a) -/

/-- Zones whose sources the harbourmaster requests on: in service, in a frame composed for a mode that they serve;
HOLD keeps the requests of its entry. -/
def sourceRequests (old : Mode) (served : List Zone) (s : State) : State :=
  if s.mode == .hold then s
  else s.forEach allZones fun z s => s.updRail z fun r =>
    { r with reqA := r.up && servesIn s s.mode z && (if old == .hold then r.reqA else served.contains z) }

/-! ### The tick -/

/-- The frames that a stranded zone's next retry is away stay the same as SEQ_FRAME starts again at 0 (R116).
DEDUCED: log 94. -/
def keepRetries (s : State) : State :=
  let frame := s.fld F.SEQ_FRAME_FRAME
  s.forEach allZones fun z s => s.updRail z fun r =>
    let d := (r.retryAt + 2 ^ 32 - frame) % 2 ^ 32
    { r with retryAt := if d ≤ 100 then d else 0 }

/-- SEQ_FRAME counts the tick; T_0 follows a start from the stopped state (R42). Event 0. DEDUCED: log 14. -/
def countTick (s : State) : State :=
  let s := tickEdge s
  let s := if s.seq.started then s.setFld F.SEQ_FRAME_FRAME (s.fld F.SEQ_FRAME_FRAME + 1)
    else
      let s : State := keepRetries { s with stk := { s.stk with frontFrm := 0 } }
      ((s.setFld F.SEQ_FRAME_FRAME 0).setFld F.SEQ_SHOWN_SHOWN 0).setFld F.STK_STAT_FRONT_FRM 0
  raiseAll 0 0 { s with seq := { s.seq with started := true } }

/-- First light (R416): the first frame displayed in a mode in which zones emit. DEDUCED: log 26. -/
def firstLight (old : Mode) (swapped : Bool) (s : State) : State :=
  if swapped && old.isBeam && s.fld F.PWR_FIRST_FIRSTLIGHT_MS = 0 then s.setFld F.PWR_FIRST_FIRSTLIGHT_MS (sinceWake s)
  else s

/-- The tick of a running sequencer after its mode part: `first` at T_0, `prevP` the period of the frame before.
DESIGN CHOICE: log 13. -/
def tickRest (env : TickEnv) (first : Bool) (prevP : Nat) (old : Mode) (served : List Zone) (s : State) : State :=
  let s := startPeriod (lockTick s)
  let (swapped, s) := stackTick s
  let s := railTick swapped (firstLight old swapped s)
  let s := diagTick swapped (safetyTick env swapped s)
  let frm := s.reg F.SEQ_FRAME_FRAME.addr + 1
  let s := calZoneTick (if first then s else thermAdvance prevP s)
  let s : State := { s with seq := { s.seq with prevAborted := s.seq.aborted } }
  let s := composeTick frm (sscTick (latch first frm s))
  releaseFallback (sourceRequests old served s)

/-- TICK. DESIGN CHOICE: log 13. -/
def execTick (env : TickEnv) (s : State) : Out :=
  if !s.seq.running then finish s
  else
    let first := !s.seq.started
    let old := s.mode
    let served := allZones.filter (servesIn s old)
    let prevP := s.fld F.SEQ_PERIOD_PERIOD
    let s := modeTick (countTick s)
    if !s.seq.running then finishCut s
    else finishCut (tickRest env first prevP old served (dplxTick s))

end Sys2Proof.Machine
end

