-- ==== Sys2Proof/Machine/Dispatch.lean ====
section
/-! DEFINITION. One arm per command: its meaning, by a direct call. -/

namespace Sys2Proof.Machine

def exec (i : Instr) (s : State) : Host.Outcome State Fault Refusal :=
  match i with
  | .regRd h p => Sys2Proof.Machine.execRegRd h p s
  | .regWr h p => Sys2Proof.Machine.execRegWr h p s
  | .regSnap h p => Sys2Proof.Machine.execRegSnap h p s
  | .berthAlloc h p => Sys2Proof.Machine.execBerthAlloc h p s
  | .berthFree h p => Sys2Proof.Machine.execBerthFree h p s
  | .berthWrite h p => Sys2Proof.Machine.execBerthWrite h p s
  | .berthReady h p => Sys2Proof.Machine.execBerthReady h p s
  | .objList h p => Sys2Proof.Machine.execObjList h p s
  | .layerSet h p => Sys2Proof.Machine.execLayerSet h p s
  | .commit h p => Sys2Proof.Machine.execCommit h p s
  | .fade h p => Sys2Proof.Machine.execFade h p s
  | .pitchYaw h p => Sys2Proof.Machine.execPitchYaw h p s
  | .modeReq h p => Sys2Proof.Machine.execModeReq h p s
  | .progLoad h p => Sys2Proof.Machine.execProgLoad h p s
  | .hotSwap h p => Sys2Proof.Machine.execHotSwap h p s
  | .storeWrite h p => Sys2Proof.Machine.execStoreWrite h p s
  | .storeRead h p => Sys2Proof.Machine.execStoreRead h p s
  | .calZone h p => Sys2Proof.Machine.execCalZone h p s
  | .unlock h p => Sys2Proof.Machine.execUnlock h p s
  | .safeStatus h p => Sys2Proof.Machine.execSafeStatus h p s
  | .evtMask h p => Sys2Proof.Machine.execEvtMask h p s
  | .evtAck h p => Sys2Proof.Machine.execEvtAck h p s
  | .ping h p => Sys2Proof.Machine.execPing h p s
  | .longCompletion => Sys2Proof.Machine.execLongCompletion s
  | .manifest port wire env => Sys2Proof.Machine.execManifest port wire env s
  | .swReset ctx v => Sys2Proof.Machine.execSwReset ctx v s
  | .xoverOpen ctx v => Sys2Proof.Machine.execXoverOpen ctx v s
  | .swapReq ctx v => Sys2Proof.Machine.execSwapReq ctx v s
  | .recov ctx v => Sys2Proof.Machine.execRecov ctx v s
  | .rel ctx v => Sys2Proof.Machine.execRel ctx v s
  | .cntClr ctx addr v => Sys2Proof.Machine.execCntClr ctx addr v s
  | .fomClr ctx port lane v => Sys2Proof.Machine.execFomClr ctx port lane v s
  | .linkPcfg ctx port v => Sys2Proof.Machine.execLinkPcfg ctx port v s
  | .canTimingApply => Sys2Proof.Machine.execCanTimingApply s
  | .spiWrite bytes env => Sys2Proof.Machine.execSpiWrite bytes env s
  | .spiRead clocked => Sys2Proof.Machine.execSpiRead clocked s
  | .spiStatus => Sys2Proof.Machine.execSpiStatus s
  | .canFrame f env => Sys2Proof.Machine.execCanFrame f env s
  | .segmentGap => Sys2Proof.Machine.execSegmentGap s
  | .canTransmit errs => Sys2Proof.Machine.execCanTransmit errs s
  | .busOff => Sys2Proof.Machine.execBusOff s
  | .busOffRecovery => Sys2Proof.Machine.execBusOffRecovery s
  | .mooringWrite addr off v crc => Sys2Proof.Machine.execMooringWrite addr off v crc s
  | .mooringRead addr off => Sys2Proof.Machine.execMooringRead addr off s
  | .portTraining port q0 q1 => Sys2Proof.Machine.execPortTraining port q0 q1 s
  | .blockLock port lane => Sys2Proof.Machine.execBlockLock port lane s
  | .trainingFailure port lane q0 => Sys2Proof.Machine.execTrainingFailure port lane q0 s
  | .trainingWaitExpiry port => Sys2Proof.Machine.execTrainingWaitExpiry port s
  | .lockLoss port lane => Sys2Proof.Machine.execLockLoss port lane s
  | .hostRetrainRequest port => Sys2Proof.Machine.execHostRetrainRequest port s
  | .ei port => Sys2Proof.Machine.execEi port s
  | .trainingBurst port => Sys2Proof.Machine.execTrainingBurst port s
  | .idleExitFailure port lane => Sys2Proof.Machine.execIdleExitFailure port lane s
  | .returnIdle port => Sys2Proof.Machine.execReturnIdle port s
  | .fom port lane ewMicroUi ehMicroV ctle taps => Sys2Proof.Machine.execFom port lane ewMicroUi ehMicroV ctle taps s
  | .statusBlk port => Sys2Proof.Machine.execStatusBlk port s
  | .returnPacket port => Sys2Proof.Machine.execReturnPacket port s
  | .tick env => Sys2Proof.Machine.execTick env s
  | .fsyncInEdge high atTime widthNs => Sys2Proof.Machine.execFsyncInEdge high atTime widthNs s
  | .compositionDeadline => Sys2Proof.Machine.execCompositionDeadline s
  | .guardWindow env => Sys2Proof.Machine.execGuardWindow env s
  | .inServiceTest results => Sys2Proof.Machine.execInServiceTest results s
  | .istVerdict => Sys2Proof.Machine.execIstVerdict s
  | .readbackSample samples => Sys2Proof.Machine.execReadbackSample samples s
  | .offPulseTest z pathB r => Sys2Proof.Machine.execOffPulseTest z pathB r s
  | .complianceTrip str senses => Sys2Proof.Machine.execComplianceTrip str senses s
  | .zoneEvaluation => Sys2Proof.Machine.execZoneEvaluation s
  | .yield e c f => Sys2Proof.Machine.execYield e c f s
  | .tickwait e c f => Sys2Proof.Machine.execTickwait e c f s
  | .nop e c f => Sys2Proof.Machine.execNop e c f s
  | .bar e c f => Sys2Proof.Machine.execBar e c f s
  | .tugwait e c f => Sys2Proof.Machine.execTugwait e c f s
  | .sget e c sel f => Sys2Proof.Machine.execSget e c sel f s
  | .prof e c stall f => Sys2Proof.Machine.execProf e c stall f s
  | .br e c f => Sys2Proof.Machine.execBr e c f s
  | .bz e c f => Sys2Proof.Machine.execBz e c f s
  | .bnz e c f => Sys2Proof.Machine.execBnz e c f s
  | .bltz e c f => Sys2Proof.Machine.execBltz e c f s
  | .bgez e c f => Sys2Proof.Machine.execBgez e c f s
  | .bdec e c f => Sys2Proof.Machine.execBdec e c f s
  | .bany e c f => Sys2Proof.Machine.execBany e c f s
  | .bnone e c f => Sys2Proof.Machine.execBnone e c f s
  | .call e c f => Sys2Proof.Machine.execCall e c f s
  | .jr e c f => Sys2Proof.Machine.execJr e c f s
  | .sadd e c f => Sys2Proof.Machine.execSadd e c f s
  | .ssub e c f => Sys2Proof.Machine.execSsub e c f s
  | .sand e c f => Sys2Proof.Machine.execSand e c f s
  | .sor e c f => Sys2Proof.Machine.execSor e c f s
  | .sxor e c f => Sys2Proof.Machine.execSxor e c f s
  | .sshl e c f => Sys2Proof.Machine.execSshl e c f s
  | .sshru e c f => Sys2Proof.Machine.execSshru e c f s
  | .sshrs e c f => Sys2Proof.Machine.execSshrs e c f s
  | .smul e c f => Sys2Proof.Machine.execSmul e c f s
  | .smulhu e c f => Sys2Proof.Machine.execSmulhu e c f s
  | .smulhs e c f => Sys2Proof.Machine.execSmulhs e c f s
  | .smin e c f => Sys2Proof.Machine.execSmin e c f s
  | .smax e c f => Sys2Proof.Machine.execSmax e c f s
  | .sminu e c f => Sys2Proof.Machine.execSminu e c f s
  | .smaxu e c f => Sys2Proof.Machine.execSmaxu e c f s
  | .sslt e c f => Sys2Proof.Machine.execSslt e c f s
  | .ssltu e c f => Sys2Proof.Machine.execSsltu e c f s
  | .sseq e c f => Sys2Proof.Machine.execSseq e c f s
  | .ssne e c f => Sys2Proof.Machine.execSsne e c f s
  | .saddi e c f => Sys2Proof.Machine.execSaddi e c f s
  | .slui e c f => Sys2Proof.Machine.execSlui e c f s
  | .sld e c f => Sys2Proof.Machine.execSld e c f s
  | .sldh e c f => Sys2Proof.Machine.execSldh e c f s
  | .sldb e c f => Sys2Proof.Machine.execSldb e c f s
  | .sst e c f => Sys2Proof.Machine.execSst e c f s
  | .ssth e c f => Sys2Proof.Machine.execSsth e c f s
  | .sstb e c f => Sys2Proof.Machine.execSstb e c f s
  | .tugl e c f => Sys2Proof.Machine.execTugl e c f s
  | .tugs e c f => Sys2Proof.Machine.execTugs e c f s
  | .tugTransfer e c ecc scr => Sys2Proof.Machine.execTugTransfer e c ecc scr s
  | .vadd e c f => Sys2Proof.Machine.execVadd e c f s
  | .vaddus e c f => Sys2Proof.Machine.execVaddus e c f s
  | .vaddss e c f => Sys2Proof.Machine.execVaddss e c f s
  | .vsub e c f => Sys2Proof.Machine.execVsub e c f s
  | .vsubus e c f => Sys2Proof.Machine.execVsubus e c f s
  | .vsubss e c f => Sys2Proof.Machine.execVsubss e c f s
  | .vminu e c f => Sys2Proof.Machine.execVminu e c f s
  | .vmaxu e c f => Sys2Proof.Machine.execVmaxu e c f s
  | .vmins e c f => Sys2Proof.Machine.execVmins e c f s
  | .vmaxs e c f => Sys2Proof.Machine.execVmaxs e c f s
  | .vand e c f => Sys2Proof.Machine.execVand e c f s
  | .vor e c f => Sys2Proof.Machine.execVor e c f s
  | .vxor e c f => Sys2Proof.Machine.execVxor e c f s
  | .vandn e c f => Sys2Proof.Machine.execVandn e c f s
  | .vmullo e c f => Sys2Proof.Machine.execVmullo e c f s
  | .vmulhu e c f => Sys2Proof.Machine.execVmulhu e c f s
  | .vmulhs e c f => Sys2Proof.Machine.execVmulhs e c f s
  | .vmuln e c f => Sys2Proof.Machine.execVmuln e c f s
  | .vmulg e c f => Sys2Proof.Machine.execVmulg e c f s
  | .vshl e c f => Sys2Proof.Machine.execVshl e c f s
  | .vshru e c f => Sys2Proof.Machine.execVshru e c f s
  | .vshrs e c f => Sys2Proof.Machine.execVshrs e c f s
  | .vabsdu e c f => Sys2Proof.Machine.execVabsdu e c f s
  | .vavgu e c f => Sys2Proof.Machine.execVavgu e c f s
  | .vmov e c f => Sys2Proof.Machine.execVmov e c f s
  | .vidx e c f => Sys2Proof.Machine.execVidx e c f s
  | .vsel e c f => Sys2Proof.Machine.execVsel e c f s
  | .vlerp e c f => Sys2Proof.Machine.execVlerp e c f s
  | .vcmpeq e c f => Sys2Proof.Machine.execVcmpeq e c f s
  | .vcmpne e c f => Sys2Proof.Machine.execVcmpne e c f s
  | .vcmpltu e c f => Sys2Proof.Machine.execVcmpltu e c f s
  | .vcmpleu e c f => Sys2Proof.Machine.execVcmpleu e c f s
  | .vcmplts e c f => Sys2Proof.Machine.execVcmplts e c f s
  | .vcmples e c f => Sys2Proof.Machine.execVcmples e c f s
  | .vrmaxu e c f => Sys2Proof.Machine.execVrmaxu e c f s
  | .vrminu e c f => Sys2Proof.Machine.execVrminu e c f s
  | .vrsum e c f => Sys2Proof.Machine.execVrsum e c f s
  | .pand e c f => Sys2Proof.Machine.execPand e c f s
  | .por e c f => Sys2Proof.Machine.execPor e c f s
  | .pxor e c f => Sys2Proof.Machine.execPxor e c f s
  | .pandn e c f => Sys2Proof.Machine.execPandn e c f s
  | .pnot e c f => Sys2Proof.Machine.execPnot e c f s
  | .pset e c f => Sys2Proof.Machine.execPset e c f s
  | .pclr e c f => Sys2Proof.Machine.execPclr e c f s
  | .prange e c f => Sys2Proof.Machine.execPrange e c f s
  | .vldw e c f => Sys2Proof.Machine.execVldw e c f s
  | .vldb e c f => Sys2Proof.Machine.execVldb e c f s
  | .vstw e c f => Sys2Proof.Machine.execVstw e c f s
  | .vstb e c f => Sys2Proof.Machine.execVstb e c f s
  | .vlut e c f => Sys2Proof.Machine.execVlut e c f s
  | .vluti e c f => Sys2Proof.Machine.execVluti e c f s
  | .vrs e c f => Sys2Proof.Machine.execVrs e c f s
  | .vout e c f => Sys2Proof.Machine.execVout e c f s
  | .budgetOverrun e c => Sys2Proof.Machine.execBudgetOverrun e c s
  | .hardwareException e c cause => Sys2Proof.Machine.execHardwareException e c cause s
  | .fixedFunctionTile e ecc => Sys2Proof.Machine.execFixedFunctionTile e ecc s
  | .tilePkt e z k => Sys2Proof.Machine.execTilePkt e z k s
  | .zendPkt e z k => Sys2Proof.Machine.execZendPkt e z k s
  | .orderBlk e z k => Sys2Proof.Machine.execOrderBlk e z k s
  | .trimCmd e z k => Sys2Proof.Machine.execTrimCmd e z k s
  | .bypassCmd e z k => Sys2Proof.Machine.execBypassCmd e z k s
  | .refReq e z k m => Sys2Proof.Machine.execRefReq e z k m s
  | .calrun e z k m => Sys2Proof.Machine.execCalrun e z k m s
  | .istlast e z k => Sys2Proof.Machine.execIstlast e z k s
  | .ack lane r => Sys2Proof.Machine.execAck lane r s
  | .nak lane r => Sys2Proof.Machine.execNak lane r s
  | .lightRec lane r => Sys2Proof.Machine.execLightRec lane r s
  | .faultRec lane r => Sys2Proof.Machine.execFaultRec lane r s
  | .zcrc lane r => Sys2Proof.Machine.execZcrc lane r s
  | .lstat lane r => Sys2Proof.Machine.execLstat lane r s
  | .adcRecord lane r => Sys2Proof.Machine.execAdcRecord lane r s
  | .tileLaneRecovery l => Sys2Proof.Machine.execTileLaneRecovery l s
  | .holdLast => Sys2Proof.Machine.execHoldLast s
  | .backstop => Sys2Proof.Machine.execBackstop s
  | .sclkHoldover back => Sys2Proof.Machine.execSclkHoldover back s
  | .voutCommand t r => Sys2Proof.Machine.execVoutCommand t r s
  | .readVout t r => Sys2Proof.Machine.execReadVout t r s
  | .statusWord t r => Sys2Proof.Machine.execStatusWord t r s
  | .statusVout t r => Sys2Proof.Machine.execStatusVout t r s
  | .readIout z r => Sys2Proof.Machine.execReadIout z r s
  | .clearFaults z r => Sys2Proof.Machine.execClearFaults z r s
  | .capability z r => Sys2Proof.Machine.execCapability z r s
  | .voutMode t r => Sys2Proof.Machine.execVoutMode t r s
  | .onOffConfig z r => Sys2Proof.Machine.execOnOffConfig z r s
  | .voutMax z r => Sys2Proof.Machine.execVoutMax z r s
  | .toffDelay z r => Sys2Proof.Machine.execToffDelay z r s
  | .operation i0 on r => Sys2Proof.Machine.execOperation i0 on r s
  | .settleFailure z => Sys2Proof.Machine.execSettleFailure z s
  | .pmbAlert bus => Sys2Proof.Machine.execPmbAlert bus s
  | .railUndervoltage z mv => Sys2Proof.Machine.execRailUndervoltage z mv s
  | .railOvervoltage z mv => Sys2Proof.Machine.execRailOvervoltage z mv s
  | .strandedRetry z => Sys2Proof.Machine.execStrandedRetry z s
  | .bringupTimeout z => Sys2Proof.Machine.execBringupTimeout z s
  | .logicRailTimeout i0 => Sys2Proof.Machine.execLogicRailTimeout i0 s
  | .logicSupplyFault i0 => Sys2Proof.Machine.execLogicSupplyFault i0 s
  | .zeroFillDone b => Sys2Proof.Machine.execZeroFillDone b s
  | .scrub off ecc => Sys2Proof.Machine.execScrub off ecc s
  | .uniReload granule => Sys2Proof.Machine.execUniReload granule s
  | .beacon u k => Sys2Proof.Machine.execBeacon u k s
  | .beaconPathMissing u wire both => Sys2Proof.Machine.execBeaconPathMissing u wire both s
  | .selfTestDone u pass => Sys2Proof.Machine.execSelfTestDone u pass s
  | .coldStartDone u => Sys2Proof.Machine.execColdStartDone u s
  | .resyncBulkDone => Sys2Proof.Machine.execResyncBulkDone s
  | .resyncFinalPhase => Sys2Proof.Machine.execResyncFinalPhase s
  | .resyncAbort final => Sys2Proof.Machine.execResyncAbort final s
  | .resyncRestart => Sys2Proof.Machine.execResyncRestart s
  | .mismatchWindowEnd => Sys2Proof.Machine.execMismatchWindowEnd s
  | .holdLimit => Sys2Proof.Machine.execHoldLimit s
  | .inhibitSample a b => Sys2Proof.Machine.execInhibitSample a b s
  | .strapCheck w1 w2 => Sys2Proof.Machine.execStrapCheck w1 w2 s
  | .safeRstN lowUs => Sys2Proof.Machine.execSafeRstN lowUs s
  | .unlockWindowExpiry => Sys2Proof.Machine.execUnlockWindowExpiry s
  | .safetyCoreFault k => Sys2Proof.Machine.execSafetyCoreFault k s
  | .safetyCoreRestart good => Sys2Proof.Machine.execSafetyCoreRestart good s
  | .watchdogTimeout => Sys2Proof.Machine.execWatchdogTimeout s
  | .safeOkToggle => Sys2Proof.Machine.execSafeOkToggle s
  | .safeoscStop => Sys2Proof.Machine.execSafeoscStop s
  | .clockMonitor dev => Sys2Proof.Machine.execClockMonitor dev s
  | .xtalAmplitudeCheck amp => Sys2Proof.Machine.execXtalAmplitudeCheck amp s
  | .xtalGood => Sys2Proof.Machine.execXtalGood s
  | .xtalTimeout => Sys2Proof.Machine.execXtalTimeout s
  | .pllLock locked => Sys2Proof.Machine.execPllLock locked s
  | .xtalStopped => Sys2Proof.Machine.execXtalStopped s
  | .pllUnlock pll => Sys2Proof.Machine.execPllUnlock pll s
  | .relockAttempt pll ok => Sys2Proof.Machine.execRelockAttempt pll ok s
  | .clockSwitch mux oldEdges => Sys2Proof.Machine.execClockSwitch mux oldEdges s
  | .sensorRead pad die => Sys2Proof.Machine.execSensorRead pad die s
  | .thermalAdvance => Sys2Proof.Machine.execThermalAdvance s
  | .calibrationDone => Sys2Proof.Machine.execCalibrationDone s
  | .wakeN lowNs => Sys2Proof.Machine.execWakeN lowNs s
  | .boot env => Sys2Proof.Machine.execBoot env s
  | .padReleaseTimeout => Sys2Proof.Machine.execPadReleaseTimeout s
  | .resetN lowNs => Sys2Proof.Machine.execResetN lowNs s
  | .trstN => Sys2Proof.Machine.execTrstN s
  | .powerOn => Sys2Proof.Machine.execPowerOn s
  | .brownOut lowUs => Sys2Proof.Machine.execBrownOut lowUs s
  | .aonRecovery => Sys2Proof.Machine.execAonRecovery s
  | .supplyLoss => Sys2Proof.Machine.execSupplyLoss s
  | .cfgRecoverWrite v => Sys2Proof.Machine.execCfgRecoverWrite v s
  | .cfgRecoverCommit => Sys2Proof.Machine.execCfgRecoverCommit s
  | .cfgRecoverStatus => Sys2Proof.Machine.execCfgRecoverStatus s
  | .tileLinkLockLoss l => Sys2Proof.Machine.execTileLinkLockLoss l s
  | .returnRecordCrcError lane => Sys2Proof.Machine.execReturnRecordCrcError lane s
  | .hmCoreCheckError b => Sys2Proof.Machine.execHmCoreCheckError b s
  | .xtalJudgedGoodAgain => Sys2Proof.Machine.execXtalJudgedGoodAgain s
  | .resetEnd => Sys2Proof.Machine.execResetEnd s

end Sys2Proof.Machine
end

