-- ==== Sys2Proof/Safety.lean ====
section
/-! DEFINITION. The terms the statements use: safe states, how a command ends, and what the end of a step can change. -/

namespace Sys2Proof.Machine

/-- No current can flow in zone `z`: one of its two cut paths is off (R324). -/
def ZoneDark (s : State) (z : Zone) : Prop := zoneCut s z = true

/-- A locked-out zone is cut through both paths, and under a device lock-out so is every zone (R337, R338). -/
def LocksCut (s : State) : Prop :=
  ∀ z : Zone, (isLocked s z = true ∨ s.bit F.SAFE_STAT_DEV_LOCK = true) →
    srcEnabled s z = false ∧ zenLow s z = false

/-- A state without what the end of a step can change: control registers, pending bits and event queues, the level
of SAFE_OK. -/
def blank (s : State) : State :=
  { s with regs := [], old := [], raised := []
           ctx := s.ctx.map fun c => { c with pend := 0, ovf := false }
           outq := s.outq.map fun q => { q with events := [] }
           safe := { s.safe with okLevel := false } }

/-- Registers that the end of a step can change: EVT_STAT, EVT_INFO, EVT_CNT, LINK_EVTQ and SAFE_STAT. -/
abbrev evReg (a : Nat) : Prop :=
  a = 0x110000 ∨ a = 0x30004 ∨ (0x30100 ≤ a ∧ a < 0x30300) ∨ a = 0x50014 ∨ a = 0x50114

/-- Command `i` completes in state `s` with the effect `u`: what it raised is handled in order (R436) and
FALLBACK_REQ and SAFE_OK follow (R344, R345). -/
def Ends (i : Instr) (s u : State) : Prop := exec i s = .next (settle (flushEvents u))

/-- Command `i` completes in state `s`, with no raise unhandled as every step leaves it, and its next state meets `P`.
-/
def Gives (i : Instr) (s : State) (P : State → Prop) : Prop := s.raised = [] → ∃ t, exec i s = .next t ∧ P t

/-- `t` differs from `s` at most in the control registers `A` and in what the end of a step can change. -/
def Only (A : Nat → Prop) (s t : State) : Prop :=
  blank t = blank s ∧ ∀ a, ¬ A a → ¬ evReg a → t.reg a = s.reg a

/-- The outputs of the safety core as every step leaves them: nothing waits to be raised, FALLBACK_REQ is asserted
where R344 asks for it, SAFE_OK runs exactly where R345 lets it and is held low elsewhere. -/
abbrev OutputsFollow (s : State) : Prop :=
  s.raised = [] ∧ (fallbackCond s = true → s.bit F.SAFE_STAT_FALLBACK = true)
    ∧ s.bit F.SAFE_STAT_SAFE_OK_RUN = okRuns s ∧ (okRuns s = false → s.safe.okLevel = false)

/-! ### A cluster that executes (R146, R159) -/

/-- Cluster `c` of engine `e` runs with its side's clocks on (R427), the `n` words of its next instruction lie in the code section with another
instruction after them and spell `i`, and the tile's budget has room. -/
abbrev MolReady (e : Side) (c : Cluster) (n : Nat) (i : Instr) (s : State) : Prop :=
  (s.cluster e c).run = .running ∧ (s.eng e).gated = false ∧ (s.cluster e c).pc + n < (s.eng e).codeWords
    ∧ (s.cluster e c).count < tileLimit s e
    ∧ spellsInstr s e c = true ∧ fetches s e c 1 i = true ∧ fetches s e c n i = true

/-- The cluster after an instruction: one more counted, the next at index `t`. -/
def ClusterState.after (t : Nat) (k : ClusterState) : ClusterState :=
  { k with count := k.count + 1, retired := k.retired + 1, lastPc := k.pc, pc := t }

/-! ### A host command (R270) -/

/-- Manifests of the context are dispatched (R272), no configuration, reset or SLEEP waits for a response, and the open
responses have older numbers. -/
abbrev HostReady (h : HostHdr) (s : State) : Prop :=
  served s h.ctx = true ∧ (∀ o ∈ s.opens, o.id < s.nextId)
    ∧ s.after = [] ∧ (∀ p : Port, (s.port[p]).reconfig = false) ∧ s.pwr.swReset = false
    ∧ (∀ r ∈ s.pwr.req, r.target ≠ .sleep)

/-- The records of the response to a manifest of one command (R265). -/
def records (h : HostHdr) (code : Nat) (r : Reply) : List RespRec :=
  if needsRecord h.ackAll code r then [⟨code, 0, r.st, r.final, r.data⟩] else []

/-- State `u` with the response of a one-command manifest queued, which on CAN FD counts in its window (R280). -/
def answer (h : HostHdr) (code : Nat) (r : Reply) (u : State) : State :=
  { queueResp h.ctx (respBytes h.mseq false false h.m (records h code r)) (enterWindow h.ctx h.m u) with
    nextId := u.nextId + 1 }

end Sys2Proof.Machine
end

