-- ==== Sys2Proof/WellFormed.lean ====
section
/-! DEFINITION. Well-formed commands: operands that their carrier can bring to the device. The meanings are total
and answer on every operand; these bounds are where the spec's own formats end. -/

namespace Sys2Proof

/-- A command payload fills whole words and at most 8,176 bytes (R260). -/
def payloadOk (p : List Byte) : Bool := p.length % 4 == 0 && p.length ≤ 8176

/-- Blocks of 64 payload bits (R236); a packet has at most 1,026 of them (R247). -/
def wireOk (wire : List Block) : Bool := wire.length ≤ 1026 && wire.all fun b => b.bytes.length == 8

/-- An SPI transaction has at least its first byte (R275). -/
def spiOk (bytes : List Byte) : Bool := !bytes.isEmpty

/-- A CAN FD frame: identifier of 11 or 29 bits, at most 64 data bytes, 8 in a classical frame (R277). -/
def canOk (f : CanFrame) : Bool :=
  decide (f.id < if f.ext then 2 ^ 29 else 2 ^ 11) && decide (f.data.length ≤ if f.fd then 64 else 8)

/-- A register address lies in the control address space, aligned to 4 (R10). -/
def regAddrOk (a : Nat) : Bool := a % 4 == 0 && decide (a < 0x1000000)

/-- A TILE packet carries 4,096 codes (R284). -/
def tileOk (k : TilePkt) : Bool := k.codes.length == 4096

/-- The data of a ZCMD packet fits a packet (R287). -/
def zcmdFits (k : ZcmdPkt) : Bool := decide (k.data.length ≤ 8192)

/-- Conversions of a calibrating tile: 512 strings, 8 pixels, one conversion for each trim code (R371). -/
def calOk (m : CalReading) : Bool :=
  m.strings.all fun x => decide (x.1 < 512) && x.2.meas.length == 64 && x.2.pixels.length == 8

/-- A return record carries 0 to 64 data bytes (R291). -/
def recordFits (r : Record) : Bool := decide (r.data.length ≤ 64)

/-- In-service test results: at most one for each tile (R359). -/
def istOk (l : List IstReading) : Bool := decide ((l.map (·.tile)).Nodup)

/-- A beacon on the bus path has 8 bytes (R300). -/
def beaconFits : BeaconRx → Bool
  | .bus bytes => bytes.length == 8
  | .wire _ => true

/-- An offset in berth memory, at a 64-bit word (R123, R126). -/
def berthOffOk (o : Nat) : Bool := o % 8 == 0 && decide (o < 0x1800000)

/-- The extension word stands only where the instruction has one (R181). -/
def scalarExtOk (f : FS) : Bool := f.xi || f.ext == 0

/-- As `scalarExtOk`, for the vector format. -/
def vectorExtOk (f : FV) : Bool := (f.bcast && f.vb == 16) || f.ext == 0

/-- Well-formedness, command by command. -/
def WellFormed : Instr → Bool
  | .regRd _ p => payloadOk p
  | .regWr _ p => payloadOk p
  | .regSnap _ p => payloadOk p
  | .berthAlloc _ p => payloadOk p
  | .berthFree _ p => payloadOk p
  | .berthWrite _ p => payloadOk p
  | .berthReady _ p => payloadOk p
  | .objList _ p => payloadOk p
  | .layerSet _ p => payloadOk p
  | .commit _ p => payloadOk p
  | .fade _ p => payloadOk p
  | .pitchYaw _ p => payloadOk p
  | .modeReq _ p => payloadOk p
  | .progLoad _ p => payloadOk p
  | .hotSwap _ p => payloadOk p
  | .storeWrite _ p => payloadOk p
  | .storeRead _ p => payloadOk p
  | .calZone _ p => payloadOk p
  | .unlock _ p => payloadOk p
  | .safeStatus _ p => payloadOk p
  | .evtMask _ p => payloadOk p
  | .evtAck _ p => payloadOk p
  | .ping _ p => payloadOk p
  | .longCompletion => true
  | .manifest _ wire _ => wireOk wire
  | .swReset _ _ => true
  | .xoverOpen _ _ => true
  | .swapReq _ _ => true
  | .recov _ _ => true
  | .rel _ _ => true
  | .cntClr _ addr _ => regAddrOk addr
  | .fomClr _ _ _ _ => true
  | .linkPcfg _ _ _ => true
  | .canTimingApply => true
  | .spiWrite bytes _ => spiOk bytes
  | .spiRead _ => true
  | .spiStatus => true
  | .canFrame f _ => canOk f
  | .segmentGap => true
  | .canTransmit _ => true
  | .busOff => true
  | .busOffRecovery => true
  | .mooringWrite _ _ _ _ => true
  | .mooringRead _ _ => true
  | .portTraining _ _ _ => true
  | .blockLock _ _ => true
  | .trainingFailure _ _ _ => true
  | .trainingWaitExpiry _ => true
  | .lockLoss _ _ => true
  | .hostRetrainRequest _ => true
  | .ei _ => true
  | .trainingBurst _ => true
  | .idleExitFailure _ _ => true
  | .returnIdle _ => true
  | .fom _ _ _ _ _ _ => true
  | .statusBlk _ => true
  | .returnPacket _ => true
  | .tick _ => true
  | .fsyncInEdge _ _ _ => true
  | .compositionDeadline => true
  | .guardWindow _ => true
  | .inServiceTest results => istOk results
  | .istVerdict => true
  | .readbackSample _ => true
  | .offPulseTest _ _ _ => true
  | .complianceTrip _ _ => true
  | .zoneEvaluation => true
  | .yield _ _ _ => true
  | .tickwait _ _ _ => true
  | .nop _ _ _ => true
  | .bar _ _ _ => true
  | .tugwait _ _ _ => true
  | .sget _ _ _ _ => true
  | .prof _ _ _ _ => true
  | .br _ _ _ => true
  | .bz _ _ _ => true
  | .bnz _ _ _ => true
  | .bltz _ _ _ => true
  | .bgez _ _ _ => true
  | .bdec _ _ _ => true
  | .bany _ _ _ => true
  | .bnone _ _ _ => true
  | .call _ _ _ => true
  | .jr _ _ _ => true
  | .sadd _ _ f => scalarExtOk f
  | .ssub _ _ f => scalarExtOk f
  | .sand _ _ f => scalarExtOk f
  | .sor _ _ f => scalarExtOk f
  | .sxor _ _ f => scalarExtOk f
  | .sshl _ _ f => scalarExtOk f
  | .sshru _ _ f => scalarExtOk f
  | .sshrs _ _ f => scalarExtOk f
  | .smul _ _ f => scalarExtOk f
  | .smulhu _ _ f => scalarExtOk f
  | .smulhs _ _ f => scalarExtOk f
  | .smin _ _ f => scalarExtOk f
  | .smax _ _ f => scalarExtOk f
  | .sminu _ _ f => scalarExtOk f
  | .smaxu _ _ f => scalarExtOk f
  | .sslt _ _ f => scalarExtOk f
  | .ssltu _ _ f => scalarExtOk f
  | .sseq _ _ f => scalarExtOk f
  | .ssne _ _ f => scalarExtOk f
  | .saddi _ _ _ => true
  | .slui _ _ _ => true
  | .sld _ _ _ => true
  | .sldh _ _ _ => true
  | .sldb _ _ _ => true
  | .sst _ _ _ => true
  | .ssth _ _ _ => true
  | .sstb _ _ _ => true
  | .tugl _ _ _ => true
  | .tugs _ _ _ => true
  | .tugTransfer _ _ _ _ => true
  | .vadd _ _ f => vectorExtOk f
  | .vaddus _ _ f => vectorExtOk f
  | .vaddss _ _ f => vectorExtOk f
  | .vsub _ _ f => vectorExtOk f
  | .vsubus _ _ f => vectorExtOk f
  | .vsubss _ _ f => vectorExtOk f
  | .vminu _ _ f => vectorExtOk f
  | .vmaxu _ _ f => vectorExtOk f
  | .vmins _ _ f => vectorExtOk f
  | .vmaxs _ _ f => vectorExtOk f
  | .vand _ _ f => vectorExtOk f
  | .vor _ _ f => vectorExtOk f
  | .vxor _ _ f => vectorExtOk f
  | .vandn _ _ f => vectorExtOk f
  | .vmullo _ _ f => vectorExtOk f
  | .vmulhu _ _ f => vectorExtOk f
  | .vmulhs _ _ f => vectorExtOk f
  | .vmuln _ _ f => vectorExtOk f
  | .vmulg _ _ f => vectorExtOk f
  | .vshl _ _ f => vectorExtOk f
  | .vshru _ _ f => vectorExtOk f
  | .vshrs _ _ f => vectorExtOk f
  | .vabsdu _ _ f => vectorExtOk f
  | .vavgu _ _ f => vectorExtOk f
  | .vmov _ _ f => vectorExtOk f
  | .vidx _ _ f => vectorExtOk f
  | .vsel _ _ f => vectorExtOk f
  | .vlerp _ _ f => vectorExtOk f
  | .vcmpeq _ _ f => vectorExtOk f
  | .vcmpne _ _ f => vectorExtOk f
  | .vcmpltu _ _ f => vectorExtOk f
  | .vcmpleu _ _ f => vectorExtOk f
  | .vcmplts _ _ f => vectorExtOk f
  | .vcmples _ _ f => vectorExtOk f
  | .vrmaxu _ _ f => vectorExtOk f
  | .vrminu _ _ f => vectorExtOk f
  | .vrsum _ _ f => vectorExtOk f
  | .pand _ _ _ => true
  | .por _ _ _ => true
  | .pxor _ _ _ => true
  | .pandn _ _ _ => true
  | .pnot _ _ _ => true
  | .pset _ _ _ => true
  | .pclr _ _ _ => true
  | .prange _ _ _ => true
  | .vldw _ _ _ => true
  | .vldb _ _ _ => true
  | .vstw _ _ _ => true
  | .vstb _ _ _ => true
  | .vlut _ _ _ => true
  | .vluti _ _ _ => true
  | .vrs _ _ _ => true
  | .vout _ _ _ => true
  | .budgetOverrun _ _ => true
  | .hardwareException _ _ _ => true
  | .fixedFunctionTile _ _ => true
  | .tilePkt _ _ k => tileOk k
  | .zendPkt _ _ _ => true
  | .orderBlk _ _ _ => true
  | .trimCmd _ _ k => zcmdFits k
  | .bypassCmd _ _ k => zcmdFits k
  | .refReq _ _ k _ => zcmdFits k
  | .calrun _ _ k m => zcmdFits k && calOk m
  | .istlast _ _ k => zcmdFits k
  | .ack _ r => recordFits r
  | .nak _ r => recordFits r
  | .lightRec _ r => recordFits r
  | .faultRec _ r => recordFits r
  | .zcrc _ r => recordFits r
  | .lstat _ r => recordFits r
  | .adcRecord _ r => recordFits r
  | .tileLaneRecovery _ => true
  | .holdLast => true
  | .backstop => true
  | .sclkHoldover _ => true
  | .voutCommand _ _ => true
  | .readVout _ _ => true
  | .statusWord _ _ => true
  | .statusVout _ _ => true
  | .readIout _ _ => true
  | .clearFaults _ _ => true
  | .capability _ _ => true
  | .voutMode _ _ => true
  | .onOffConfig _ _ => true
  | .voutMax _ _ => true
  | .toffDelay _ _ => true
  | .operation _ _ _ => true
  | .settleFailure _ => true
  | .pmbAlert _ => true
  | .railUndervoltage _ _ => true
  | .railOvervoltage _ _ => true
  | .strandedRetry _ => true
  | .bringupTimeout _ => true
  | .logicRailTimeout _ => true
  | .logicSupplyFault _ => true
  | .zeroFillDone _ => true
  | .scrub off _ => berthOffOk off
  | .uniReload _ => true
  | .beacon _ k => beaconFits k
  | .beaconPathMissing _ _ _ => true
  | .selfTestDone _ _ => true
  | .coldStartDone _ => true
  | .resyncBulkDone => true
  | .resyncFinalPhase => true
  | .resyncAbort _ => true
  | .resyncRestart => true
  | .mismatchWindowEnd => true
  | .holdLimit => true
  | .inhibitSample _ _ => true
  | .strapCheck _ _ => true
  | .safeRstN _ => true
  | .unlockWindowExpiry => true
  | .safetyCoreFault _ => true
  | .safetyCoreRestart _ => true
  | .watchdogTimeout => true
  | .safeOkToggle => true
  | .safeoscStop => true
  | .clockMonitor _ => true
  | .xtalAmplitudeCheck _ => true
  | .xtalGood => true
  | .xtalTimeout => true
  | .pllLock _ => true
  | .xtalStopped => true
  | .pllUnlock _ => true
  | .relockAttempt _ _ => true
  | .clockSwitch _ _ => true
  | .sensorRead _ _ => true
  | .thermalAdvance => true
  | .calibrationDone => true
  | .wakeN _ => true
  | .boot _ => true
  | .padReleaseTimeout => true
  | .resetN _ => true
  | .trstN => true
  | .powerOn => true
  | .brownOut _ => true
  | .aonRecovery => true
  | .supplyLoss => true
  | .cfgRecoverWrite _ => true
  | .cfgRecoverCommit => true
  | .cfgRecoverStatus => true
  | .tileLinkLockLoss _ => true
  | .returnRecordCrcError _ => true
  | .hmCoreCheckError _ => true
  | .xtalJudgedGoodAgain => true
  | .resetEnd => true

end Sys2Proof
end

