-- ==== Sys2Proof/Certificates/Slice0/Obligations.lean ====
section
/-! DEFINITION. The statements for the provers. Each formalises rules of spec/ or, where its docstring says so, a
choice of the model named by its log entry. -/

open Sys2Proof Sys2Proof.Machine

/-! ### The whole machine -/

/-- A step runs the command at the front of the queue on the state with the queue's rest. -/
def Sys2Proof.Machine.StepRunsFrontCommand : Prop :=
  ∀ (c : Instr) (rest : List Instr) (s : State), s.pending = c :: rest → step s = exec c { s with pending := rest }

/-- On an empty queue only time goes on (log 2, the model's choice). -/
def Sys2Proof.Machine.EmptyQueueIdles : Prop :=
  ∀ s : State, s.pending = [] → step s = .next { s with now := s.now + 1 }

/-- A step runs the command at the front of the queue on the state with the queue's rest; on an empty queue only time
goes on (log 2, the model's choice). -/
def Obligations.StepTakesTheFront : Prop := Sys2Proof.Machine.StepRunsFrontCommand ∧ Sys2Proof.Machine.EmptyQueueIdles

/-- What POWER_ON leaves (R430, R14): SLEEP, and every control register at the reset value of its row. That store
memory lists nothing, which is an erased store, is log 4 (PRESUMED), and that berth memory does is logs 5 and 29, the
model's choices. -/
def Sys2Proof.Machine.ResetValues : Prop :=
  State.reset.pending = [] ∧ State.reset.mode = .sleep ∧ (∀ a, State.reset.reg a = regReset a)
    ∧ State.reset.reg 0 = 0x21000100 ∧ State.reset.bit F.SAFE_STAT_FALLBACK = true
    ∧ (∀ z : Zone, srcEnabled State.reset z = false ∧ zenLow State.reset z = false)
    ∧ (∀ c : Ctx, (State.reset.ctx[c]).mask = 0xFFFFFFFFFFFFFFFE ∧ (State.reset.ctx[c]).pend = 0)
    ∧ (∀ n : BerthNo, (State.reset.berth n).st = .free) ∧ State.reset.br.mem = [] ∧ State.reset.store.mem = []

/-- The outputs follow the causes, no raise waits, and what is locked out is cut, right after reset as after every
step. -/
def Sys2Proof.Machine.InvariantsAtReset : Prop := OutputsFollow State.reset ∧ LocksCut State.reset

/-- The state right after reset: its values, and the invariants that every step keeps. -/
def Obligations.ResetStateOfSpec : Prop := Sys2Proof.Machine.ResetValues ∧ Sys2Proof.Machine.InvariantsAtReset

/-- Every step leaves FALLBACK_REQ asserted where R344 asks for it, SAFE_OK running exactly where R345 lets it, no raise
unhandled (R436), and every zone that is locked out, under a device lock-out every zone, cut through both paths (R337,
R338). -/
def Obligations.OutputsAndCutsKept : Prop :=
  ∀ s t : State, OutputsFollow s → LocksCut s → step s = .next t → OutputsFollow t ∧ LocksCut t

/-- No command stops the block: every one has its effect as a next state (the spec refuses no command a step). -/
def Obligations.EveryCommandCompletes : Prop :=
  ∀ (c : Instr) (s : State), ∃ t : State, exec c s = .next t

/-- A register reads what was stored in it, and a field what was set in it, modulo its width; a store leaves every
other register alone, and the register file keeps its canonical form. -/
def Sys2Proof.Machine.RegisterFileLaws : Prop :=
  (∀ (s : State) (a b : Nat) (w : Word), (s.setReg a w).reg b = if b = a then w else s.reg b)
    ∧ (∀ (s : State) (f : Fld) (v : Nat), 0 < f.width → f.lo + f.width ≤ 32 →
        (s.setFld f v).fld f = v % 2 ^ f.width)
    ∧ (∀ (s : State) (a : Nat) (w : Word), Sparse.wf regReset s.regs → Sparse.wf regReset (s.setReg a w).regs)

/-- S0 reads 0 and a write to it is discarded; a write of another S register, of a V register or of a P register
changes that register alone (R173, R174). -/
def Sys2Proof.Machine.ClusterRegisterLaws : Prop :=
  (∀ k : ClusterState, k.sreg 0 = 0)
    ∧ (∀ (k : ClusterState) (n m : BitVec 4) (w : Word),
        (k.setS n w).sreg m = if m = n ∧ n ≠ 0 then w else k.sreg m)
    ∧ (∀ (k : ClusterState) (w : Word), k.setS 0 w = k)
    ∧ (∀ (k : ClusterState) (n m : BitVec 5) (v : Vector Half 64),
        (k.setV n v).vreg m = if m = n then v else k.vreg m)
    ∧ (∀ (k : ClusterState) (n m : BitVec 3) (v : BitVec 64),
        (k.setP n v).preg m = if m = n then v else k.preg m)

/-- The control registers and the registers of a cluster read what was written. -/
def Obligations.RegisterLaws : Prop := Sys2Proof.Machine.RegisterFileLaws ∧ Sys2Proof.Machine.ClusterRegisterLaws

/-! ### Molia: encoding and registers -/

/-- Single-bit errors stand in the command, not in the instruction word. -/
def Sys2Proof.Machine.noEcc : Instr → Bool
  | .yield _ _ f | .tickwait _ _ f | .nop _ _ f | .bar _ _ f | .tugwait _ _ f => f.ecc == ⟨0, 0⟩
  | .sget _ _ _ f | .prof _ _ _ f => f.ecc == ⟨0, 0⟩
  | .br _ _ f | .bz _ _ f | .bnz _ _ f | .bltz _ _ f | .bgez _ _ f | .bdec _ _ f | .bany _ _ f | .bnone _ _ f => f.ecc == ⟨0, 0⟩
  | .call _ _ f | .jr _ _ f => f.ecc == ⟨0, 0⟩
  | .sadd _ _ f | .ssub _ _ f | .sand _ _ f | .sor _ _ f | .sxor _ _ f | .sshl _ _ f | .sshru _ _ f
  | .sshrs _ _ f | .smul _ _ f | .smulhu _ _ f | .smulhs _ _ f | .smin _ _ f | .smax _ _ f | .sminu _ _ f
  | .smaxu _ _ f | .sslt _ _ f | .ssltu _ _ f | .sseq _ _ f | .ssne _ _ f => f.ecc == ⟨0, 0⟩
  | .saddi _ _ f | .slui _ _ f => f.ecc == ⟨0, 0⟩
  | .sld _ _ f | .sldh _ _ f | .sldb _ _ f | .sst _ _ f | .ssth _ _ f | .sstb _ _ f => f.ecc == ⟨0, 0⟩
  | .tugl _ _ f | .tugs _ _ f => f.ecc == ⟨0, 0⟩
  | .vadd _ _ f | .vaddus _ _ f | .vaddss _ _ f | .vsub _ _ f | .vsubus _ _ f | .vsubss _ _ f | .vminu _ _ f
  | .vmaxu _ _ f | .vmins _ _ f | .vmaxs _ _ f | .vand _ _ f | .vor _ _ f | .vxor _ _ f | .vandn _ _ f
  | .vmullo _ _ f | .vmulhu _ _ f | .vmulhs _ _ f | .vmuln _ _ f | .vmulg _ _ f | .vshl _ _ f | .vshru _ _ f
  | .vshrs _ _ f | .vabsdu _ _ f | .vavgu _ _ f | .vmov _ _ f | .vidx _ _ f | .vsel _ _ f | .vlerp _ _ f
  | .vcmpeq _ _ f | .vcmpne _ _ f | .vcmpltu _ _ f | .vcmpleu _ _ f | .vcmplts _ _ f | .vcmples _ _ f
  | .vrmaxu _ _ f | .vrminu _ _ f | .vrsum _ _ f => f.ecc == ⟨0, 0⟩
  | .pand _ _ f | .por _ _ f | .pxor _ _ f | .pandn _ _ f | .pnot _ _ f | .pset _ _ f | .pclr _ _ f => f.ecc == ⟨0, 0⟩
  | .prange _ _ f => f.ecc == ⟨0, 0⟩
  | .vldw _ _ f | .vldb _ _ f | .vstw _ _ f | .vstb _ _ f => f.ecc == ⟨0, 0⟩
  | .vlut _ _ f | .vluti _ _ f => f.ecc == ⟨0, 0⟩
  | .vrs _ _ f => f.ecc == ⟨0, 0⟩
  | .vout _ _ f => f.ecc == ⟨0, 0⟩
  | _ => true

/-- The words of R205 and R180's tables decode to the instructions they stand for. -/
def Obligations.MoliaWordsDecode : Prop :=
  Molia.decode .a 0 0x70280040 0 = some (.vldw .a 0 ⟨1, 4, 0, 0x40, ⟨0, 0⟩⟩)
    ∧ Molia.decode .a 0 0x6040081B 0 = some (.vlerp .a 0 ⟨false, 2, 0, 1, 0, 0, ⟨0, 0⟩⟩)
    ∧ Molia.decode .a 0 0x884D1000 0 = some (.vout .a 0 ⟨2, 6, 0x11, 0, 0, ⟨0, 0⟩⟩)
    ∧ Molia.decode .a 0 0x11E80040 0 = some (.bdec .a 0 ⟨7, 0, 64, ⟨0, 0⟩⟩)
    ∧ Molia.decode .a 0 0x04000001 0 = some (.yield .a 0 ⟨0, 0, ⟨0, 0⟩⟩)
    ∧ Molia.decode .a 0 0xFFFFFFFF 0 = none ∧ Molia.decode .a 0 0 0 = none

/-- Decoding the word of a well-formed Molia instruction gives it back, every field at every value (R180, R181). -/
def Obligations.MoliaDecodeOfEncode : Prop :=
  ∀ (i : Instr) (e : Side) (c : Cluster) (w : Word),
    Molia.encode i = some w → Molia.moliaPlace i = some (e, c) → WellFormed i = true → noEcc i = true →
      Molia.decode e c w (Molia.extOf i) = some i

/-! ### Molia: scalar rows (R186 to R190) -/

/-- A ready cluster that issues instruction `i` of `n` words, with the corrected errors `x`, completes with the effect
`u` on the state in which those of the fetch are counted (R152, R164). -/
abbrev Sys2Proof.Machine.Runs (e : Side) (c : Cluster) (n : Nat) (i : Instr) (x : EngEcc) (s : State) (u : State → State) :
    Prop := MolReady e c n i s → Ends i s (u (countPm e n x s))

/-- The same where the statement says what the next state holds. -/
abbrev Sys2Proof.Machine.RunsTo (e : Side) (c : Cluster) (n : Nat) (i : Instr) (x : EngEcc) (s : State)
    (P : State → State → Prop) : Prop := MolReady e c n i s → Gives i s (P (countPm e n x s))

/-- Scalar arithmetic of R188: what each instruction computes from S[sa] and its second operand. -/
def Sys2Proof.Machine.scalarTable : List ((Side → Cluster → FS → Instr) × (Word → Word → Word)) :=
  [ (.sadd, fun a b => a + b), (.ssub, fun a b => a - b), (.sand, fun a b => a &&& b), (.sor, fun a b => a ||| b)
  , (.sxor, fun a b => a ^^^ b), (.sshl, fun a b => a <<< (b.extractLsb' 0 5).toNat)
  , (.sshru, fun a b => a >>> (b.extractLsb' 0 5).toNat), (.sshrs, fun a b => a.sshiftRight (b.extractLsb' 0 5).toNat)
  , (.smul, fun a b => BitVec.ofNat 32 (a.toNat * b.toNat))
  , (.smulhu, fun a b => BitVec.ofNat 32 (a.toNat * b.toNat / 2 ^ 32))
  , (.smulhs, fun a b => BitVec.ofInt 32 ((a.toInt * b.toInt) / 2 ^ 32))
  , (.smin, fun a b => if b.toInt < a.toInt then b else a), (.smax, fun a b => if a.toInt < b.toInt then b else a)
  , (.sminu, fun a b => if b < a then b else a), (.smaxu, fun a b => if a < b then b else a)
  , (.sslt, fun a b => if a.toInt < b.toInt then 1 else 0), (.ssltu, fun a b => if a < b then 1 else 0)
  , (.sseq, fun a b => if a = b then 1 else 0), (.ssne, fun a b => if a = b then 0 else 1) ]

/-- SADD to SSNE: S[sd] takes the value R188 gives, with S[sb] or the extension word as second operand; the cluster
goes to the next instruction, and nothing else changes. -/
def Obligations.ScalarArithmetic : Prop :=
  ∀ p ∈ scalarTable, ∀ (e : Side) (c : Cluster) (f : FS) (s : State),
    f.rsv = 0 → (f.xi = true → f.sb = 0) →
      Runs e c (if f.xi then 2 else 1) (p.1 e c f) f.ecc s fun u => u.updCl e c fun k =>
        ((k.setS f.sd (p.2 (k.sreg f.sa) (if f.xi then f.ext else k.sreg f.sb))).after
          (k.pc + if f.xi then 2 else 1))

/-- SADDI, SLUI, SGET, NOP, PROF and TUGWAIT: their results and frames (R186, R189, R190). The stall count of PROF is
timing, which the model leaves as a free value (log 3). -/
def Obligations.ImmediateAndSpecialReads : Prop :=
  (∀ (e : Side) (c : Cluster) (f : FSI) (s : State), f.rsv = 0 →
    Runs e c 1 (.saddi e c f) f.ecc s (fun u => u.updCl e c fun k =>
        (k.setS f.sd (k.sreg f.sa + f.imm16.signExtend 32)).after (k.pc + 1))
      ∧ (f.sa = 0 → Runs e c 1 (.slui e c f) f.ecc s fun u => u.updCl e c fun k =>
        (k.setS f.sd (f.imm16 ++ 0#16 : Word)).after (k.pc + 1)))
  ∧ (∀ (e : Side) (c : Cluster) (f : FG) (s : State), f.rsv = 0 →
      let gets (sel : SgetSel) (v : ClusterState → Word) : Prop := Runs e c 1 (.sget e c sel f) f.ecc s fun u =>
        u.updCl e c fun k => (k.setS f.sd (v k)).after (k.pc + 1)
      gets .tile (fun k => BitVec.ofNat 32 k.tile) ∧ gets .frm (fun k => k.frm)
        ∧ gets .cluster (fun _ => BitVec.ofNat 32 c.val)
        ∧ gets .rowY0 (fun k => BitVec.ofNat 32 (k.tile / 32 * 64))
        ∧ gets .colX0 (fun k => BitVec.ofNat 32 (k.tile % 32 * 64))
        ∧ (s.bit (F.ENG_CTRL_PROFILE (sideIx e)) = true →
            Runs e c 1 (.prof e c false f) f.ecc s (fun u => u.updCl e c fun k =>
              (k.setS f.sd (BitVec.ofNat 32 k.retired)).after (k.pc + 1))
            ∧ Runs e c 1 (.prof e c true f) f.ecc s (fun u => u.draw.2.updCl e c fun k =>
              (k.setS f.sd (Config.free s.free)).after (k.pc + 1))))
  ∧ (∀ (e : Side) (c : Cluster) (f : FC) (s : State), f.rsv = 0 →
      (f.imm8 = 0 → Runs e c 1 (.nop e c f) f.ecc s fun u => u.updCl e c fun k => k.after (k.pc + 1))
        ∧ (f.imm8.toNat ≤ 7 → (s.cluster e c).tugs.length ≤ f.imm8.toNat →
            Runs e c 1 (.tugwait e c f) f.ecc s fun u => u.updCl e c fun k => k.after (k.pc + 1))
        ∧ (f.imm8.toNat ≤ 7 → f.imm8.toNat < (s.cluster e c).tugs.length → MolReady e c 1 (.tugwait e c f) s →
            Ends (.tugwait e c f) s s))

/-- Whether a branch of R187 is taken, from the cluster's registers. -/
def Sys2Proof.Machine.branchTable : List ((Side → Cluster → FB → Instr) × (FB → Bool) × (FB → ClusterState → Bool)) :=
  [ (.br, fun f => f.sa == 0, fun _ _ => true)
  , (.bz, fun _ => true, fun f k => k.sreg f.sa == 0), (.bnz, fun _ => true, fun f k => k.sreg f.sa != 0)
  , (.bltz, fun _ => true, fun f k => decide ((k.sreg f.sa).toInt < 0))
  , (.bgez, fun _ => true, fun f k => decide (0 ≤ (k.sreg f.sa).toInt))
  , (.bany, fun f => !f.sa.getLsbD 3, fun f k => k.preg (f.sa.extractLsb' 0 3) != 0)
  , (.bnone, fun f => !f.sa.getLsbD 3, fun f k => k.preg (f.sa.extractLsb' 0 3) == 0) ]

/-- The branches of R187: a taken branch goes to its target, one not taken to the next instruction; BDEC decrements,
CALL and JR save the next index. Nothing else changes. -/
def Obligations.BranchesGoWhereTheySay : Prop :=
  (∀ p ∈ branchTable, ∀ (e : Side) (c : Cluster) (f : FB) (s : State), f.rsv = 0 → p.2.1 f = true →
      f.target.toNat < (s.eng e).codeWords →
      Runs e c 1 (p.1 e c f) f.ecc s fun u => u.updCl e c fun k =>
        k.after (if p.2.2 f k then f.target.toNat else k.pc + 1))
  ∧ (∀ (e : Side) (c : Cluster) (f : FB) (s : State), f.rsv = 0 → f.sa ≠ 0 →
      f.target.toNat < (s.eng e).codeWords →
      Runs e c 1 (.bdec e c f) f.ecc s fun u => u.updCl e c fun k =>
        (k.setS f.sa (k.sreg f.sa - 1)).after (if k.sreg f.sa = 1 then k.pc + 1 else f.target.toNat))
  ∧ (∀ (e : Side) (c : Cluster) (f : FJ) (s : State), f.rsv = 0 →
      (f.sa = 0 → f.target.toNat < (s.eng e).codeWords →
        Runs e c 1 (.call e c f) f.ecc s fun u => u.updCl e c fun k =>
          (k.setS f.sd (BitVec.ofNat 32 (k.pc + 1))).after f.target.toNat)
      ∧ (f.target = 0 → ((s.cluster e c).sreg f.sa).toNat < (s.eng e).codeWords →
        Runs e c 1 (.jr e c f) f.ecc s fun u => u.updCl e c fun k =>
          (k.setS f.sd (BitVec.ofNat 32 (k.pc + 1))).after (k.sreg f.sa).toNat))

/-- Effective address of a scalar access: S[sb] plus the sign-extended displacement, modulo 2^32 (R190). -/
def Sys2Proof.Machine.scalarAddr (k : ClusterState) (f : FSM) : Nat := (k.sreg f.sb + f.imm17.signExtend 32).toNat

/-- The scalar loads, with their width. -/
def Sys2Proof.Machine.scalarLoads : List ((Side → Cluster → FSM → Instr) × Nat) := [(.sld, 4), (.sldh, 2), (.sldb, 1)]

/-- SLD, SLDH and SLDB: S[sr] takes the little-endian bytes, zero-extended; corrected errors are counted; nothing
else changes (R185, R190, R152). -/
def Sys2Proof.Machine.ScalarLoads : Prop :=
  ∀ p ∈ scalarLoads, ∀ (e : Side) (c : Cluster) (f : FSM) (s : State), f.rsv = 0 →
    let a := scalarAddr (s.cluster e c) f
    a % p.2 = 0 → a + p.2 ≤ 0x41000 → (∀ t ∈ (s.cluster e c).tugs, t.dst + t.len ≤ a ∨ a + p.2 ≤ t.dst) →
    Runs e c 1 (p.1 e c f) f.ecc s fun u =>
      (countScr e a p.2 f.ecc.scr u).updCl e c fun k =>
        (k.setS f.sr (BitVec.ofNat 32 (scrNat s e c a p.2))).after (k.pc + 1)

/-- The instructions that store S[sr], with the bytes they store (R190). -/
def Sys2Proof.Machine.scalarStores : List ((Side → Cluster → FSM → Instr) × Nat) := [(.sst, 4), (.ssth, 2), (.sstb, 1)]

/-- SST, SSTH and SSTB: the `n` scratch bytes at the address take the low bytes of S[sr], little-endian; corrected
errors are counted; every other scratch byte and everything else is unchanged (R185, R190, R152). -/
def Sys2Proof.Machine.ScalarStores : Prop :=
  ∀ p ∈ scalarStores, ∀ (e : Side) (c : Cluster) (f : FSM) (s : State), f.rsv = 0 →
    let a := scalarAddr (s.cluster e c) f
    a % p.2 = 0 → a + p.2 ≤ 0x40000 →
    (∀ t ∈ (s.cluster e c).tugs, (t.dst + t.len ≤ a ∨ a + p.2 ≤ t.dst)
      ∧ (t.berth = none → t.src + t.len ≤ a ∨ a + p.2 ≤ t.src)) →
    RunsTo e c 1 (p.1 e c f) f.ecc s fun u t =>
      (∀ i < p.2, scrByte t e c (a + i) = ((s.cluster e c).sreg f.sr).extractLsb' (8 * i) 8)
        ∧ (∀ b, b < a ∨ a + p.2 ≤ b → scrByte t e c b = scrByte s e c b)
        ∧ t.cluster e c = ({ s.cluster e c with scratch := (t.cluster e c).scratch }).after ((s.cluster e c).pc + 1)
        ∧ Only (fun _ => False) ((countScr e a p.2 f.ecc.scr u).updCl e c fun _ => t.cluster e c) t

/-- The scalar loads and stores of R190: results and frames. -/
def Obligations.ScalarMemory : Prop := Sys2Proof.Machine.ScalarLoads ∧ Sys2Proof.Machine.ScalarStores

/-! ### Molia: vector and predicate rows (R179, R191 to R198) -/

/-- Is lane `l` active under the predicate field `f` (R179)? -/
def Sys2Proof.Machine.actLane (k : ClusterState) (f : BitVec 5) (l : Nat) : Bool :=
  !f.getLsbD 4 || ((k.preg (f.extractLsb' 0 3)).getLsbD l ^^ f.getLsbD 3)

/-- Operand b of lane `l` (R191): V[vb], a scalar register, or the extension word. -/
def Sys2Proof.Machine.laneB (k : ClusterState) (f : FV) (l : Fin 64) : Half :=
  if f.bcast then (if f.vb = 16 then f.ext.extractLsb' 0 16 else (k.sreg (f.vb.extractLsb' 0 4)).extractLsb' 0 16)
  else (k.vreg f.vb)[l]

/-- The fields of a vector instruction that R179, R181 and R191 allow. -/
abbrev Sys2Proof.Machine.vectorFields (f : FV) : Prop :=
  (f.pred.getLsbD 4 = true ∨ f.pred = 0)
    ∧ (f.bcast = true → f.vb.getLsbD 4 = true → f.vb = 16 ∧ f.ext.extractLsb' 16 16 = 0)

/-- Words of a vector instruction (R181). -/
def Sys2Proof.Machine.vectorWords (f : FV) : Nat := if f.bcast = true ∧ f.vb = 16 then 2 else 1

/-- Saturation of R177. -/
def Sys2Proof.Machine.satU16 (x : Int) : Half := if x < 0 then 0 else if 65535 < x then 0xFFFF else BitVec.ofInt 16 x
def Sys2Proof.Machine.satS16 (x : Int) : Half :=
  if x < -32768 then 0x8000 else if 32767 < x then 0x7FFF else BitVec.ofInt 16 x

/-- The vector functions of R191: the result of a lane from a, b and the destination's old value. -/
def Sys2Proof.Machine.vectorTable : List ((Side → Cluster → FV → Instr) × (Half → Half → Half → Half)) :=
  [ (.vadd, fun a b _ => a + b), (.vaddus, fun a b _ => satU16 ((a.toNat : Int) + b.toNat))
  , (.vaddss, fun a b _ => satS16 (a.toInt + b.toInt)), (.vsub, fun a b _ => a - b)
  , (.vsubus, fun a b _ => satU16 ((a.toNat : Int) - b.toNat)), (.vsubss, fun a b _ => satS16 (a.toInt - b.toInt))
  , (.vminu, fun a b _ => if b < a then b else a), (.vmaxu, fun a b _ => if a < b then b else a)
  , (.vmins, fun a b _ => if b.toInt < a.toInt then b else a), (.vmaxs, fun a b _ => if a.toInt < b.toInt then b else a)
  , (.vand, fun a b _ => a &&& b), (.vor, fun a b _ => a ||| b), (.vxor, fun a b _ => a ^^^ b)
  , (.vandn, fun a b _ => a &&& ~~~b), (.vmullo, fun a b _ => BitVec.ofNat 16 (a.toNat * b.toNat))
  , (.vmulhu, fun a b _ => BitVec.ofNat 16 (a.toNat * b.toNat / 65536))
  , (.vmulhs, fun a b _ => BitVec.ofInt 16 (a.toInt * b.toInt / 65536))
  , (.vmuln, fun a b _ => BitVec.ofNat 16 ((2 * (a.toNat * b.toNat) + 65535) / 131070))
  , (.vmulg, fun a b _ => BitVec.ofNat 16 (min 65535 (a.toNat * b.toNat / 128)))
  , (.vshl, fun a b _ => a <<< (b.extractLsb' 0 4).toNat), (.vshru, fun a b _ => a >>> (b.extractLsb' 0 4).toNat)
  , (.vshrs, fun a b _ => a.sshiftRight (b.extractLsb' 0 4).toNat)
  , (.vabsdu, fun a b _ => if a < b then b - a else a - b)
  , (.vavgu, fun a b _ => BitVec.ofNat 16 ((a.toNat + b.toNat + 1) / 2))
  , (.vlerp, fun a b d => BitVec.ofInt 16
      (a.toNat + (2 * (((b.toNat : Int) - a.toNat) * d.toNat) + 65535) / 131070)) ]

/-- The vector with `g` in the active lanes and the old lanes elsewhere (R179). -/
def Sys2Proof.Machine.merged (k : ClusterState) (f : BitVec 5) (old : Vector Half 64)
    (g : Fin 64 → Half) : Vector Half 64 := Vector.ofFn fun l => if actLane k f l.val then g l else old[l]

/-- VADD to VMOV, VIDX, VSEL and VLERP: every active lane of V[vd] takes the value R191 gives, every other lane, every
other register and everything else stays. -/
def Obligations.VectorArithmetic : Prop :=
  (∀ p ∈ vectorTable, ∀ (e : Side) (c : Cluster) (f : FV) (s : State), vectorFields f →
      Runs e c (vectorWords f) (p.1 e c f) f.ecc s fun u => u.updCl e c fun k =>
        (k.setV f.vd (merged k f.pred (k.vreg f.vd) fun l =>
          p.2 (k.vreg f.va)[l] (laneB k f l) (k.vreg f.vd)[l])).after (k.pc + vectorWords f))
  ∧ (∀ (e : Side) (c : Cluster) (f : FV) (s : State), vectorFields f →
      (f.va = 0 → Runs e c (vectorWords f) (.vmov e c f) f.ecc s fun u => u.updCl e c fun k =>
        (k.setV f.vd (merged k f.pred (k.vreg f.vd) (laneB k f))).after (k.pc + vectorWords f))
      ∧ (f.bcast = false → f.va = 0 → f.vb = 0 → Runs e c 1 (.vidx e c f) f.ecc s fun u => u.updCl e c fun k =>
          (k.setV f.vd (merged k f.pred (k.vreg f.vd) fun l => BitVec.ofNat 16 l.val)).after (k.pc + 1))
      ∧ (f.pred.getLsbD 4 = true → Runs e c (vectorWords f) (.vsel e c f) f.ecc s fun u => u.updCl e c fun k =>
          (k.setV f.vd (merged k f.pred (Vector.ofFn (laneB k f)) fun l => (k.vreg f.va)[l])).after
            (k.pc + vectorWords f)))

/-- The compares of R192. -/
def Sys2Proof.Machine.compareTable : List ((Side → Cluster → FV → Instr) × (Half → Half → Prop)) :=
  [ (.vcmpeq, fun a b => a = b), (.vcmpne, fun a b => a ≠ b), (.vcmpltu, fun a b => a < b), (.vcmpleu, fun a b => a ≤ b)
  , (.vcmplts, fun a b => a.toInt < b.toInt), (.vcmples, fun a b => a.toInt ≤ b.toInt) ]

/-- VCMPEQ to VCMPLES: bit L of P[vd[2:0]] is set exactly where lane L is active and the condition holds; nothing
else changes. -/
def Sys2Proof.Machine.VectorCompares : Prop :=
  ∀ p ∈ compareTable, ∀ (e : Side) (c : Cluster) (f : FV) (s : State), vectorFields f → f.vd.toNat < 8 →
      ∃ r : BitVec 64,
        (∀ l : Fin 64, r.getLsbD l.val = true ↔ actLane (s.cluster e c) f.pred l.val
          ∧ p.2 ((s.cluster e c).vreg f.va)[l] (laneB (s.cluster e c) f l))
        ∧ Runs e c (vectorWords f) (p.1 e c f) f.ecc s fun u => u.updCl e c fun k =>
            (k.setP (f.vd.extractLsb' 0 3) r).after (k.pc + vectorWords f)

/-- VRMAXU, VRMINU and VRSUM: S[vd[3:0]] takes the maximum, the minimum or the sum of the active lanes, 0, 0xFFFF or 0
where none is active; nothing else changes (R193). -/
def Sys2Proof.Machine.VectorReductions : Prop :=
  ∀ (e : Side) (c : Cluster) (f : FV) (s : State), f.bcast = false → f.vb = 0 → f.vd.toNat < 16 →
    (f.pred.getLsbD 4 = true ∨ f.pred = 0) →
    let k := s.cluster e c
    let act (l : Fin 64) : Prop := actLane k f.pred l.val
    let x (l : Fin 64) : Nat := ((k.vreg f.va)[l]).toNat
    let puts (i : Instr) (m : Nat) : Prop := Runs e c 1 i f.ecc s fun u => u.updCl e c fun k =>
      (k.setS (f.vd.extractLsb' 0 4) (BitVec.ofNat 32 m)).after (k.pc + 1)
    (∃ m : Nat, puts (.vrmaxu e c f) m ∧ (∀ l, act l → x l ≤ m)
        ∧ ((∃ l, act l ∧ x l = m) ∨ (m = 0 ∧ ∀ l, ¬ act l)))
      ∧ (∃ m : Nat, puts (.vrminu e c f) m ∧ (∀ l, act l → m ≤ x l)
        ∧ ((∃ l, act l ∧ x l = m) ∨ (m = 0xFFFF ∧ ∀ l, ¬ act l)))
      ∧ (∃ m : Nat, puts (.vrsum e c f) m
        ∧ (∀ b : Fin 64 → Bool, (∀ l, b l = true ↔ act l) → m = ((List.finRange 64).map fun l => if b l then x l else 0).sum))

/-- PAND to PCLR and PRANGE: P[pd] takes the 64 bits R194 gives; nothing else changes. -/
def Sys2Proof.Machine.PredicateOperations : Prop :=
  (∀ (e : Side) (c : Cluster) (f : FP) (s : State), f.rsv = 0 →
    let puts (i : Instr) (r : BitVec 64) : Prop := Runs e c 1 i f.ecc s fun u => u.updCl e c fun k =>
      (k.setP f.pd r).after (k.pc + 1)
    let a := (s.cluster e c).preg f.pa
    let b := (s.cluster e c).preg f.pb
    puts (.pand e c f) (a &&& b) ∧ puts (.por e c f) (a ||| b) ∧ puts (.pxor e c f) (a ^^^ b)
      ∧ puts (.pandn e c f) (a &&& ~~~b) ∧ (f.pb = 0 → puts (.pnot e c f) (~~~a))
      ∧ (f.pa = 0 → f.pb = 0 → puts (.pset e c f) (BitVec.allOnes 64) ∧ puts (.pclr e c f) 0))
  ∧ (∀ (e : Side) (c : Cluster) (f : FPR) (s : State), f.rsv = 0 →
      ∃ r : BitVec 64,
        (∀ l : Fin 64, r.getLsbD l.val = true ↔
          ((s.cluster e c).sreg f.sa).toInt ≤ l.val ∧ (l.val : Int) < ((s.cluster e c).sreg f.sb).toInt)
        ∧ Runs e c 1 (.prange e c f) f.ecc s fun u => u.updCl e c fun k => (k.setP f.pd r).after (k.pc + 1))

/-- Vector compares, reductions and predicate rows: results and frames. -/
def Obligations.ComparesAndPredicates : Prop := Sys2Proof.Machine.VectorCompares ∧ Sys2Proof.Machine.VectorReductions ∧ Sys2Proof.Machine.PredicateOperations

/-- Start of a format VM access with elements of `n` bytes (R195). -/
def Sys2Proof.Machine.vectorAddr (k : ClusterState) (f : FVM) (n : Nat) : Nat :=
  (k.sreg f.sb + f.imm12.signExtend 32 * BitVec.ofNat 32 n).toNat

/-- No tug entry that has not completed writes into [a, a + n) (R157). -/
def Sys2Proof.Machine.noTugInto (k : ClusterState) (a n : Nat) : Prop :=
  ∀ t ∈ k.tugs, t.dst + t.len ≤ a ∨ a + n ≤ t.dst

/-- VLDW and VLDB: every active lane takes its little-endian element, every other lane keeps its value, corrected
errors are counted, and nothing else changes (R195, R185, R152). -/
def Sys2Proof.Machine.VectorLoads : Prop :=
  ∀ (e : Side) (c : Cluster) (f : FVM) (s : State), (f.pred.getLsbD 4 = true ∨ f.pred = 0) →
    let a (n : Nat) := vectorAddr (s.cluster e c) f n
    let takes (i : Instr) (n : Nat) (g : Fin 64 → Half) : Prop := Runs e c 1 i f.ecc s fun u =>
      (countScr e (a n) (64 * n) f.ecc.scr u).updCl e c fun k =>
        (k.setV f.vr (merged k f.pred (k.vreg f.vr) g)).after (k.pc + 1)
    (a 2 % 2 = 0 → a 2 + 128 ≤ 0x41000 → noTugInto (s.cluster e c) (a 2) 128 →
      takes (.vldw e c f) 2 fun l => scrByte s e c (a 2 + 2 * l.val + 1) ++ scrByte s e c (a 2 + 2 * l.val))
    ∧ (a 1 + 64 ≤ 0x41000 → noTugInto (s.cluster e c) (a 1) 64 →
      takes (.vldb e c f) 1 fun l => (scrByte s e c (a 1 + l.val)).setWidth 16)

/-- VSTW and VSTB: the element of every active lane is stored at its place, little-endian; corrected errors are
counted; every other scratch byte and everything else is unchanged (R195, R185, R152). -/
def Sys2Proof.Machine.VectorStores : Prop :=
  ∀ (e : Side) (c : Cluster) (f : FVM) (s : State), (f.pred.getLsbD 4 = true ∨ f.pred = 0) →
    let k := s.cluster e c
    let place (n : Nat) : Nat := vectorAddr k f n
    let free (n m : Nat) : Prop := place n + m ≤ 0x40000 ∧ noTugInto k (place n) m
      ∧ ∀ t ∈ k.tugs, t.berth = none → t.src + t.len ≤ place n ∨ place n + m ≤ t.src
    let frame (n : Nat) (u t : State) : Prop :=
      t.cluster e c = ({ k with scratch := (t.cluster e c).scratch }).after (k.pc + 1)
        ∧ Only (fun _ => False) ((countScr e (place n) (64 * n) f.ecc.scr u).updCl e c fun _ => t.cluster e c) t
    (place 2 % 2 = 0 → free 2 128 → RunsTo e c 1 (.vstw e c f) f.ecc s fun u t => frame 2 u t
      ∧ (∀ l : Fin 64, actLane k f.pred l.val →
          scrByte t e c (place 2 + 2 * l.val) = ((k.vreg f.vr)[l]).extractLsb' 0 8
            ∧ scrByte t e c (place 2 + 2 * l.val + 1) = ((k.vreg f.vr)[l]).extractLsb' 8 8)
      ∧ (∀ b, (∀ l : Fin 64, actLane k f.pred l.val → b < place 2 + 2 * l.val ∨ place 2 + 2 * l.val + 2 ≤ b) →
          scrByte t e c b = scrByte s e c b))
    ∧ (free 1 64 → RunsTo e c 1 (.vstb e c f) f.ecc s fun u t => frame 1 u t
      ∧ (∀ l : Fin 64, actLane k f.pred l.val →
          scrByte t e c (place 1 + l.val) = ((k.vreg f.vr)[l]).extractLsb' 0 8)
      ∧ (∀ b, (∀ l : Fin 64, actLane k f.pred l.val → b ≠ place 1 + l.val) → scrByte t e c b = scrByte s e c b))

/-- Vector loads and stores: results and frames. -/
def Obligations.VectorMemory : Prop := Sys2Proof.Machine.VectorLoads ∧ Sys2Proof.Machine.VectorStores

/-- Entry `i` of the table of U16 at `a` in scratch. -/
def Sys2Proof.Machine.tableEntry (s : State) (e : Side) (c : Cluster) (a i : Nat) : Nat :=
  (scrByte s e c (a + 2 * i)).toNat + 256 * (scrByte s e c (a + 2 * i + 1)).toNat

/-- VLUT and VLUTI: every active lane takes its table entry, or the entry interpolated by the low `sh` bits with a
half rounded upwards (R178, R196); corrected errors are counted (R152), and nothing else changes. -/
def Sys2Proof.Machine.TableLookups : Prop :=
  ∀ (e : Side) (c : Cluster) (f : FL) (s : State), f.rsv = 0 → (f.pred.getLsbD 4 = true ∨ f.pred = 0) →
    let k := s.cluster e c
    let a := (k.sreg f.sb).toNat
    let sh := f.sh.toNat
    let fits (n : Nat) : Prop := a % 2 = 0 ∧ a + 2 * n ≤ 0x41000 ∧ noTugInto k a (2 * n)
    let takes (i : Instr) (n : Nat) (g : Half → Half) : Prop := Runs e c 1 i f.ecc s fun u =>
      (countScr e a (2 * n) f.ecc.scr u).updCl e c fun k =>
        (k.setV f.vd (merged k f.pred (k.vreg f.vd) fun l => g (k.vreg f.va)[l])).after (k.pc + 1)
    (fits (65536 / 2 ^ sh) →
      takes (.vlut e c f) (65536 / 2 ^ sh) fun x => BitVec.ofNat 16 (tableEntry s e c a (x.toNat / 2 ^ sh)))
    ∧ (sh ≠ 0 → fits (65536 / 2 ^ sh + 1) →
      takes (.vluti e c f) (65536 / 2 ^ sh + 1) fun x =>
        let t0 : Int := tableEntry s e c a (x.toNat / 2 ^ sh)
        let t1 : Int := tableEntry s e c a (x.toNat / 2 ^ sh + 1)
        BitVec.ofInt 16 (t0 + ((t1 - t0) * (x.toNat % 2 ^ sh : Nat) + 2 ^ (sh - 1)) / 2 ^ sh))

/-- Sample `i` of a row at `b` of scratch, read according to ETYPE `t`: U8, U16, P10, A8 or G8 (R197). -/
def Sys2Proof.Machine.rowSample (s : State) (e : Side) (c : Cluster) (t b i : Nat) : Nat :=
  let byte (a : Nat) : Nat := (scrByte s e c a).toNat
  let group := b + 5 * (i / 4)
  match t with
  | 0 => byte (b + i)
  | 1 => byte (b + 2 * i) + 256 * byte (b + 2 * i + 1)
  | 2 => (byte group + 2 ^ 8 * byte (group + 1) + 2 ^ 16 * byte (group + 2) + 2 ^ 24 * byte (group + 3)
      + 2 ^ 32 * byte (group + 4)) / 2 ^ (10 * (i % 4)) % 1024
  | 3 => byte (b + 2 * i)
  | _ => byte (b + 2 * i + 1)

/-- VRS of every ETYPE: at P = U0 + L × DU an active lane takes the nearest sample, a half rounded upwards, or with LIN
the value between its two neighbours; at the ends of the row the first and the last sample. That the bytes checked for
G8 take in the last gain where a lane reads it is log 124, the model's reading (R197, R185, R152). -/
def Sys2Proof.Machine.Resampling : Prop :=
  ∀ (e : Side) (c : Cluster) (f : FRS) (s : State), f.rsv = 0 → f.g ≠ 0 → (f.pred.getLsbD 4 = true ∨ f.pred = 0) →
    let k := s.cluster e c
    let r (j : Nat) : Word := k.sreg (BitVec.ofNat 4 (4 * f.g.toNat + j))
    let b := (r 0).toNat
    let w := ((r 3).extractLsb' 0 16).toNat
    let t := ((r 3).extractLsb' 16 3).toNat
    let at_ (i : Int) : Int := rowSample s e c t b (max 0 (min i (w - 1))).toNat
    let pos (l : Fin 64) : Int := (r 1).toInt + l.val * (r 2).toInt
    let near (l : Fin 64) : Int := (pos l + 0x8000) / 65536
    let left (l : Fin 64) : Int := pos l / 65536
    let last (l : Fin 64) : Prop := actLane k f.pred l.val ∧ (w : Int) - 1 ≤ (if f.lin then max 0 (left l + 1) else max 0 (near l))
    let checked (n : Nat) : Prop := (t = 0 ∧ n = w) ∨ (t = 1 ∧ n = 2 * w ∧ b % 2 = 0) ∨ (t = 2 ∧ n = 5 * ((w + 3) / 4))
      ∨ (t = 3 ∧ n = 2 * w) ∨ (t = 4 ∧ (∃ l, last l) ∧ n = 2 * w) ∨ (t = 4 ∧ (∀ l, ¬ last l) ∧ n = 2 * w - 1)
    ∀ n, w ≠ 0 → checked n → b + n ≤ 0x41000 → noTugInto k b n →
      Runs e c 1 (.vrs e c f) f.ecc s fun u => (countScr e b n f.ecc.scr u).updCl e c fun k =>
        (k.setV f.vd (merged k f.pred (k.vreg f.vd) fun l => BitVec.ofInt 16
          (if f.lin = false then at_ (near l)
            else at_ (left l) + ((at_ (left l + 1) - at_ (left l)) * (pos l % 65536) + 32768) / 65536))).after (k.pc + 1)

/-- VOUT: outside FRAME_ENTRY the active lanes of row S[sr] + row of the hand-off buffer take V[vs]; in FRAME_ENTRY
nothing is written. Nothing else changes (R198). -/
def Sys2Proof.Machine.VoutWritesRow : Prop :=
  ∀ (e : Side) (c : Cluster) (f : FO) (s : State), f.rsv = 0 → (f.pred.getLsbD 4 = true ∨ f.pred = 0) →
    let k := s.cluster e c
    let r := (k.sreg f.sr + f.row.setWidth 32).toNat
    (k.pos = 0 → Runs e c 1 (.vout e c f) f.ecc s fun u => u.updCl e c fun k => k.after (k.pc + 1))
    ∧ (k.pos ≠ 0 → r ≤ 63 → RunsTo e c 1 (.vout e c f) f.ecc s fun u t =>
        Sparse.get (Sparse.all zeroLanes) (t.cluster e c).buf r
            = merged k f.pred (Sparse.get (Sparse.all zeroLanes) k.buf r) (fun l => (k.vreg f.vs)[l])
          ∧ (∀ q, q ≠ r → Sparse.get (Sparse.all zeroLanes) (t.cluster e c).buf q
              = Sparse.get (Sparse.all zeroLanes) k.buf q)
          ∧ t.cluster e c = ({ k with buf := (t.cluster e c).buf }).after (k.pc + 1)
          ∧ Only (fun _ => False) (u.updCl e c fun _ => t.cluster e c) t)

/-- Table lookups, resampling and VOUT: results and frames. -/
def Obligations.TablesAndOutput : Prop := Sys2Proof.Machine.TableLookups ∧ Sys2Proof.Machine.Resampling ∧ Sys2Proof.Machine.VoutWritesRow

/-! ### Molia: tugs, the end of a routine, barriers, exceptions -/

/-- Operands of a tug (R199). -/
abbrev Sys2Proof.Machine.tugOk (dst src len : Nat) : Prop :=
  4 ≤ len ∧ len ≤ 16384 ∧ len % 4 = 0 ∧ dst % 4 = 0 ∧ src % 4 = 0 ∧ dst + len ≤ 0x40000

/-- A word of the latch page, little-endian. -/
def Sys2Proof.Machine.pageByte (s : State) (o : Nat) : Byte := Sparse.get (Sparse.all 0) s.ffn.page o

/-- TUGL and TUGS enter the tug queue behind what waits; the first entry in the queue completes by copying its bytes
into scratch, with the corrected errors of the words it reads or writes in part counted; nothing else changes (R152,
R157, R199). A berth read that the other engine made for the same entry gives its bytes here too; one made here is kept
for the other engine while it composes the same frame (R158). A side whose clocks are gated moves nothing (R427). When
an entry completes is timing, which the command gives (log 120). -/
def Obligations.TugsQueueAndCopy : Prop :=
  (∀ (e : Side) (c : Cluster) (f : FT) (s : State), f.rsv = 0 →
    let k := s.cluster e c
    let dst := (k.sreg f.sd).toNat
    let src := (k.sreg f.sa).toNat
    let len := (k.sreg f.sl).toNat
    let d := 0x40 + 32 * f.layer.toNat
    let size := (pageByte s (d + 24)).toNat + 256 * (pageByte s (d + 25)).toNat
      + 65536 * (pageByte s (d + 26)).toNat + 16777216 * (pageByte s (d + 27)).toNat
    let queues (i : Instr) (b : Option BerthNo) : Prop := Runs e c 1 i f.ecc s fun u => u.updCl e c fun k =>
      ({ k with tugs := k.tugs ++ [(⟨dst, src, len, b⟩ : Tug)] }).after (k.pc + 1)
    tugOk dst src len → k.tugs.length < 8 →
    ((pageByte s d).getLsbD 7 = true → src + len ≤ size →
      queues (.tugl e c f) (some (Fin.ofNat 64 ((pageByte s (d + 2)).toNat % 64))))
    ∧ (f.layer = 0 → src + len ≤ 0x41000 → queues (.tugs e c f) none))
  ∧ (∀ (e : Side) (c : Cluster) (s : State) (ecc : List EccHit) (scr : Nat),
      (s.eng e).gated = true ∨ (s.cluster e c).tugs = [] → Ends (.tugTransfer e c ecc scr) s s)
  ∧ (∀ (e : Side) (c : Cluster) (s : State) (t : Tug) (ts : List Tug) (ecc : List EccHit) (scr : Nat),
      (s.eng e).gated = false → (s.cluster e c).tugs = t :: ts →
      let counted (v : State) : State := countWords e (tugWords t) scr v
      let moved (bs : Nat → Byte) (v u : State) : Prop :=
        (u.cluster e c).tugs = ts
          ∧ (∀ i < t.len, Sparse.get (Sparse.all 0) (u.cluster e c).scratch (t.dst + i) = bs i)
          ∧ (∀ b, b < t.dst ∨ t.dst + t.len ≤ b → Sparse.get (Sparse.all 0) (u.cluster e c).scratch b
              = Sparse.get (Sparse.all 0) (s.cluster e c).scratch b)
          ∧ Only (fun _ => False) (v.updCl e c fun _ => u.cluster e c) u
      (t.berth = none → Gives (.tugTransfer e c ecc scr) s
        (moved (fun i => scrByte s e c (t.src + i)) (counted s)))
      ∧ (∀ (b : BerthNo) (bs : List Byte) (rest : List (Tug × List Byte)), t.berth = some b →
          (s.eng e).served[c] = (t, bs) :: rest → bs.length = t.len → Gives (.tugTransfer e c ecc scr) s
            (moved (fun i => bs.getD i 0) (counted (s.updEng e fun g => { g with served := g.served.set c rest }))))
      ∧ (∀ b : BerthNo, t.berth = some b → (∀ x ∈ (s.eng e).served[c], x.1 ≠ t) → ecc = [] → s.br.poison = [] →
          let from_ := (s.berth b).base * 4096 + t.src
          let bs := (List.range t.len).map fun i => Sparse.get (Sparse.all 0) s.br.mem (from_ + i)
          Gives (.tugTransfer e c ecc scr) s (moved (fun i => bs.getD i 0) (counted
            (if inStep s e c then
              s.updEng (otherSide e) fun g => { g with served := g.served.set c (g.served[c] ++ [(t, bs)]) }
            else s)))))

/-- YIELD and TICKWAIT wait while a tug entry is under way (R200). Else YIELD of a tile hands its buffer off and, with
a buffer free, the next tile of the cluster starts at TILE_ENTRY with V, P and the buffer 0 (R146 to R148); TICKWAIT
ends the cluster's frame and hands off every tile left (R150). BAR waits for the other clusters (R150). -/
def Obligations.RoutineEnds : Prop :=
  ∀ (e : Side) (c : Cluster) (f : FC) (s : State), f.rsv = 0 →
    let k := s.cluster e c
    (f.imm8 = 0 → k.tugs ≠ [] → (MolReady e c 1 (.yield e c f) s → Ends (.yield e c f) s s)
      ∧ (MolReady e c 1 (.tickwait e c f) s → Ends (.tickwait e c f) s s))
    ∧ (f.imm8 = 0 → k.tugs = [] → 1 ≤ k.pos → k.pos < 64 → k.full.length = 0 →
        RunsTo e c 1 (.yield e c f) f.ecc s fun _ t =>
          (t.cluster e c).full = [⟨k.tile, k.frm, k.buf⟩] ∧ (t.cluster e c).pos = k.pos + 1
            ∧ (t.cluster e c).tile = tileOfZone ((c.val + 8 * k.pos) % 16) ((c.val + 8 * k.pos) / 16)
            ∧ (t.cluster e c).pc = (s.eng e).tileEntry ∧ (t.cluster e c).run = .running
            ∧ (t.cluster e c).count = 0 ∧ (t.cluster e c).v = [] ∧ (t.cluster e c).p = [] ∧ (t.cluster e c).buf = []
            ∧ (t.cluster e c).s = k.s ∧ (t.cluster e c).scratch = k.scratch)
    ∧ (f.imm8 = 0 → k.tugs = [] → 1 ≤ k.pos → k.pos ≤ 64 → RunsTo e c 1 (.tickwait e c f) f.ecc s fun _ t =>
        (t.cluster e c).run = .idle ∧ (t.cluster e c).full.length = k.full.length + (65 - k.pos)
          ∧ (t.fld (F.ENG_STAT_CLUS_DONE (sideIx e))).testBit c.val = true)
    ∧ ((∃ b : Cluster, b ≠ c ∧ (s.cluster e b).run = .running
          ∧ (Sparse.get (Sparse.all 0) (s.eng e).bar f.imm8.toNat).getLsbD b.val = false) →
        RunsTo e c 1 (.bar e c f) f.ecc s fun _ t => (t.cluster e c).run = .waitBar f.imm8
          ∧ (Sparse.get (Sparse.all 0) (t.eng e).bar f.imm8.toNat).getLsbD c.val = true
          ∧ (t.cluster e c).pc = k.pc + 1)

/-- What a program exception of cause `cause` leaves in ENGx_EXC and ENGx_EXCCNT, and the tile handed off dark
(R164, R165). -/
def Sys2Proof.Machine.Excepted (e : Side) (c : Cluster) (cause : Nat) (s t : State) : Prop :=
  t.fld (F.ENG_EXC_CAUSE (sideIx e)) = cause ∧ t.fld (F.ENG_EXC_CLUSTER (sideIx e)) = c.val
    ∧ t.fld (F.ENG_EXC_TILE (sideIx e)) = (s.cluster e c).tile ∧ t.fld (F.ENG_EXC_PC (sideIx e)) = (s.cluster e c).pc
    ∧ t.fld (F.ENG_EXCCNT_PROG_CNT (sideIx e)) = min (s.fld (F.ENG_EXCCNT_PROG_CNT (sideIx e)) + 1) 65535
    ∧ (t.cluster e c).full = [⟨(s.cluster e c).tile, (s.cluster e c).frm, []⟩]
    ∧ (t.cluster e c).s = (s.cluster e c).s

/-- A word that spells no instruction of R180's tables, such as 0, raises ILLEGAL, or PC_RANGE before it where its format
calls for an extension word outside the code section (R183), and so does an instruction with a reserved field set;
nothing of an instruction's effect happens: ENGx_EXC names the cause, the cluster, the tile and the instruction,
ENGx_EXCCNT counts it, and the tile is handed off dark (R164, R165, R180). That the exception is taken whatever the row
names is log 117, the model's choice. -/
def Sys2Proof.Machine.IllegalRaisesException : Prop :=
  ∀ (e : Side) (c : Cluster) (f : FS) (s : State), OutputsFollow s → s.dplx.hot = none → (s.cluster e c).tugs = [] →
    1 ≤ (s.cluster e c).pos → (s.cluster e c).pos < 64 → (s.cluster e c).full = [] → (s.cluster e c).tile < 512 →
    (s.cluster e c).pc < 32768 → (s.eng e).gated = false →
    (f.rsv ≠ 0 → MolReady e c (if f.xi then 2 else 1) (.sadd e c f) s → Gives (.sadd e c f) s (Excepted e c 1 s))
    ∧ (spellsInstr s e c = false → (s.cluster e c).run = .running → (s.cluster e c).pc < (s.eng e).codeWords →
        let w := (s.eng e).word (s.cluster e c).pc
        let outside : Prop := (s.eng e).codeWords = (s.cluster e c).pc + 1
          ∧ ((w.extractLsb' 26 6 = 0x08 ∧ w.getLsbD 13 = true) ∨ (w.extractLsb' 26 6 = 0x19 ∧ w.extractLsb' 11 5 = 16))
        (¬ outside → Gives (.sadd e c f) s (Excepted e c 1 s)) ∧ (outside → Gives (.sadd e c f) s (Excepted e c 2 s)))

/-- BUDGET_OVERRUN at the tile limit: the tile is handed off dark, ENGx_BUDSTAT counts it and names it (R159).
HARDWARE_EXCEPTION fails the engine and counts; the failure of the ACTIVE engine is a failover with cause 2 at the next
tick, that of the STANDBY one in BEAM makes the mode SIMPLEX at once (R166, R302, R304, R320). That the mode follows at
once is log 131, the model's reading. -/
def Sys2Proof.Machine.OverrunAndHardwareException : Prop :=
  (∀ (e : Side) (c : Cluster) (s : State), s.dplx.hot = none → (s.cluster e c).run = .running →
    (s.eng e).gated = false → tileLimit s e ≤ (s.cluster e c).count → (s.cluster e c).tugs = [] → 1 ≤ (s.cluster e c).pos →
    (s.cluster e c).pos < 64 → (s.cluster e c).full = [] → (s.cluster e c).tile < 512 → OutputsFollow s →
    Gives (.budgetOverrun e c) s fun t =>
      (t.cluster e c).full = [⟨(s.cluster e c).tile, (s.cluster e c).frm, []⟩]
        ∧ t.fld (F.ENG_BUDSTAT_LAST_TILE (sideIx e)) = (s.cluster e c).tile
        ∧ t.fld (F.ENG_BUDSTAT_OVR_CNT (sideIx e)) = min (s.fld (F.ENG_BUDSTAT_OVR_CNT (sideIx e)) + 1) 65535)
  ∧ (∀ (e : Side) (c : Cluster) (x : HwCause) (s : State), OutputsFollow s → (s.eng e).powered = true →
      (s.eng e).role ≠ .failed → s.dplx.hot = none → s.dplx.rsUnit = none →
      s.bit F.DPLX_CTRL_AUTO_RECOV = false →
      Gives (.hardwareException e c x) s fun t =>
        (t.eng e).role = .failed ∧ (t.cluster e c).run = .idle
          ∧ t.fld (F.ENG_EXC_CAUSE (sideIx e)) = (match x with | .pmEcc => 8 | .scrEcc => 9 | .handoff => 10)
          ∧ t.fld (F.ENG_EXCCNT_HW_CNT (sideIx e)) = min (s.fld (F.ENG_EXCCNT_HW_CNT (sideIx e)) + 1) 255
          ∧ ((s.eng e).role = .active → t.dplx.fo = some 2 ∧ t.fld F.DPLX_FOVER_LAST_CAUSE = 2 ∧ t.mode = s.mode)
          ∧ ((s.eng e).role = .standby → t.mode = (if s.mode = .beam then .simplex else s.mode)))

/-- Program and hardware exceptions and budget overruns. -/
def Obligations.ExceptionsAndOverruns : Prop := Sys2Proof.Machine.IllegalRaisesException ∧ Sys2Proof.Machine.OverrunAndHardwareException

/-! ### Host commands: registers, events, PING (R270 to R274, R438, R444) -/

/-- The record of a command that ends OK with `d`, and of a LONG command that is accepted. -/
def Sys2Proof.Machine.okReply (d : List Byte) : Reply := { st := 0, data := d }
def Sys2Proof.Machine.acceptedReply : Reply := { st := 0, final := false }

/-- The address of a register that can be read, with no field that only REG_SNAP reads coherently (R15, R444). -/
abbrev Sys2Proof.Machine.canRead (s : State) (a : Nat) : Prop :=
  placeOf a = .reg ∧ accessOff s a = false ∧ (∀ r, regRow (canon a) = some r → r.snap = 0)

/-- REG_RD returns the words of its registers in rising order; REG_SNAP returns the frame group SEQ_FRAME, SEQ_SHOWN
and SEQ_SINCE together, else its one register. Nothing else changes (R274, R68); STOR_STAT is read while no LONG command
runs, since a read of it meets a running one where it stands (R417). -/
def Sys2Proof.Machine.RegisterReads : Prop :=
  (∀ (h : HostHdr) (s : State) (a n : Nat), HostReady h s → a % 4 = 0 → 1 ≤ n → n ≤ 64 → a + 4 * n ≤ 2 ^ 32 →
    (∀ i < n, canRead s (a + 4 * i)) → (s.long = none ∨ ∀ i < n, a + 4 * i ≠ 0x130000) →
    Ends (.regRd h (toLe 4 a ++ toLe 4 n)) s (answer h 1
      (okReply ((List.range n).flatMap fun i => toLe 4 (viewReg h.ctx s (a + 4 * i)).toNat)) s))
  ∧ (∀ (h : HostHdr) (s : State) (a : Nat), HostReady h s → s.mode ≠ .boot → a < 2 ^ 32 → a % 4 = 0 →
    (a = 0x80014 ∨ a = 0x80018 ∨ a = 0x8001C →
      Ends (.regSnap h (toLe 4 a)) s (answer h 3 (okReply (toLe 4 (s.reg 0x80014).toNat
        ++ toLe 4 (s.reg 0x80018).toNat ++ toLe 4 s.since)) s))
    ∧ (a ≠ 0x80014 → a ≠ 0x80018 → a ≠ 0x8001C → (s.long = none ∨ a ≠ 0x130000) → placeOf a = .reg → accessOff s a = false →
      Ends (.regSnap h (toLe 4 a)) s (answer h 3 (okReply (toLe 4 (viewReg h.ctx s a).toNat)) s)))

/-- Registers whose writes do more than change their own bits. -/
def Sys2Proof.Machine.actsOnWrite (a : Nat) : Bool :=
  a = 8 || a = 0x2010C || a = 0x50000 || a = 0x50100 || a = 0x50020 || a = 0x50024 || a = 0x50120 || a = 0x50124
    || a = 0xD0010 || a = 0x120000 || (0x30040 ≤ a && a < 0x30080 && (a - 0x30040) % 16 < 8) || (clrBit a).isSome

/-- One pair of REG_WR is judged in the order permission, address, power, mode, value (R444): the first that fails
gives the status and the index of the pair, and nothing is written. A pair that passes changes the RW bits of its
register and nothing else; one to EVT_PENDLOc or EVT_PENDHIc clears the pending bits it names (R438). That a register of
another context is refused without a count is log 40 (DEDUCED), that its owner is judged behind the alignment and that a
write without writable bits is OK is log 56 (DEDUCED). -/
def Sys2Proof.Machine.RegisterWrites : Prop :=
  ∀ (h : HostHdr) (s : State) (a : Nat) (v : Word), HostReady h s → s.mode ≠ .boot → a < 0x150000 → canon a = a →
    placeOf a = .reg →
    let p := toLe 4 a ++ toLe 4 v.toNat
    let refused (st : Nat) (u : State) : Prop := Ends (.regWr h p) s (answer h 2 { st := st, data := toLe 4 0 } u)
    (maskOk s h.ctx a = false → refused 2 (s.inc (F.HCTX_ERR_DENY_CNT h.ctx)))
    ∧ (maskOk s h.ctx a = true → a % 4 ≠ 0 → refused 1 s)
    ∧ (maskOk s h.ctx a = true → a % 4 = 0 → ownerOk h.ctx a = false → refused 2 s)
    ∧ (maskOk s h.ctx a = true → a % 4 = 0 → ownerOk h.ctx a = true →
        (assigned a = false → refused 1 s)
        ∧ (assigned a = true →
            (∀ hi : Bool, a = 0x30040 + 16 * h.ctx.val + 4 * hi.toNat → accessOff s a = false → Gives (.regWr h p) s fun t =>
              (t.ctx[h.ctx]).pend = (s.ctx[h.ctx]).pend &&& ~~~ BitVec.ofNat 64 (v.toNat * 2 ^ (32 * hi.toNat))
                ∧ (∀ d : Ctx, d ≠ h.ctx → (t.ctx[d]).pend = (s.ctx[d]).pend)
                ∧ Only (fun b => b = a) (answer h 2 (okReply []) s) t) ∧
            (accessOff s a = true → refused 5 s)
            ∧ (accessOff s a = false → modeRefuses s h.ctx a v = true → refused 3 s)
            ∧ (accessOff s a = false → modeRefuses s h.ctx a v = false → valueOk s a v = false → refused 1 s)
            ∧ (∀ r, accessOff s a = false → modeRefuses s h.ctx a v = false → valueOk s a v = true →
                regRow a = some r → r.rws = 0 → rwsMask a = 0 → r.w1c = 0 → counterFields a = [] → actsOnWrite a = false →
                OutputsFollow s →
                Gives (.regWr h p) s fun t =>
                  (¬ evReg a → t.reg a = (s.reg a &&& ~~~r.rw) ||| (v &&& r.rw))
                    ∧ Only (fun b => b = a) (answer h 2 (okReply []) s) t)))

/-- REG_RD, REG_SNAP and REG_WR. -/
def Obligations.RegisterAccess : Prop := Sys2Proof.Machine.RegisterReads ∧ Sys2Proof.Machine.RegisterWrites

/-- EVT_MASK sets the mask of its context; EVT_ACK clears the pending bits it names, of its context alone; PING
returns its payload. Nothing else changes (R438, R274). -/
def Sys2Proof.Machine.EventCommandsAndPing : Prop :=
  ∀ (h : HostHdr) (p : List Byte) (s : State), HostReady h s →
    (p.length = 8 → s.mode ≠ .boot →
      Ends (.evtMask h p) s (answer h 0x50 (okReply []) (s.updCtx h.ctx fun k =>
          { k with mask := BitVec.ofNat 64 (leAt p 0 8) }))
        ∧ Ends (.evtAck h p) s (answer h 0x51 (okReply []) (s.updCtx h.ctx fun k =>
          { k with pend := k.pend &&& ~~~BitVec.ofNat 64 (leAt p 0 8) })))
    ∧ (p.length ≤ 64 → Ends (.ping h p) s (answer h 0x60 (okReply p) s))

/-- A raised event writes EVT_INFOe, counts EVT_CNTe up to its largest value and sets the pending bit of every context
named, and a context whose mask has the bit gets an event packet while 32 are not yet pending (R435 to R437). -/
def Sys2Proof.Machine.EventRaise : Prop :=
  ∀ (s : State) (e : Nat) (info : Word) (c : Ctx), e < 64 → s.bound c = true →
    let t := handleRaise (e, info, [c]) s
    t.reg (0x30100 + 4 * e) = info
      ∧ t.fld (F.EVT_CNT_COUNT e) = min (s.fld (F.EVT_CNT_COUNT e) + 1) (2 ^ (F.EVT_CNT_COUNT e).width - 1)
      ∧ (∀ d : Ctx, (t.ctx[d]).pend = if d = c then (s.ctx[c]).pend ||| BitVec.ofNat 64 (2 ^ e) else (s.ctx[d]).pend)
      ∧ (∀ i, s.ifaceOf c = some i →
          ((s.ctx[c]).mask.getLsbD e = false → t.outq = s.outq)
          ∧ ((s.ctx[c]).mask.getLsbD e = true → (s.outq[ifaceIx i]).events.length < 32 →
              (t.outq[ifaceIx i]).events = (s.outq[ifaceIx i]).events ++ [(⟨e, (s.ctx[c]).ovf, c, s.reg 0x80014, info, s.since⟩ : EvtPkt)]
              ∧ (t.ctx[c]).ovf = false))

/-- Event commands, PING, and what a raise does. -/
def Obligations.Events : Prop := Sys2Proof.Machine.EventCommandsAndPing ∧ Sys2Proof.Machine.EventRaise

/-! ### Host commands: berths, layers, shadow sets (R53 to R58, R128 to R140, R216 to R226) -/

/-- Base `b` of `n` granules: in the pool, clear of every allocated berth (R128). -/
def Sys2Proof.Machine.clearAt (s : State) (b n : Nat) : Prop :=
  b + n ≤ 5632 ∧ ∀ m : BerthNo, (s.berth m).st ≠ .free → b + n ≤ (s.berth m).base ∨ (s.berth m).base + (s.berth m).size ≤ b

/-- BERTH_ALLOC gives the lowest FREE berth and the lowest base at which the granules are free, and starts its
zero-fill; each case that fails answers BAD_ARG and stands in BRTH_FAULTc (R128, R129). The order SIZE, no berth, quota,
no extent, and BERTH and LAYER 0 after a failure, are log 30, the model's choice. -/
def Obligations.BerthAllocation : Prop :=
  ∀ (h : HostHdr) (s : State) (size : Nat), HostReady h s → s.mode ≠ .boot → size < 8192 →
    let p : List Byte := toLe 2 size ++ [0, 0]
    let fails (cause : Nat) : Prop := Ends (.berthAlloc h p) s (answer h 0x10 { st := 1 }
      ((((s.setFld (F.BRTH_FAULT_CAUSE h.ctx) cause).setFld (F.BRTH_FAULT_BERTH h.ctx) 0).setFld
        (F.BRTH_FAULT_LAYER h.ctx) 0).inc (F.BRTH_FAULT_COUNT h.ctx)))
    let quota : Prop := granUsed s h.ctx + size ≤ s.fld (F.BRTH_QUOTA_GRAN_QUOTA h.ctx)
      ∧ berthsUsed s h.ctx + 1 ≤ s.fld (F.BRTH_BCNT_BERTH_QUOTA h.ctx)
    (size = 0 ∨ 5632 < size → fails 8)
    ∧ (1 ≤ size → size ≤ 5632 →
        ((∀ n, (s.berth n).st ≠ .free) → fails 6)
        ∧ (∀ n, (s.berth n).st = .free → (∀ m < n, (s.berth m).st ≠ .free) →
            (¬ quota → fails 5)
            ∧ (quota → (∀ b, ¬ clearAt s b size) → fails 7)
            ∧ (∀ b, quota → clearAt s b size → (∀ b' < b, ¬ clearAt s b' size) →
                Ends (.berthAlloc h p) s (answer h 0x10 (okReply ([BitVec.ofNat 8 n.val, 0] ++ toLe 2 b))
                  (s.updBerth n fun _ => { st := .filling, owner := h.ctx, base := b, size := size, zfill := true })))))

/-- The payload of BERTH_READY and BERTH_FREE. -/
def Sys2Proof.Machine.berthPayload (n : BerthNo) (fence : Bool) : List Byte :=
  [BitVec.ofNat 8 n.val, if fence then 1 else 0, 0, 0]

/-- BERTH_READY and BERTH_FREE move a berth of their context by R133's table, with its fence armed where asked;
BERTH_FREE of a FILLING or READY berth makes it FREE, ends a fill in progress, and releases its fence (R129, R134).
Another context is DENIED, and counted (R270). What waits for a berth's fill is a list of the model (log 31). -/
def Sys2Proof.Machine.BerthReadyAndFree : Prop :=
  ∀ (h : HostHdr) (s : State) (n : BerthNo) (f : Bool), HostReady h s → s.mode ≠ .boot →
    let b := s.berth n
    let ready (r : Reply) (u : State) : Prop := Ends (.berthReady h (berthPayload n f)) s (answer h 0x13 r u)
    let free (r : Reply) (u : State) : Prop := Ends (.berthFree h (berthPayload n f)) s (answer h 0x11 r u)
    let goes (st : BerthSt) : State := s.updBerth n fun b => { b with st := st, fence := b.fence || f }
    (b.st ≠ .free → b.owner ≠ h.ctx → (h.m = false → ready { st := 2 } (s.inc (F.HCTX_ERR_DENY_CNT h.ctx)))
        ∧ free { st := 2 } (s.inc (F.HCTX_ERR_DENY_CNT h.ctx)))
    ∧ (b.st = .free → b.zfill = false → b.held = [] → (h.m = false → ready { st := 1 } s) ∧ free { st := 1 } s)
    ∧ (b.owner = h.ctx → b.zfill = false → b.held = [] →
        (h.m = false → (b.st = .filling → ready (okReply []) (goes .ready))
          ∧ (b.st = .ready → ready (okReply []) (goes .ready))
          ∧ (b.st = .inFlight → ready (okReply []) (goes .inFlight)) ∧ (b.st = .retiring → ready { st := 1 } s))
        ∧ (b.st = .inFlight → free (okReply []) (goes .retiring))
        ∧ (b.st = .retiring → free (okReply []) (goes .retiring)))
    ∧ (b.owner = h.ctx → b.st = .filling ∨ b.st = .ready → OutputsFollow s →
        (b.zfill = false ∧ b.held = []) ∨ (s.job = none ∧ ∀ m, (s.berth m).held = []) →
        Gives (.berthFree h (berthPayload n f)) s fun t => t.berth n = {}
          ∧ (∀ m, m ≠ n → t.berth m = s.berth m)
          ∧ ((b.fence || f) = true → (t.reg (if n.val < 32 then 0x70060 + 8 * h.ctx.val else 0x70064 + 8 * h.ctx.val)).getLsbD
              (n.val % 32) = true))

/-- Berth memory as a list of bytes; poisoned words aside. -/
def Sys2Proof.Machine.memByte (s : State) (o : Nat) : Byte := Sparse.get (Sparse.all 0) s.br.mem o

/-- BERTH_WRITE into a FILLING berth, or a READY one that no pending commit names, stores its bytes at their place and
leaves every other byte alone; a READY berth becomes FILLING. A write to an IN-FLIGHT or RETIRING berth is dropped,
recorded and reported by event 17 with cause 1, one to a READY berth that a pending commit names with cause 2 (R133);
that BRTH_FAULTc.LAYER is then 0 is log 30, the model's choice. One from another context is DENIED and counted (R130).
While the berth's zero-fill runs, the write waits (R129), in the berth's list (log 31, the model's). No LONG command
reads or writes the store meanwhile: one that does is met where it stands (log 7). -/
def Sys2Proof.Machine.BerthWrites : Prop :=
  (∀ (h : HostHdr) (s : State) (n : BerthNo) (o : Nat) (bs : List Byte), HostReady h s → s.mode ≠ .boot → h.m = false →
    (s.berth n).st ≠ .free → (s.berth n).owner ≠ h.ctx →
    Ends (.berthWrite h ([BitVec.ofNat 8 n.val, 0, 0, 0] ++ toLe 4 o ++ bs)) s
      (answer h 0x12 { st := 2 } (s.inc (F.HCTX_ERR_DENY_CNT h.ctx))))
  ∧ ∀ (h : HostHdr) (s : State) (n : BerthNo) (o : Nat) (bs : List Byte), HostReady h s → s.mode ≠ .boot → h.m = false →
    o % 4 = 0 → bs.length % 4 = 0 → o < 2 ^ 32 →
    o + bs.length ≤ (s.berth n).size * 4096 → (s.berth n).owner = h.ctx → s.br.poison = [] →
    s.job = none →
    let p := [BitVec.ofNat 8 n.val, 0, 0, 0] ++ toLe 4 o ++ bs
    let at0 := (s.berth n).base * 4096 + o
    let stored (t : State) : Prop := (∀ i < bs.length, memByte t (at0 + i) = bs.getD i 0)
      ∧ (∀ a, a < at0 ∨ at0 + bs.length ≤ a → memByte t a = memByte s a)
      ∧ (∀ m, m ≠ n → t.berth m = s.berth m)
      ∧ Only (fun _ => False) { answer h 0x12 (okReply []) s with br := t.br } t
    let dropped (cause : Nat) : Prop := Ends (.berthWrite h p) s (answer h 0x12 { st := 2 }
      (raiseTo 17 (cause + n.val * 16) [h.ctx]
        ((((s.setFld (F.BRTH_FAULT_CAUSE h.ctx) cause).setFld (F.BRTH_FAULT_BERTH h.ctx) n.val).setFld
          (F.BRTH_FAULT_LAYER h.ctx) 0).inc (F.BRTH_FAULT_COUNT h.ctx))))
    let now : Prop := (s.berth n).zfill = false ∧ (s.berth n).held = []
    (now → (s.berth n).st = .filling → Gives (.berthWrite h p) s fun t => stored t ∧ t.berth n = s.berth n)
    ∧ (now → (s.berth n).st = .ready → pendingNames s n = false →
      Gives (.berthWrite h p) s fun t => stored t ∧ t.berth n = { s.berth n with st := .filling })
    ∧ (now → (s.berth n).st = .ready → pendingNames s n = true → dropped 2)
    ∧ (now → (s.berth n).st = .inFlight ∨ (s.berth n).st = .retiring → dropped 1)
    ∧ ((s.berth n).zfill = true → Gives (.berthWrite h p) s fun t =>
        t.berth n = { s.berth n with held := (s.berth n).held ++ [⟨s.nextId, h, 0x12, 0, p⟩] }
          ∧ t.br.mem = s.br.mem ∧ t.opens = s.opens ++ [⟨s.nextId, h.ctx, h.m, h.mseq, false, [], 1⟩])

/-- BERTH_READY, BERTH_FREE and BERTH_WRITE. -/
def Obligations.BerthUse : Prop := Sys2Proof.Machine.BerthReadyAndFree ∧ Sys2Proof.Machine.BerthWrites

/-- ZERO_FILL_DONE: the berth's memory reads 0 and its fill is over; SCRUB and UNI_RELOAD leave every sound byte as it
is, or put the granule's bytes back (R125, R126, R129). -/
def Obligations.BerthMemoryByItself : Prop :=
  (∀ (s : State) (n : BerthNo), s.mode.dieOn = true → s.pwr.inReset = false → (s.berth n).zfill = true →
    (∀ m, (s.berth m).held = []) → s.after = [] → s.job = none → Gives (.zeroFillDone n) s fun t =>
      t.berth n = { s.berth n with zfill := false }
        ∧ (∀ a, (s.berth n).base * 4096 ≤ a → a < ((s.berth n).base + (s.berth n).size) * 4096 → memByte t a = 0)
        ∧ (∀ a, a < (s.berth n).base * 4096 ∨ ((s.berth n).base + (s.berth n).size) * 4096 ≤ a → memByte t a = memByte s a)
        ∧ Only (fun _ => False) { s with br := t.br } t)
  ∧ (∀ (s : State) (off : Nat), s.mode.dieOn = true → s.pwr.inReset = false → off < 0x1800000 → s.br.poison = [] →
      Ends (.scrub off []) s s
        ∧ (OutputsFollow s → Gives (.scrub off [⟨off, false⟩]) s fun t =>
            t.fld F.BRTH_ECC_CORR = min (s.fld F.BRTH_ECC_CORR + 1) (2 ^ F.BRTH_ECC_CORR.width - 1)
              ∧ t.br = s.br)
        ∧ (OutputsFollow s → Gives (.scrub off [⟨off, true⟩]) s fun t =>
            berthByte t off = 0 ∧ t.fld F.BRTH_ECCADDR_OFFSET = 8 * (off / 8) % 2 ^ F.BRTH_ECCADDR_OFFSET.width
              ∧ t.bit F.BRTH_ECCADDR_VALID = true))
  ∧ (∀ (s : State) (g : Fin 512), s.mode.dieOn = true → s.pwr.inReset = false → s.br.poison = [] →
      Gives (.uniReload g) s fun t =>
        (∀ i < 4096, memByte t (0x1600000 + 4096 * g.val + i) = (uniGranule s g.val).getD i 0)
          ∧ (∀ a, a < 0x1600000 + 4096 * g.val ∨ 0x1600000 + 4096 * (g.val + 1) ≤ a → memByte t a = memByte s a)
          ∧ Only (fun _ => False) { s with br := t.br } t)

/-- The fade entries of a shadow set as a commit carries them (R471). -/
def Sys2Proof.Machine.carriedFades (x : Shadow) : Shadow :=
  { x with fades := x.fades.map fun e => (e.1, e.2.map fun v => { v with carried := true }) }

/-- LAYER_SET takes the layer for its context and puts its parameters into the shadow set; OBJ_LIST, FADE and
PITCH_YAW put theirs (R139, R140, R23, R225, R216, R471). OBJ_LIST without OBJ, PITCH_YAW without PY, and a LAYER_SET of
a layer that another context owns or whose pin mask shuts the context out, or with a berth of another context, are
DENIED and counted (R139, R259). Nothing else changes. -/
def Sys2Proof.Machine.ShadowCommands : Prop :=
  ∀ (h : HostHdr) (s : State), HostReady h s → s.mode ≠ .boot → h.m = false →
    (∀ p : List Byte, layerOk (layerPar p) p = true → pinAllows s (layerPar p).layer h.ctx = true →
      ((s.br.owner)[(layerPar p).layer] = none ∨ (s.br.owner)[(layerPar p).layer] = some h.ctx) →
      ((layerPar p).enable = true → (layerPar p).release = false →
        othersBerth s h.ctx (layerPar p).berth = false
          ∧ fitsBerth (layerPar p) ((s.berth (layerPar p).berth).size * 4096) = true) →
      Ends (.layerSet h p) s (answer h 0x21 (okReply [])
        (({ s with br := { s.br with owner := s.br.owner.set (layerPar p).layer (some h.ctx) } } : State).updCtx h.ctx fun k =>
          { k with shadow := { k.shadow with
              layers := Sparse.put (Sparse.all []) k.shadow.layers (layerPar p).layer.val p } })))
    ∧ (∀ p : List Byte, (∃ c, (s.br.owner)[(layerPar p).layer] = some c ∧ c ≠ h.ctx)
          ∨ pinAllows s (layerPar p).layer h.ctx = false
          ∨ ((layerPar p).enable = true ∧ (layerPar p).release = false ∧ othersBerth s h.ctx (layerPar p).berth = true) →
        Ends (.layerSet h p) s (answer h 0x21 { st := 2 } (s.inc (F.HCTX_ERR_DENY_CNT h.ctx))))
    ∧ (∀ (es : List (List Byte)), es.length ≤ 64 → (∀ e ∈ es, e.length = 16) → hasPerm s h.ctx 5 = true →
        Ends (.objList h ([BitVec.ofNat 8 es.length, 0, 0, 0] ++ es.flatten)) s (answer h 0x20 (okReply [])
          (s.updCtx h.ctx fun k => { k with objNew := some (es.map fun e => ⟨e⟩) })))
    ∧ (∀ p : List Byte, hasPerm s h.ctx 5 = false →
        Ends (.objList h p) s (answer h 0x20 { st := 2 } (s.inc (F.HCTX_ERR_DENY_CNT h.ctx))))
    ∧ (∀ (zm target frames : Nat) (log : Bool), 0 < zm → zm < 65536 → target < 65536 → frames < 65536 →
        Gives (.fade h (toLe 2 zm ++ toLe 2 target ++ toLe 2 frames ++ [if log then 1 else 0, 0])) s fun t =>
          (∀ z : Zone, Sparse.get (Sparse.all none) (t.ctx[h.ctx]).shadow.fades z.val
              = if zm.testBit z.val then some ⟨target, frames, log, false⟩
                else Sparse.get (Sparse.all none) (s.ctx[h.ctx]).shadow.fades z.val)
            ∧ Only (fun _ => False) (answer h 0x23 (okReply []) (s.updCtx h.ctx fun k =>
                { k with shadow := { k.shadow with fades := (t.ctx[h.ctx]).shadow.fades } })) t)
    ∧ (∀ p : List Byte, hasPerm s h.ctx 6 = false →
        Ends (.pitchYaw h p) s (answer h 0x24 { st := 2 } (s.inc (F.HCTX_ERR_DENY_CNT h.ctx))))
    ∧ (∀ (a b : Half), hasPerm s h.ctx 6 = true → -600 ≤ a.toInt → a.toInt ≤ 600 → -1800 ≤ b.toInt → b.toInt ≤ 1800 →
        Ends (.pitchYaw h (toLe 2 a.toNat ++ toLe 2 b.toNat ++ [0, 0, 0, 0])) s (answer h 0x24 (okReply [])
          (s.updCtx h.ctx fun k => { k with shadow := { k.shadow with pitchYaw := some (a, b) } })))

/-- COMMIT copies the shadow set of its context for frame k + 2, for the frame it names, or, when that is too near, for
k + 2 with ROLLED and event 3; with the sequencer stopped it answers MODE_REJECT (R53 to R56, R471). That k is what
SEQ_FRAME shows, before T_0 of a run that of the run before, is log 142, the model's choice. -/
def Sys2Proof.Machine.CommitNamesFrame : Prop :=
  ∀ (h : HostHdr) (s : State) (targeted : Bool) (f : Word), HostReady h s → s.mode ≠ .boot → h.m = false →
    let p : List Byte := [if targeted then 1 else 0, 0, 0, 0] ++ toLe 4 f.toNat
    let k : Word := s.reg 0x80014
    let ahead : Int := (f - k).toInt
    let commits (g : Word) (rolled : Bool) : Prop :=
      Ends (.commit h p) s (answer h 0x22 (okReply (toLe 4 g.toNat))
        (let u := (s.updCtx h.ctx fun x => { x with shadow := carriedFades x.shadow
                                                    commit := some ⟨g, targeted, carriedFades x.shadow⟩ }).setFld
            (F.SEQ_COMMITFRM_APPLY_FRAME h.ctx) g.toNat
         if rolled then raiseTo 3 g.toNat [h.ctx] (u.setBit (F.SEQ_COMMITSTAT_ROLLED h.ctx) true) else u))
    (s.seq.running = false → Ends (.commit h p) s (answer h 0x22 { st := 3 } s))
    ∧ (s.seq.running = true →
        (targeted = false → commits (k + 2) false)
        ∧ (targeted = true → 2 ≤ ahead → ahead ≤ 1024 → commits f false)
        ∧ (targeted = true → ahead < 2 → commits (k + 2) true)
        ∧ (targeted = true → 1024 < ahead → Ends (.commit h p) s (answer h 0x22 { st := 1 } s)))

/-- Commands to the shadow set, and COMMIT. -/
def Obligations.ShadowAndCommit : Prop := Sys2Proof.Machine.ShadowCommands ∧ Sys2Proof.Machine.CommitNamesFrame

/-! ### Host commands: modes, locks, the store (R206 to R213, R347 to R349, R380, R395 to R399, R411 to R414) -/

/-- The management channel taken by a command of context `h.ctx`, its work not done, or done with a final record. -/
def Sys2Proof.Machine.channel (h : HostHdr) (code : Nat) (now : Nat) (final : Option (Nat × List Byte)) : Option LongCmd :=
  some ⟨h.ctx, h.mseq, code, 0, now, final, none⟩

/-- The management channel taken by a command with work on berths or the store to do. -/
def Sys2Proof.Machine.working (h : HostHdr) (code : Nat) (now : Nat) (j : LongJob) : Option LongCmd :=
  some ⟨h.ctx, h.mseq, code, 0, now, none, some j⟩

/-- State `s` when such work starts: STOR_STAT shows none done (R417). -/
def Sys2Proof.Machine.noneDone (s : State) : State := (s.setBit F.STOR_STAT_ERASING false).setFld F.STOR_STAT_DONE 0

/-- The LONG command `l` runs, its final record can be sent, and nothing else waits to be dispatched or answered. -/
abbrev Sys2Proof.Machine.Completes (s : State) (l : LongCmd) : Prop :=
  s.long = some l ∧ noHm s = false ∧ unsent s l.ctx < 32 ∧ s.opens = [] ∧ s.finals = [] ∧ s.after = [] ∧ ∀ i : Fin 4, s.rxF[i] = [] ∧ s.rxM[i] = []

/-- The message with the final record of a LONG command (R265, R268). -/
def Sys2Proof.Machine.finalMsg (l : LongCmd) (st : Nat) (d : List Byte) : List Byte :=
  respBytes l.mseq false true true [⟨l.code, l.idx, st, true, d⟩]

/-- In `t` the channel is free and the final record of `l` is the newest response of its interface (R268). -/
def Sys2Proof.Machine.Completed (s t : State) (l : LongCmd) (st : Nat) (d : List Byte) : Prop :=
  t.long = none ∧ ∀ i, s.ifaceOf l.ctx = some i →
    (t.outq[ifaceIx i]).resps = (s.outq[ifaceIx i]).resps ++ [⟨l.ctx, finalMsg l st d⟩]

def Sys2Proof.Machine.modePayload (m : Mode) : List Byte := [BitVec.ofNat 8 m.code, 0, 0, 0]

/-- MODE_REQ: the current mode, or BEAM in SIMPLEX, ends OK at once; another target that R395 lists is accepted and
waits, for LOWLIGHT and BEAM only with optics tables and an image; one that is not is answered MODE_REJECT and event 52;
without the permission it is DENIED (R270, R395, R396, R398). That a rejected request leaves REQ_TGT and that event 52
goes out at every rejection is log 45 (DEDUCED). -/
def Obligations.ModeRequests : Prop :=
  ∀ (h : HostHdr) (s : State) (m : Mode), HostReady h s → s.mode ≠ .boot → h.m = true → s.long = none →
    m = .dark ∨ m = .lowlight ∨ m = .beam ∨ m = .service ∨ m = .calibrate ∨ m = .sleep →
    let p := modePayload m
    let reject (st : Nat) (u : State) : Prop := Ends (.modeReq h p) s (answer h 0x30 { st := st }
      (raiseTo 52 (m.code + s.mode.code * 16 + st * 256) [h.ctx] u))
    (hasPerm s h.ctx 0 = false → reject 2 (s.inc (F.HCTX_ERR_DENY_CNT h.ctx)))
    ∧ (hasPerm s h.ctx 0 = true →
        (m = s.mode ∨ (m = .beam ∧ s.mode = .simplex) → Ends (.modeReq h p) s (answer h 0x30 acceptedReply
          { s.setFld F.PWR_MODE_REQ_TGT m.code with long := channel h 0x30 s.now (some (0, toLe 4 s.mode.code)) }))
        ∧ (m ≠ s.mode → ¬ (m = .beam ∧ s.mode = .simplex) → acceptsTarget s.mode m = false → reject 3 s)
        ∧ (acceptsTarget s.mode m = true → m ≠ .dark → m ≠ .sleep → ¬ (m = .beam ∧ s.mode = .simplex) →
            s.bit F.THRM_STAT_THERM_STOP = true → reject 3 s)
        ∧ (acceptsTarget s.mode m = true → m = .lowlight ∨ (m = .beam ∧ s.mode ≠ .simplex) →
            s.bit F.FFN_STAT_OPT_VALID = false ∨ (s.engA.imgValid = false ∧ s.engB.imgValid = false) → reject 3 s)
        ∧ (acceptsTarget s.mode m = true → m = .lowlight ∨ (m = .beam ∧ s.mode ≠ .simplex) →
            s.bit F.FFN_STAT_OPT_VALID = true → s.engA.imgValid = true ∨ s.engB.imgValid = true →
            s.bit F.THRM_STAT_THERM_STOP = false → Gives (.modeReq h p) s fun t =>
              t.mode = s.mode ∧ t.fld F.PWR_MODE_REQ_TGT = m.code ∧ t.long = channel h 0x30 s.now none
                ∧ t.pwr.req = some ⟨m, h.ctx⟩)
        ∧ (acceptsTarget s.mode m = true → m = .dark ∨ m = .service ∨ m = .calibrate →
            (m ≠ .dark → s.bit F.THRM_STAT_THERM_STOP = false) →
            Ends (.modeReq h p) s (answer h 0x30 acceptedReply
              { s.setFld F.PWR_MODE_REQ_TGT m.code with
                  long := channel h 0x30 s.now none, pwr := { s.pwr with req := some ⟨m, h.ctx⟩ } })))

/-- MODE_REQ for SAFE-DARK, from every mode and whatever LONG command runs, locks the device out with cause 0x1 and is
at once in SAFE-DARK; it takes the channel, and the command it ends gets its final record, MODE_REJECT for one without
work on the store (R269, R338, R339, R396). -/
def Sys2Proof.Machine.SafeDarkRequest : Prop :=
  ∀ (h : HostHdr) (s : State), HostReady h s → OutputsFollow s → s.mode ≠ .boot → h.m = true →
    hasPerm s h.ctx 0 = true →
    Gives (.modeReq h (modePayload .safeDark)) s fun t =>
      t.mode = .safeDark ∧ t.bit F.SAFE_STAT_DEV_LOCK = true ∧ t.fld F.SAFE_LOCK_LAST_CAUSE = 1
        ∧ t.bit F.SAFE_LOCK_LAST_DEV = true
        ∧ t.fld F.SAFE_LOCK_LOCK_SEQ = (s.fld F.SAFE_LOCK_LOCK_SEQ + 1) % 2 ^ F.SAFE_LOCK_LOCK_SEQ.width
        ∧ (s.pwr.brownOut = false → t.bit F.AON_MODE_LOCKED = true)
        ∧ (s.mode ≠ .safeDark → t.fld F.PWR_MODE_PREV = s.mode.code ∧ t.fld F.PWR_MODE_CAUSE = 7) ∧ t.pwr.req = none
        ∧ (∀ i, unsent s h.ctx < 31 → s.ifaceOf h.ctx = some i →
            ⟨h.ctx, respBytes h.mseq false false true (records h 0x30 acceptedReply)⟩ ∈ (t.outq[ifaceIx i]).resps)
        ∧ (∀ l i, s.long = some l → l.job = none → l.code ≠ 0x31 → l.code ≠ 0x32 → s.pwr.req = none →
            s.dplx.hot = none → s.dplx.rsUnit = none → unsent s l.ctx < 31 → s.ifaceOf l.ctx = some i →
            ⟨l.ctx, finalMsg l 3 []⟩ ∈ (t.outq[ifaceIx i]).resps)
        ∧ t.long = channel h 0x30 s.now (some (0, toLe 4 10))
        ∧ (∀ z : Zone, srcEnabled t z = false ∧ zenLow t z = false)
        ∧ t.bit F.SAFE_STAT_FALLBACK = true ∧ t.bit F.SAFE_STAT_SAFE_OK_RUN = false

/-- MODE_REQ for SLEEP from DARK or SAFE-DARK: the response and behind it the final record OK with mode 0x1 go out on
the requesting interface, the last packet that it sends, and a port then sends EI; LATCH pads are held, and the
controller die returns to its reset values (R399, R405, R431). That what waits on the interface is sent at once is
log 55, the model's choice. -/
def Sys2Proof.Machine.SleepRequest : Prop :=
  ∀ (h : HostHdr) (s : State), HostReady h s → s.mode = .dark ∨ s.mode = .safeDark → h.m = true → s.long = none →
    hasPerm s h.ctx 0 = true → s.pwr.brownOut = false →
    let last (seq : Byte) : List Byte := packet 2 false h.ctx seq (respBytes h.mseq false true true [⟨0x30, 0, 0, true, toLe 4 1⟩])
    Gives (.modeReq h (modePayload .sleep)) s fun t =>
      t.mode = .sleep ∧ t.pending = s.pending ∧ t.store.mem = s.store.mem ∧ t.stk.powered = false ∧ t.br.mem = []
        ∧ (∀ a, aonHeld a = false → ¬ evReg a → a ≠ 0x110000 → t.reg a = regReset a)
        ∧ t.fld F.AON_PADCFG_HELD = s.fld F.AON_PADCFG_LATCH
        ∧ t.bit F.AON_MODE_LOCKED = s.bit F.SAFE_STAT_DEV_LOCK
        ∧ t.fld F.AON_MODE_ZLOCK = s.fld F.SAFE_ZONES_ZLOCK % 2 ^ F.AON_MODE_ZLOCK.width
        ∧ t.pwr.mpAddr = s.pwr.mpAddr
        ∧ (s.finals = [] → (∀ q : Port, (s.port[q]).retrainAfter = none) → ∀ i, s.ifaceOf h.ctx = some i → canSend s i = true →
            s.outq[ifaceIx i] = ⟨[], []⟩ →
            (∀ p : Port, i = ifaceOfPort p → (t.port[p]).sent
                = frame (last (BitVec.ofNat 8 (s.fld (F.LINK_PSTAT_TX_SEQ p.val) + 1))) ++ [⟨true, 0x55 :: List.replicate 7 0⟩])
              ∧ (i = .spi → t.spi.sent = last (s.spi.txSeq + 1))
              ∧ (i = .can → t.can.sent = canSegments ((last (s.can.txSeq + 1)).length + 1) 0 (last (s.can.txSeq + 1))))

/-- MODE_REQ for SAFE-DARK and for SLEEP. -/
def Obligations.ModeExtremes : Prop := Sys2Proof.Machine.SafeDarkRequest ∧ Sys2Proof.Machine.SleepRequest

/-- UNLOCK closes the unlock window; it ends DENIED without one, BAD_ARG with another LOCK_SEQ, MODE_REJECT while a
cause is present; else every lock-out is cleared, and SAFE-DARK becomes DARK (R347, R348). -/
def Sys2Proof.Machine.UnlockClearsLocks : Prop :=
  ∀ (h : HostHdr) (s : State) (n : Nat), HostReady h s → s.mode ≠ .boot → h.m = true → s.long = none →
    hasPerm s h.ctx 4 = true → anyLock s = true → s.fld F.SAFE_CORE_STATE ≠ 1 → n < 65536 →
    let p : List Byte := toLe 2 n ++ [0, 0]
    let ended (st : Nat) : Prop := Ends (.unlock h p) s (answer h 0x40 acceptedReply
      { s.setBit F.SAFE_LOCK_UNL_WIN false with long := channel h 0x40 s.now (some (st, [])) })
    (s.bit F.SAFE_LOCK_UNL_WIN = false → ended 2)
    ∧ (s.bit F.SAFE_LOCK_UNL_WIN = true → n ≠ s.fld F.SAFE_LOCK_LOCK_SEQ → ended 1)
    ∧ (s.bit F.SAFE_LOCK_UNL_WIN = true → n = s.fld F.SAFE_LOCK_LOCK_SEQ → causePresent s = true → ended 3)
    ∧ (s.bit F.SAFE_LOCK_UNL_WIN = true → n = s.fld F.SAFE_LOCK_LOCK_SEQ → causePresent s = false → OutputsFollow s →
        Gives (.unlock h p) s fun t =>
          t.fld F.SAFE_ZONES_ZLOCK = 0 ∧ t.bit F.SAFE_STAT_DEV_LOCK = false ∧ t.fld F.SAFE_OPTFAIL_PATHA = 0
            ∧ t.fld F.SAFE_OPTFAIL_PATHB = 0 ∧ t.bit F.SAFE_LOCK_UNL_WIN = false
            ∧ t.bit F.AON_MODE_LOCKED = false ∧ t.fld F.AON_MODE_ZLOCK = 0
            ∧ t.mode = (if s.mode = .safeDark then .dark else s.mode)
            ∧ t.long = channel h 0x40 s.now (some (0, [])))

/-- SAFE_STATUS returns the 32-byte safety record; in legacy mode a right answer in time clears the count of
failures, a wrong one counts, and either publishes a new challenge that is not 0 (R331, R349). -/
def Sys2Proof.Machine.SafetyStatus : Prop :=
  ∀ (h : HostHdr) (s : State), HostReady h s →
    (Ends (.safeStatus h []) s (answer h 0x41 (okReply (safetyRecord s)) s) ∧ (safetyRecord s).length = 32
      ∧ (safetyRecord s).take 2 = toLe 2 (s.fld F.SAFE_LOCK_LOCK_SEQ)
      ∧ ((safetyRecord s).drop 8).take 4 = toLe 2 (s.fld F.SAFE_ZONES_ZLOCK) ++ toLe 2 (zcut s))
    ∧ (∀ q a : Nat, q < 65536 → a < 65536 → OutputsFollow s → hasPerm s h.ctx 4 = true →
        s.bit F.SAFE_STAT_ARCH_LEGACY = true → s.fld F.SAFE_LEGACY_Q ≠ 0 →
        let right : Prop := q = s.fld F.SAFE_LEGACY_Q ∧ a = (crc16 (toLe 2 q ++ [s.safe.sealByte])).toNat
          ∧ 1000000 ≤ s.now - s.safe.qAt ∧ s.now - s.safe.qAt ≤ 10000000
        (right → Gives (.safeStatus h (toLe 2 a ++ toLe 2 q)) s fun t =>
          t.fld F.SAFE_LEGACY_QA_CONSEC = 0 ∧ t.fld F.SAFE_LEGACY_Q ≠ 0 ∧ t.safe.qAt = s.now
            ∧ t.fld F.SAFE_LOCK_LOCK_SEQ = s.fld F.SAFE_LOCK_LOCK_SEQ)
        ∧ (¬ right → s.fld F.SAFE_LEGACY_QA_CONSEC < 2 → Gives (.safeStatus h (toLe 2 a ++ toLe 2 q)) s fun t =>
          t.fld F.SAFE_LEGACY_QA_CONSEC = s.fld F.SAFE_LEGACY_QA_CONSEC + 1 ∧ t.fld F.SAFE_LEGACY_Q ≠ 0
            ∧ t.safe.qAt = s.now ∧ t.fld F.SAFE_LOCK_LOCK_SEQ = s.fld F.SAFE_LOCK_LOCK_SEQ))

/-- UNLOCK and SAFE_STATUS. -/
def Obligations.SafetyCommands : Prop := Sys2Proof.Machine.UnlockClearsLocks ∧ Sys2Proof.Machine.SafetyStatus

/-- The store may be erased or programmed (R390). -/
abbrev Sys2Proof.Machine.storeCool (s : State) : Prop :=
  s.bit F.THRM_STAT_DIE_FAIL = false ∧ s.therm.dieValid = true ∧ -250 ≤ s.fldI F.THRM_TEMP_DIE ∧ s.fldI F.THRM_TEMP_DIE ≤ 950

/-- The bytes of the image PROG_LOAD reads from the store: the content of the valid MOL bank, none without one. -/
def Sys2Proof.Machine.molBytes (s : State) : List Byte :=
  match latestRec s 1 with
  | some r => storeBytes s (bankBase 1 r.bank) r.len
  | none => []

/-- PROG_LOAD from the store: with the store window open it is accepted, with closed ends STORE_TEMP and event 60. At
LONG_COMPLETION an image that passes R204 and EXP_CRC is loaded into both engines, which take their roles at the next
latch edge; CHECK and IMG_CRC stand in the final record (R206 to R209, R268, R390). The model's choices in this: that
IMG_CRC is 0 with STORE_TEMP (log 149), that the engines are loaded at LONG_COMPLETION (log 7), and that a store without
a MOL image gives no bytes (log 152). -/
def Sys2Proof.Machine.ProgramLoad : Prop :=
  (∀ (h : HostHdr) (s : State) (exp : Word), HostReady h s → h.m = true → s.long = none → hasPerm s h.ctx 1 = true →
    s.mode = .dark ∨ s.mode = .service →
    let p : List Byte := [0, 0, 0, 0] ++ toLe 4 exp.toNat
    (¬ storeCool s → Ends (.progLoad h p) s (answer h 0x31 acceptedReply
      { raiseAll 60 (s.fld F.THRM_TEMP_DIE) (s.inc F.STOR_ERR_TEMP_BLK) with
          long := channel h 0x31 s.now (some (7, [0, 0, 0, 0, 0, 0, 0, 0])) }))
    ∧ (storeCool s → Ends (.progLoad h p) s (answer h 0x31 acceptedReply
      { noneDone s with
          long := working h 0x31 s.now { kind := .progLoad, src := none, len := 0, want := exp.toNat, env := h.env,
                                         data := molBytes s } })))
  ∧ (∀ (s : State) (l : LongCmd) (j : LongJob), Completes s l → l.final = none → l.job = some j → j.kind = .progLoad →
      j.src = none → j.checked = false → imageCheck s j.data = 0 →
      let word (o : Nat) : Nat := leAt j.data o 4
      (j.want = 0 ∨ j.want = word 0x28 → Gives .longCompletion s fun t =>
        (∀ e : Side, (t.eng e).role = .coldStarting ∧ (t.eng e).powered = true ∧ (t.eng e).imgValid = true
            ∧ (t.eng e).imgCrc = BitVec.ofNat 32 (word 0x28) ∧ (t.eng e).codeWords = word 0x18
            ∧ (t.eng e).frameEntry = word 0x10 ∧ (t.eng e).tileEntry = word 0x14
            ∧ ∀ c : Cluster, (t.cluster e c).run = .idle)
          ∧ t.dplx.progLoad = true ∧ Completed s t l 0 ([0, 0, 0, 0] ++ toLe 4 (word 0x28)))
      ∧ (j.want ≠ 0 → j.want ≠ word 0x28 → Gives .longCompletion s fun t =>
          (∀ e : Side, (t.eng e).role = .coldStarting ∧ (t.eng e).powered = true)
          ∧ t.dplx.progLoad = true ∧ Completed s t l 1 ([10, 0, 0, 0] ++ toLe 4 (word 0x28))))

/-- HOT_SWAP is accepted and its work starts with step 1 of R212; at LONG_COMPLETION of that work an image that passes
stands in the inactive MOL bank, the swap is in step 2, and the engine in force goes on (R211, R212). That the work is
whole at LONG_COMPLETION is log 7, the model's choice. -/
def Sys2Proof.Machine.HotSwapStarts : Prop :=
  (∀ (h : HostHdr) (s : State) (n : BerthNo) (warm : Byte) (tl : Half) (exp : Word) (e f : Side), HostReady h s →
    h.m = true → s.long = none → hasPerm s h.ctx 1 = true → s.mode = .beam → storeCool s →
    (s.eng e).role = .standby → (s.eng f).role = .active →
    (s.berth n).st = .ready → (s.berth n).owner = h.ctx → warm ≠ 0 →
    Ends (.hotSwap h ([BitVec.ofNat 8 n.val, warm] ++ toLe 2 tl.toNat ++ toLe 4 exp.toNat)) s (answer h 0x32 acceptedReply
      { noneDone s with
          long := working h 0x32 s.now { kind := .hotSwap, src := some ((s.berth n).base * 4096),
                                         len := (s.berth n).size * 4096, want := exp.toNat,
                                         bank := inactiveBank s 1, env := h.env }
          dplx := { s.dplx with hot := some ⟨.b, warm.toNat, tl.toNat, 0, 0, h.ctx, 1, 0, false⟩ } }))
  ∧ (∀ (s : State) (l : LongCmd) (hs : HotSwap) (from_ len want bank : Nat), Completes s l → l.final = none →
      l.job = some { kind := .hotSwap, src := some from_, len := len, want := want, bank := bank } →
      s.dplx.hot = some hs → s.active.isSome = true → storeCool s → s.br.poison = [] → len % 4 = 0 →
      let bs := (List.range len).map fun i => memByte s (from_ + i)
      let size := leAt bs 0x0C 4
      imageCheck s bs = 0 → want = 0 ∨ want = leAt bs 0x28 4 →
      Gives .longCompletion s fun t =>
        t.dplx.hot = some { hs with step := 2, crc := BitVec.ofNat 32 (leAt bs 0x28 4), len := size }
          ∧ t.long = some { l with job := none } ∧ t.mode = s.mode
          ∧ (∀ i < size, storeByte t (bankBase 1 bank + i) = bs.getD i 0)
          ∧ (∀ a, a < bankBase 1 bank ∨ bankBase 1 bank + (size + 4095) / 4096 * 4096 ≤ a → storeByte t a = storeByte s a)
          ∧ (∀ x, t.eng x = s.eng x) ∧ t.br = s.br)

/-- PROG_LOAD and HOT_SWAP. -/
def Obligations.ImageCommands : Prop := Sys2Proof.Machine.ProgramLoad ∧ Sys2Proof.Machine.HotSwapStarts

/-- STORE_WRITE of the HOST partition, accepted with BUSY shown, programs at LONG_COMPLETION the bytes of its berth at
their place in its bank and leaves the rest of the store alone but for their sectors; STORE_READ copies store bytes into
a berth and answers at LONG_COMPLETION with GEN and their CRC-32 (R268, R412 to R414, R417). That the berth has the
bytes at acceptance, and that the work is whole at LONG_COMPLETION, is the model's choice (log 7). -/
def Sys2Proof.Machine.StoreCommands : Prop :=
  (∀ (h : HostHdr) (s : State) (n : BerthNo) (off len : Nat), HostReady h s → h.m = true → s.long = none →
    s.mode = .dark → (s.berth n).owner = h.ctx → 0 < len → len % 4 = 0 →
    len ≤ (s.berth n).size * 4096 → len ≤ 2097152 → off + len ≤ 0x800000 →
    let at0 := (s.berth n).base * 4096
    let busy : State := noneDone ((s.setBit F.STOR_STAT_BUSY true).setFld F.STOR_STAT_PART 5)
    (storeCool s → hasPerm s h.ctx 2 = true → (s.berth n).st = .ready → off % 4096 = 0 →
      Ends (.storeWrite h ([5, BitVec.ofNat 8 n.val, 0, 0] ++ toLe 4 off ++ toLe 4 len ++ [0, 0, 0, 0])) s
        (answer h 0x33 acceptedReply
          { busy with
              long := working h 0x33 s.now { kind := .storeWrite, src := some at0, len := len, part := 5,
                                             bank := inactiveBank s 5, off := off, env := h.env } }))
    ∧ (∀ r, latestRec s 5 = some r → (s.berth n).st = .filling → (s.berth n).zfill = false → off % 4 = 0 →
      s.br.poison = [] →
      let from_ := bankBase 5 r.bank + off
      Gives (.storeRead h ([5, BitVec.ofNat 8 n.val, 0, 0] ++ toLe 4 off ++ toLe 4 len ++ [0, 0, 0, 0])) s fun t =>
        (∀ i < len, memByte t (at0 + i) = storeByte s (from_ + i))
          ∧ (∀ a, a < at0 ∨ at0 + len ≤ a → memByte t a = memByte s a)
          ∧ t.store = s.store ∧ t.bit F.STOR_STAT_BUSY = true
          ∧ t.long = working h 0x34 s.now
              { kind := .storeRead, src := none, len := len, part := 5, checked := true, env := {}
                data := toLe 4 r.gen ++ toLe 4 (crc32 (storeBytes s from_ len)).toNat }))
  ∧ (∀ (s : State) (l : LongCmd) (from_ len bank off : Nat), Completes s l → l.final = none → storeCool s →
      s.br.poison = [] → len % 4 = 0 →
      l.job = some { kind := .storeWrite, src := some from_, len := len, part := 5, bank := bank, off := off } →
      let base := bankBase 5 bank + off
      Gives .longCompletion s fun t =>
        (∀ i < len, storeByte t (base + i) = memByte s (from_ + i))
          ∧ (∀ a, a < base ∨ base + (len + 4095) / 4096 * 4096 ≤ a → storeByte t a = storeByte s a)
          ∧ t.br = s.br ∧ t.bit F.STOR_STAT_BUSY = false ∧ Completed s t l 0 [])
  ∧ (∀ (s : State) (l : LongCmd) (len part : Nat) (d : List Byte), Completes s l → l.final = none →
      l.job = some { kind := .storeRead, src := none, len := len, part := part, checked := true, data := d } →
      Gives .longCompletion s fun t =>
        t.store = s.store ∧ t.br = s.br ∧ t.bit F.STOR_STAT_BUSY = false ∧ Completed s t l 0 d)

/-- CAL_ZONE takes the channel and its zone for calibration; LONG_COMPLETION sends the final record and frees the
channel (R268, R380). -/
def Sys2Proof.Machine.CalZoneAndCompletion : Prop :=
  (∀ (h : HostHdr) (s : State) (z : Zone), HostReady h s → h.m = true → s.long = none → s.mode = .service →
    hasPerm s h.ctx 3 = true → isLocked s z = false → isStranded s z = false → zoneCut s z = false →
    tilesIn s z (· ≥ 2) ≠ 32 →
    Ends (.calZone h [BitVec.ofNat 8 z.val, 0, 0, 0]) s (answer h 0x35 acceptedReply
      { s.setBit F.CAL_STAT_RUNNING true with
          long := channel h 0x35 s.now none, cal := { prev := s.stk.trim, tCal := s.cal.tCal, zone := some z } }))
  ∧ (∀ (s : State) (l : LongCmd) (st : Nat) (d : List Byte), Completes s l → l.final = some (st, d) → st ≤ 8 →
      Ends .longCompletion s { queueResp l.ctx (finalMsg l st d) s with long := none })

/-- The store commands, CAL_ZONE and the end of a LONG command. -/
def Obligations.StoreAndChannel : Prop := Sys2Proof.Machine.StoreCommands ∧ Sys2Proof.Machine.CalZoneAndCompletion

/-! ### Packets, SPI, CAN FD (R247 to R252, R260 to R266, R275 to R282) -/

/-- A packet that passes every check of R249: framing, header CRC, header, payload CRC, SEQ, room, binding. -/
abbrev Sys2Proof.Machine.goodPacket (i : Iface) (bs : List Byte) (c : Ctx) (m : Bool) (s : State) : Prop :=
  bs.length = leAt bs 2 2 + 12 ∧ leAt bs 6 2 = (crc16 (bs.take 6)).toNat
    ∧ byteAt bs 0 = BitVec.ofNat 8 (16 + 4 * m.toNat + c.val) ∧ leAt bs 4 2 = 0 ∧ leAt bs 2 2 % 4 = 0
    ∧ 0 < leAt bs 2 2 ∧ leAt bs 2 2 ≤ (if i = .can then 2048 else 8192)
    ∧ leAt bs (8 + leAt bs 2 2) 4 = (crc32c ((bs.drop 8).take (leAt bs 2 2))).toNat
    ∧ (byteAt bs 1).toNat = rxSeq s i ∧ s.ifaceOf c = some i

/-- Room for the packet: credits of a port, free bytes of SPI, the window of CAN FD (R250, R276, R280). -/
abbrev Sys2Proof.Machine.room (i : Iface) (bs : List Byte) (m : Bool) (s : State) : Prop :=
  let len := leAt bs 2 2
  match i with
  | .portA => if m then ((s.port[(0 : Port)]).usedM + BitVec.ofNat 16 (credits len) - (s.port[(0 : Port)]).limM).toInt ≤ 0
      else ((s.port[(0 : Port)]).usedF + BitVec.ofNat 16 (credits len) - (s.port[(0 : Port)]).limF).toInt ≤ 0
  | .portB => if m then ((s.port[(1 : Port)]).usedM + BitVec.ofNat 16 (credits len) - (s.port[(1 : Port)]).limM).toInt ≤ 0
      else ((s.port[(1 : Port)]).usedF + BitVec.ofNat 16 (credits len) - (s.port[(1 : Port)]).limF).toInt ≤ 0
  | .spi => len ≤ spiFree s m
  | .can => (if m then s.can.outM else s.can.outF) ≤ bitsOf s.can.ctrl.toNat 5 4

/-- The packet waits in the queue of its class, and its interface expects the next SEQ. -/
def Sys2Proof.Machine.queued (i : Iface) (bs : List Byte) (c : Ctx) (m : Bool) (env : HostEnv) (s t : State) : Prop :=
  let p : RxPkt := ⟨c, m, (bs.drop 8).take (leAt bs 2 2), env⟩
  (t.rxM[ifaceIx i] = if m then s.rxM[ifaceIx i] ++ [p] else s.rxM[ifaceIx i])
    ∧ (t.rxF[ifaceIx i] = if m then s.rxF[ifaceIx i] else s.rxF[ifaceIx i] ++ [p])
    ∧ rxSeq t i = (rxSeq s i + 1) % 256 ∧ t.outq = s.outq ∧ t.br = s.br ∧ t.mode = s.mode

/-- The transmission errors among `errs` leave TEC at 255 or below, so that CAN FD does not enter bus-off (R277). -/
abbrev Sys2Proof.Machine.canStays (errs : List CanErr) (s : State) : Prop :=
  s.fld F.CANF_ERRC_TEC + 8 * (errs.filter (· == .tx)).length ≤ 255

/-- A good packet of any interface is queued while no manifest is dispatched: MANIFEST on an UP port, in the blocks
that carry a packet, SPI_WRITE after its function byte, CAN_FRAME with a packet of one segment (R236, R249, R276,
R278, R319). -/
def Sys2Proof.Machine.PacketsAreQueued : Prop :=
  (∀ bs : List Byte, 7 ≤ bs.length → unframe (frame bs) = (bs, true))
  ∧ ∀ (bs : List Byte) (c : Ctx) (m : Bool) (env : HostEnv) (s : State), dispatchOpen s = false → s.opens = [] → s.finals = [] →
    s.after = [] → OutputsFollow s →
    (∀ p : Port, s.mode.dieOn = true → s.fld (F.LINK_PSTAT_STATE p.val) = 2 → goodPacket (ifaceOfPort p) bs c m s →
      room (ifaceOfPort p) bs m s → Gives (.manifest p (frame bs) env) s (queued (ifaceOfPort p) bs c m env s))
    ∧ (busServed s = true → goodPacket .spi bs c m s → room .spi bs m s →
        Gives (.spiWrite (0x61 :: bs) env) s (queued .spi bs c m env s))
    ∧ (∀ errs : List CanErr, canOn s = true → canStays errs s → goodPacket .can bs c m s → room .can bs m s → s.can.asm = none →
        bs.length ≤ 63 →
        Gives (.canFrame ⟨s.fld F.CANF_IDRX_ID % (if s.can.ctrl.getLsbD 2 then 2 ^ 29 else 2 ^ 11), s.can.ctrl.getLsbD 2,
            true, true, false, 0xC0 :: bs, errs⟩ env) s (queued .can bs c m env s))

/-- A packet whose header CRC fails is discarded, counted in CRC_ERR and reported by event 12 to every context of its
port; one whose payload CRC fails, to its context alone. Nothing is queued (R249, R250). -/
def Sys2Proof.Machine.BadPacketsAreDiscarded : Prop :=
  ∀ (p : Port) (bs : List Byte) (env : HostEnv) (s : State), s.mode.dieOn = true →
    s.fld (F.LINK_PSTAT_STATE p.val) = 2 → bs.length = leAt bs 2 2 + 12 → OutputsFollow s →
    Gives (.manifest p (frame bs) env) s fun t =>
      (leAt bs 6 2 ≠ (crc16 (bs.take 6)).toNat →
        t.fld (F.LINK_ERR_CRC_ERR p.val) = min (s.fld (F.LINK_ERR_CRC_ERR p.val) + 1) (2 ^ (F.LINK_ERR_CRC_ERR p.val).width - 1)
          ∧ t.rxF = s.rxF ∧ t.rxM = s.rxM ∧ (t.port[p]).status = true
          ∧ (∀ d : Ctx, s.ifaceOf d = some (ifaceOfPort p) → (t.ctx[d]).pend.getLsbD 12 = true)
          ∧ t.reg (0x30100 + 4 * 12) = BitVec.ofNat 32 (p.val + 32))
      ∧ (∀ (c : Ctx) (m : Bool), leAt bs 6 2 = (crc16 (bs.take 6)).toNat → byteAt bs 0 = BitVec.ofNat 8 (16 + 4 * m.toNat + c.val) →
        leAt bs 4 2 = 0 → leAt bs 2 2 % 4 = 0 → 0 < leAt bs 2 2 → leAt bs 2 2 ≤ 8192 → s.bound c = true →
        leAt bs (8 + leAt bs 2 2) 4 ≠ (crc32c ((bs.drop 8).take (leAt bs 2 2))).toNat →
        t.fld (F.LINK_ERR_CRC_ERR p.val) = min (s.fld (F.LINK_ERR_CRC_ERR p.val) + 1) (2 ^ (F.LINK_ERR_CRC_ERR p.val).width - 1)
          ∧ t.rxF = s.rxF ∧ t.rxM = s.rxM ∧ t.reg (0x30100 + 4 * 12) = BitVec.ofNat 32 (p.val + 64)
          ∧ (∀ d : Ctx, (t.ctx[d]).pend.getLsbD 12 = ((s.ctx[d]).pend.getLsbD 12 || d == c)))

/-- Packets that pass R249 are queued, the others discarded. -/
def Obligations.Packets : Prop := Sys2Proof.Machine.PacketsAreQueued ∧ Sys2Proof.Machine.BadPacketsAreDiscarded

/-- A manifest of one PING in a dispatched packet: its response is queued, its MSEQ becomes the last accepted of its
queue, and a gap is flagged and counted in MSEQ_GAP; a manifest of bad form is answered BAD_ARG with MAN_ERR and
event 13 (R262, R264 to R266, R274). -/
def Obligations.ManifestOfOneCommand : Prop :=
  ∀ (p : Port) (c : Ctx) (m : Bool) (sq : Byte) (mseq : Word) (data : List Byte) (env : HostEnv) (s : State),
    let i := ifaceOfPort p
    let pl : List Byte := toLe 4 mseq.toNat ++ [1, 0, 0, 0] ++ ([0x60, 0] ++ toLe 2 data.length ++ data)
    let bad : List Byte := toLe 4 mseq.toNat ++ [0, 0, 0, 0]
    let ready (bs : List Byte) : Prop := dispatchOpen s = true ∧ s.fld (F.LINK_PSTAT_STATE p.val) = 2
      ∧ goodPacket i (packet 1 m c sq bs) c m s ∧ room i (packet 1 m c sq bs) m s
      ∧ s.rxF[ifaceIx i] = [] ∧ s.rxM[ifaceIx i] = [] ∧ unsent s c < 32 ∧ hasPerm s c 7 = false
      ∧ s.opens = [] ∧ s.finals = [] ∧ s.after = [] ∧ (∀ q : Port, (s.port[q]).reconfig = false) ∧ s.pwr.swReset = false
      ∧ s.pwr.req = none ∧ OutputsFollow s
    let gap : Bool := decide (mseq.toNat ≠ (s.fld (if m then F.HCTX_MSEQM_LAST c else F.HCTX_MSEQF_LAST c) + 1) % 2 ^ 32)
    (data.length ≤ 64 → data.length % 4 = 0 → ready pl → Gives (.manifest p (frame (packet 1 m c sq pl)) env) s fun t =>
      (t.outq[ifaceIx i]).resps = (s.outq[ifaceIx i]).resps ++
          [⟨c, respBytes mseq gap false m [⟨0x60, 0, 0, true, data⟩]⟩]
        ∧ t.fld (if m then F.HCTX_MSEQM_LAST c else F.HCTX_MSEQF_LAST c) = mseq.toNat
        ∧ t.fld (F.HCTX_ERR_MSEQ_GAP c) = min (s.fld (F.HCTX_ERR_MSEQ_GAP c) + gap.toNat) 255
        ∧ t.rxF[ifaceIx i] = [] ∧ t.rxM[ifaceIx i] = [])
    ∧ (ready bad → Gives (.manifest p (frame (packet 1 m c sq bad)) env) s fun t =>
      (t.outq[ifaceIx i]).resps = (s.outq[ifaceIx i]).resps ++ [⟨c, respBytes mseq false false m [⟨0, 0xFF, 1, true, []⟩]⟩]
        ∧ t.fld (F.HCTX_ERR_MAN_ERR c) = min (s.fld (F.HCTX_ERR_MAN_ERR c) + 1) 255
        ∧ (t.ctx[c]).pend.getLsbD 13 = true)

/-- SPI returns its status byte first: pending return packets, a discard, 0x25. SPI_STATUS gives the free bytes, the
count of return packets and the SEQ expected, and clears the discard flag; SPI_READ clocked out whole sends the oldest
return packet, an interrupted one first, and cut short leaves it pending; a whole transaction by its function byte is
READ, STATUS or, with an unlisted byte, ignored. The dummy byte's level is open (log 3) (R275, R276). -/
def Sys2Proof.Machine.SpiTransactions : Prop :=
  ∀ (s : State), busServed s = true →
    let n := (s.outq[(2 : Fin 4)]).events.length + (s.outq[(2 : Fin 4)]).resps.length
    let first : Byte := BitVec.ofNat 8 ((if n = 0 then 0 else 128) + (if s.spi.discarded then 64 else 0) + 0x25)
    let dummy : Byte := (Config.free s.free).setWidth 8
    Ends .spiStatus s { s with free := s.free + 1, spi := { s.spi with discarded := false, sent :=
        first :: dummy :: (toLe 2 (spiFree s false) ++ toLe 2 (spiFree s true) ++ [BitVec.ofNat 8 (min 255 n), s.spi.rxSeq, 0, 0]) } }
    ∧ (∀ f bs env, f ≠ 0x61 → f ≠ 0x62 → f ≠ 0x63 →
        Ends (.spiWrite (f :: bs) env) s { s with spi := { s.spi with sent := [first] } })
    ∧ (∀ bs env, exec (.spiWrite (0x62 :: bs) env) s = exec (.spiRead bs.length) s
        ∧ (bs.length = 9 → exec (.spiWrite (0x63 :: bs) env) s = exec .spiStatus s))
    ∧ (∀ clocked, s.outq[(2 : Fin 4)] = ⟨[], []⟩ → Ends (.spiRead clocked) s { s with
        free := s.free + 1, spi := { s.spi with sent := first :: (dummy :: List.replicate 8 0).take clocked } })
    ∧ (∀ es r rs clocked, s.outq[(2 : Fin 4)] = ⟨es, r :: rs⟩ → es = [] ∨ s.spi.cutResp = true →
        let p := packet 2 false r.ctx s.spi.txSeq r.bytes
        (p.length + 1 ≤ clocked → s.rxF[(2 : Fin 4)] = [] → s.rxM[(2 : Fin 4)] = [] → s.opens = [] →
          s.finals = [] → s.after = [] → (∀ q : Port, (s.port[q]).retrainAfter = none) → Ends (.spiRead clocked) s { s with
            free := s.free + 1, outq := s.outq.set 2 ⟨es, rs⟩
            spi := { s.spi with txSeq := s.spi.txSeq + 1, cutResp := false, sent := first :: dummy :: p } })
        ∧ (clocked ≤ p.length → Ends (.spiRead clocked) s { s with
            free := s.free + 1, spi := { s.spi with cutResp := true, sent := first :: (dummy :: p).take clocked } }))

/-- The counters of errors and of refused frames of CAN FD (R277, R278, R279). -/
abbrev Sys2Proof.Machine.canCounts (a : Nat) : Prop := a = 0x60018 ∨ a = 0x6001C

/-- A segment with control byte `ctl` on the receive identifier of the CAN FD controller, without errors (R277, R278). -/
def Sys2Proof.Machine.segment (s : State) (ctl : Byte) (bs : List Byte) : CanFrame :=
  ⟨s.fld F.CANF_IDRX_ID % (if s.can.ctrl.getLsbD 2 then 2 ^ 29 else 2 ^ 11), s.can.ctrl.getLsbD 2, true, true, false,
    ctl :: bs, []⟩

/-- Segments of CAN FD: the one with the counter expected is added to the packet under assembly; a wrong counter or a
LAST without a FIRST discards it, counts in SEG_ERR and raises event 12; a FIRST during assembly does so too and starts
a new packet (R278, R279). -/
def Sys2Proof.Machine.CanSegments : Prop :=
  ∀ (ctl : Byte) (bs : List Byte) (env : HostEnv) (s : State), canOn s = true →
    let first : Prop := ctl.getLsbD 7 = true
    let last : Prop := ctl.getLsbD 6 = true
    let n := ctl.toNat % 64
    let row : Instr := .canFrame (segment s ctl bs) env
    let discards (asm : Option (List Byte)) (seg : Nat) (t : State) : Prop :=
      t.can = { s.can with asm := asm, seg := seg }
        ∧ t.fld F.CANF_FERR_SEG_ERR = min (s.fld F.CANF_FERR_SEG_ERR + 1) (2 ^ F.CANF_FERR_SEG_ERR.width - 1)
        ∧ ∀ c : Ctx, s.ifaceOf c = some .can → (t.ctx[c]).pend.getLsbD 12 = true
    let keeps (asm : Option (List Byte)) (seg : Nat) (t : State) : Prop :=
      t.can = { s.can with asm := asm, seg := seg } ∧ t.reg 0x6001C = s.reg 0x6001C
    (∀ x, s.can.asm = some x → ¬ first →
      (n ≠ s.can.seg % 64 → Gives row s (discards none 0))
      ∧ (n = s.can.seg % 64 → ¬ last → Gives row s (keeps (some (x ++ bs)) (s.can.seg + 1))))
    ∧ (∀ x, s.can.asm = some x → first → n = 0 → ¬ last → Gives row s (discards (some bs) 1))
    ∧ (s.can.asm = none →
      (first → n = 0 → ¬ last → Gives row s (keeps (some bs) 1)) ∧ (first → n ≠ 0 → Gives row s (discards none 0))
      ∧ (¬ first → last → Gives row s (discards none 0))
      ∧ (¬ first → ¬ last → Gives row s fun t => t.can = s.can ∧ t.reg 0x6001C = s.reg 0x6001C))

/-- CAN FD: segments that lie 10 ms apart discard the packet under assembly; a frame of the wrong format is counted; a
transmitted event carries its payload alone under IDEVT, a response its packet in segments under IDRSP; bus-off, also
that of a transmission error which takes TEC past 255, reports event 15, and the controller returns with its counters at
0; written timing takes effect when the bus is idle (R277 to R282). That a good frame lowers its error counter and an
error adds to it is taken from the standard (log 156); that TEC reads 0 in bus-off is log 52 (DEDUCED). -/
def Sys2Proof.Machine.CanController : Prop :=
  (∀ (s : State) (x : List Byte), s.can.asm = some x → OutputsFollow s → Gives .segmentGap s fun t =>
      t.can = { s.can with asm := none, seg := 0 }
        ∧ t.fld F.CANF_FERR_SEG_ERR = min (s.fld F.CANF_FERR_SEG_ERR + 1) (2 ^ F.CANF_FERR_SEG_ERR.width - 1))
  ∧ (∀ s : State, s.can.asm = none → Ends .segmentGap s s)
  ∧ (∀ (f : CanFrame) (env : HostEnv) (s : State), canOn s = true → f.remote = false →
      f.ext = s.can.ctrl.getLsbD 2 → f.id = s.fld F.CANF_IDRX_ID % (if f.ext then 2 ^ 29 else 2 ^ 11) →
      f.fd = false ∨ f.brs = false → canStays f.errs s → Gives (.canFrame f env) s fun t =>
        t.fld F.CANF_FERR_FMT_ERR = min (s.fld F.CANF_FERR_FMT_ERR + 1) (2 ^ F.CANF_FERR_FMT_ERR.width - 1)
          ∧ (f.errs = [] → t.fld F.CANF_ERRC_REC
              = (if s.fld F.CANF_ERRC_REC > 127 then 127 else s.fld F.CANF_ERRC_REC - 1))
          ∧ Only canCounts s t)
  ∧ (∀ (s : State) (errs : List CanErr), canOn s = true → OutputsFollow s → 247 < s.fld F.CANF_ERRC_TEC →
      Gives (.canTransmit (.tx :: errs)) s fun t => t.fld F.CANF_ERRC_STATE = 2 ∧ t.fld F.CANF_ERRC_TEC = 0 ∧ t.can = s.can
        ∧ ∀ c : Ctx, s.ifaceOf c = some .can → (t.ctx[c]).pend.getLsbD 15 = true)
  ∧ (∀ (s : State) (errs : List CanErr) (es : List EvtPkt) (rs : List RespPkt), canOn s = true → canStays errs s →
      s.rxF[(3 : Fin 4)] = [] → s.rxM[(3 : Fin 4)] = [] → s.opens = [] → s.finals = [] → s.after = [] →
      let id (f : Fld) : Nat := s.fld f % (if s.can.ctrl.getLsbD 2 then 2 ^ 29 else 2 ^ 11)
      (∀ e : EvtPkt, s.outq[(3 : Fin 4)] = ⟨e :: es, rs⟩ → Gives (.canTransmit errs) s fun t =>
        (errs = [] → t.fld F.CANF_ERRC_TEC = s.fld F.CANF_ERRC_TEC - 1)
          ∧ Only canCounts { s with outq := s.outq.set 3 ⟨es, rs⟩
                                    can := { s.can with sent := eventPayload e, sentId := id F.CANF_IDEVT_ID } } t)
      ∧ (∀ r : RespPkt, s.outq[(3 : Fin 4)] = ⟨[], r :: rs⟩ → (∀ q : Port, (s.port[q]).retrainAfter = none) →
          Gives (.canTransmit errs) s fun t =>
            let p := packet 2 false r.ctx s.can.txSeq r.bytes
            t.can.sent = canSegments (p.length + 1) 0 p ∧ t.can.sentId = id F.CANF_IDRSP_ID
              ∧ t.can.txSeq = s.can.txSeq + 1 ∧ t.outq = s.outq.set 3 ⟨[], rs⟩))
  ∧ (∀ s : State, canOn s = true → OutputsFollow s → Gives .busOff s fun t =>
      t.fld F.CANF_ERRC_STATE = 2 ∧ t.fld F.CANF_ERRC_TEC = 0
        ∧ (∀ c : Ctx, s.ifaceOf c = some .can → (t.ctx[c]).pend.getLsbD 15 = true)
        ∧ t.fld F.CANF_ERRC_BUSOFF_CNT = min (s.fld F.CANF_ERRC_BUSOFF_CNT + 1) (2 ^ F.CANF_ERRC_BUSOFF_CNT.width - 1))
  ∧ (∀ s : State, busServed s = true → s.can.ctrl.getLsbD 0 = true → s.can.ctrl.getLsbD 3 = true →
      s.fld F.CANF_ERRC_STATE = 2 →
      Ends .busOffRecovery s (((s.setFld F.CANF_ERRC_STATE 0).setFld F.CANF_ERRC_TEC 0).setFld F.CANF_ERRC_REC 0))
  ∧ (∀ s : State, s.mode.dieOn = true → s.fld F.CANF_ERRC_STATE ≠ 2 → Ends .canTimingApply s
      { s with can := { s.can with ctrl := s.reg 0x60000, nbt := s.reg 0x60004, dbt := s.reg 0x60008 } })

/-- SPI transactions and the CAN FD controller. -/
def Obligations.SpiAndCan : Prop :=
  Sys2Proof.Machine.SpiTransactions ∧ Sys2Proof.Machine.CanSegments ∧ Sys2Proof.Machine.CanController

/-! ### Ranfer ports (R236 to R257) -/

/-- Training: locked lanes bring the port UP with SEQ and used credits restarted, an ADAPT and then a STATUS sent; a
lane without lock sends it to WAIT with event 8 or 9, or lets lane 0 go on alone under LANE_FB; WAIT ends in a new
training (R239, R240). Without LANEPLL no lane locks (R427). That the last SEQ of the first STATUS is 0 is log 163, the
model's choice. -/
def Sys2Proof.Machine.PortTraining : Prop :=
  ∀ (p : Port) (s : State), s.mode.dieOn = true →
    let q := s.rxF[ifaceIx (ifaceOfPort p)] = [] ∧ s.rxM[ifaceIx (ifaceOfPort p)] = [] ∧ s.after = []
    let up (two : Bool) (t : State) : Prop :=
      t.fld (F.LINK_PSTAT_STATE p.val) = 2 ∧ t.bit (F.LINK_PSTAT_LANE1_USED p.val) = two
        ∧ t.fld (F.LINK_PSTAT_RX_SEQ p.val) = 0 ∧ t.fld (F.LINK_PSTAT_TX_SEQ p.val) = 0
        ∧ (t.port[p]).usedF = 0 ∧ (t.port[p]).usedM = 0 ∧ (t.port[p]).limF = 256 ∧ (t.port[p]).limM = 64
        ∧ (t.port[p]).adapt = false ∧ (t.port[p]).status = false
        ∧ ∃ before, (t.port[p]).sent = before ++
            [⟨true, [0x66, BitVec.ofNat 8 (1 + 2 * two.toNat), BitVec.ofNat 8 (t.fld (F.LINK_LANE_FOM p.val 0))
              , BitVec.ofNat 8 (t.fld (F.LINK_LANE_FOM p.val 1)), 0, 0, 0, 0]⟩
            , ⟨true, [0x4B, 0, 0, 1, 64, 0, 0, 0]⟩]
    let asks : Prop := (s.port[p]).retrainReq = true → (s.port[p]).adapt = true
    (∀ q0 q1 : LaneQuality, pllLocked s 2 = false → Ends (.portTraining p q0 q1) s s ∧ ∀ l, Ends (.blockLock p l) s s)
    ∧ (∀ q0 q1 : LaneQuality, pllLocked s 2 = true → s.fld (F.LINK_PSTAT_STATE p.val) = 1 → q → asks → q0.lock = true →
      OutputsFollow s →
      (s.bit (F.LINK_PCFG_LANES p.val) = true → q1.lock = true) →
      Gives (.portTraining p q0 q1) s fun t => up (s.bit (F.LINK_PCFG_LANES p.val)) t
        ∧ t.fld (F.LINK_LANE_LOCK p.val 0) = 1 ∧ t.fld (F.LINK_LANE_USED p.val 0) = 1
        ∧ t.fld (F.LINK_LANE_FOM p.val 0) = q0.fom.toNat)
    ∧ (∀ q0, s.fld (F.LINK_PSTAT_STATE p.val) = 1 → s.bit (F.LINK_LANE_LOCK p.val 0) = false →
        Ends (.trainingFailure p 0 q0) s ((raiseTo (8 + p.val) 1 (s.ctxsOn (ifaceOfPort p)) s).setFld (F.LINK_PSTAT_STATE p.val) 4))
    ∧ (∀ q0, s.fld (F.LINK_PSTAT_STATE p.val) = 1 → q → asks → s.bit (F.LINK_PCFG_LANES p.val) = true → OutputsFollow s →
        s.bit (F.LINK_LANE_LOCK p.val 1) = false → s.bit (F.LINK_LANE_LOCK p.val 0) = true →
        s.bit (F.LINK_PCFG_LANE_FB p.val) = true → Gives (.trainingFailure p 1 q0) s fun t =>
          up false t ∧ t.fld (F.LINK_LANE_USED p.val 0) = 1 ∧ t.fld (F.LINK_LANE_FOM p.val 0) = q0.fom.toNat)
    ∧ (s.fld (F.LINK_PSTAT_STATE p.val) = 4 → OutputsFollow s → Gives (.trainingWaitExpiry p) s fun t =>
        t.fld (F.LINK_PSTAT_STATE p.val) = 1 ∧ t.fld (F.LINK_LANE_LOCK p.val 0) = 0 ∧ (t.port[p]).trained = true
          ∧ (t.port[p]).sent = [⟨true, 0x2D :: List.replicate 6 0x5A ++ [0]⟩])
    ∧ (∀ l : Fin 2, pllLocked s 2 = true → s.bit (F.LINK_PCFG_EN p.val) = true → (l = 0 ∨ s.bit (F.LINK_PCFG_LANES p.val) = true) →
        s.fld (F.LINK_PSTAT_STATE p.val) ≠ 3 →
        Ends (.blockLock p l) s ((s.setFld (F.LINK_LANE_LOCK p.val l.val) 1).setFld (F.LINK_LANE_SQUELCH p.val l.val) 0))

/-- Loss of lock of a used lane, EI without FIDLE_EN and a host's request send an ADAPT with RETRAIN_REQ and start a
training behind it; forward idle, its end by a burst and its failed end (R238, R243 to R246, R255, R256). That this ADAPT
shows READY = 0, and that EI clears LOCK and sets SQUELCH, is log 53 (DEDUCED); a burst of 23 blocks is log 154. -/
def Sys2Proof.Machine.PortLockAndIdle : Prop :=
  ∀ (p : Port) (s : State), s.mode.dieOn = true → OutputsFollow s →
    let st := s.fld (F.LINK_PSTAT_STATE p.val)
    let tb : Block := ⟨true, 0x2D :: List.replicate 6 0x5A ++ [0]⟩
    let adapt : Block := ⟨true, [0x66, BitVec.ofNat 8 (2 * s.fld (F.LINK_PSTAT_LANE1_USED p.val) + 4)
      , BitVec.ofNat 8 (s.fld (F.LINK_LANE_FOM p.val 0)), BitVec.ofNat 8 (s.fld (F.LINK_LANE_FOM p.val 1)), 0, 0, 0, 0]⟩
    let retrains (t : State) : Prop := t.fld (F.LINK_PSTAT_STATE p.val) = 1 ∧ (t.port[p]).adapt = false
      ∧ (t.port[p]).retrainReq = false
      ∧ (t.port[p]).sent = (if s.bit (F.LINK_PSTAT_RET_IDLE p.val) then List.replicate 23 tb else []) ++ [adapt, tb]
      ∧ t.fld (F.LINK_LANE_LOCK p.val 0) = 0 ∧ t.fld (F.LINK_LANE_LOCK p.val 1) = 0
      ∧ t.fld (F.LINK_LOCK_LOCK_LOSS p.val)
          = min (s.fld (F.LINK_LOCK_LOCK_LOSS p.val) + 1) (2 ^ (F.LINK_LOCK_LOCK_LOSS p.val).width - 1)
    let told (t : State) : Prop := ∀ c : Ctx, s.ifaceOf c = some (ifaceOfPort p) → (t.ctx[c]).pend.getLsbD (8 + p.val) = true
    (∀ l : Fin 2, st = 2 → s.bit (F.LINK_LANE_USED p.val l.val) = true →
      Gives (.lockLoss p l) s fun t => retrains t ∧ told t)
    ∧ (∀ l : Fin 2, st = 1 ∨ st = 4 → Ends (.lockLoss p l) s (s.setFld (F.LINK_LANE_LOCK p.val l.val) 0))
    ∧ (st = 2 → s.bit (F.LINK_PCFG_FIDLE_EN p.val) = false → Gives (.ei p) s fun t => retrains t ∧ told t)
    ∧ (st = 2 → Gives (.hostRetrainRequest p) s retrains)
    ∧ (st = 2 → s.bit (F.LINK_PCFG_FIDLE_EN p.val) = true → s.bit (F.LINK_LANE_USED p.val 0) = true →
        Gives (.ei p) s fun t => t.fld (F.LINK_PSTAT_STATE p.val) = 3 ∧ t.bit (F.LINK_LANE_LOCK p.val 0) = false
          ∧ t.bit (F.LINK_LANE_SQUELCH p.val 0) = true)
    ∧ (st = 3 → s.bit (F.LINK_LANE_USED p.val 0) = true →
        Gives (.trainingBurst p) s (fun t => t.fld (F.LINK_PSTAT_STATE p.val) = 2
          ∧ t.bit (F.LINK_LANE_LOCK p.val 0) = true ∧ t.bit (F.LINK_LANE_SQUELCH p.val 0) = false)
        ∧ Gives (.idleExitFailure p 0) s fun t => t.fld (F.LINK_PSTAT_STATE p.val) = 1
          ∧ t.fld (F.LINK_LOCK_IDLE_FAIL p.val)
              = min (s.fld (F.LINK_LOCK_IDLE_FAIL p.val) + 1) (2 ^ (F.LINK_LOCK_IDLE_FAIL p.val).width - 1)
          ∧ ∀ c : Ctx, s.ifaceOf c = some (ifaceOfPort p) → (t.ctx[c]).pend.getLsbD 11 = true)
    ∧ (st = 2 ∨ st = 3 → s.fld (F.LINK_PCFG_RIDLE p.val) ≠ 0 → (s.port[p]).adapt = false → (s.port[p]).status = false →
        s.outq[ifaceIx (ifaceOfPort p)] = ⟨[], []⟩ → s.bit (F.LINK_PSTAT_RET_IDLE p.val) = false →
        Gives (.returnIdle p) s fun t => t.bit (F.LINK_PSTAT_RET_IDLE p.val) = true
          ∧ Only (fun a => a = (F.LINK_PSTAT_RET_IDLE p.val).addr)
              (s.updPort p fun q => { q with sent := [⟨true, 0x55 :: List.replicate 7 0⟩] }) t)

/-- The states of a Ranfer port: training, loss of lock, idle. -/
def Obligations.PortStates : Prop := Sys2Proof.Machine.PortTraining ∧ Sys2Proof.Machine.PortLockAndIdle

/-- FOM takes the lower of 512 × eye width and eye height / 2 mV, at most 255, and the minimum follows; the second low
reading in a row of a used, armed lane raises event 10; CTLE and the taps show what the lane has adapted to (R241,
R242). -/
def Sys2Proof.Machine.FigureOfMerit : Prop :=
  ∀ (p : Port) (l : Fin 2) (ew eh : Nat) (ctle : BitVec 4) (taps : BitVec 30) (s : State), s.mode.dieOn = true → s.fld (F.LINK_PSTAT_STATE p.val) = 2 →
    s.bit (F.LINK_LANE_LOCK p.val l.val) = true → OutputsFollow s →
    let f := min 255 (min (512 * ew / 1000000) (eh / 2000))
    Gives (.fom p l ew eh ctle taps) s fun t =>
      t.fld (F.LINK_LANE_FOM p.val l.val) = f
        ∧ t.fld (F.LINK_LANE_CTLE p.val l.val) = ctle.toNat ∧ t.fld (F.LINK_DFE_TAPS p.val l.val) = taps.toNat
        ∧ t.fld (F.LINK_LANE_FOM_MIN p.val l.val) = min (s.fld (F.LINK_LANE_FOM_MIN p.val l.val)) f
        ∧ (t.port[p]).lowCnt[l] = (if f < s.fld (F.LINK_PCFG_FOMTHR p.val) then (s.port[p]).lowCnt[l] + 1 else 0)
        ∧ (f < s.fld (F.LINK_PCFG_FOMTHR p.val) → 1 ≤ (s.port[p]).lowCnt[l] → (s.port[p]).fomArmed[l] = true →
            s.bit (F.LINK_LANE_USED p.val l.val) = true →
            (t.port[p]).fomArmed[l] = false
              ∧ (∀ c : Ctx, s.ifaceOf c = some (ifaceOfPort p) → (t.ctx[c]).pend.getLsbD 10 = true)
              ∧ t.reg (0x30100 + 4 * 10) = BitVec.ofNat 32 (f + p.val * 256 + l.val * 512))

/-- The blocks of R236: STATUS carries the cumulative limits and the last SEQ, ADAPT the state of the lanes, a packet
its SOP, data and terminate blocks; RETURN_PACKET sends ADAPT, then STATUS, then the oldest event, then the oldest
response, and STATUS goes behind a pending ADAPT; a lane that was idle sends a training burst first, of 23 blocks in
the model (log 154) (R236, R246, R250 to R252). -/
def Sys2Proof.Machine.ReturnTraffic : Prop :=
  ∀ (p : Port) (s : State), s.mode.dieOn = true → s.fld (F.LINK_PSTAT_STATE p.val) = 2 →
    let x := s.port[p]
    let i := ifaceOfPort p
    let limF := x.usedF + BitVec.ofNat 16 (credFree s p false)
    let limM := x.usedM + BitVec.ofNat 16 (credFree s p true)
    let stat : Block := ⟨true, [0x4B, 0] ++ toLe 2 limF.toNat ++ toLe 2 limM.toNat ++ [x.lastSeq, 0]⟩
    let adpt : Block := ⟨true, [0x66, BitVec.ofNat 8 (1 + 2 * s.fld (F.LINK_PSTAT_LANE1_USED p.val) + 4 * x.retrainReq.toNat)
      , BitVec.ofNat 8 (s.fld (F.LINK_LANE_FOM p.val 0)), BitVec.ofNat 8 (s.fld (F.LINK_LANE_FOM p.val 1)), 0, 0, 0, 0]⟩
    let tb : Block := ⟨true, 0x2D :: List.replicate 6 0x5A ++ [0]⟩
    let behind (bs : List Block) : List Block := (if s.bit (F.LINK_PSTAT_RET_IDLE p.val) then List.replicate 23 tb else []) ++ bs
    let status : State := (s.updPort p fun q =>
      { q with limF := limF, limM := limM, status := false, sent := behind [stat] }).setBit (F.LINK_PSTAT_RET_IDLE p.val) false
    let adapt : State := (s.updPort p fun q =>
      { q with adapt := false, retrainReq := false, sent := behind [adpt] }).setBit (F.LINK_PSTAT_RET_IDLE p.val) false
    let seq : Byte := BitVec.ofNat 8 (s.fld (F.LINK_PSTAT_TX_SEQ p.val))
    let leaves (pk : List Byte) (t : State) : Prop := (t.port[p]).sent = behind (frame pk)
      ∧ t.bit (F.LINK_PSTAT_RET_IDLE p.val) = false
      ∧ t.fld (F.LINK_PSTAT_TX_SEQ p.val) = (s.fld (F.LINK_PSTAT_TX_SEQ p.val) + 1) % 256
    (x.adapt = false → Ends (.statusBlk p) s status)
    ∧ (x.adapt = true → Gives (.statusBlk p) s fun t => (t.port[p]).sent = behind [adpt, stat]
        ∧ (t.port[p]).adapt = false ∧ (t.port[p]).status = false ∧ (t.port[p]).limF = limF ∧ (t.port[p]).limM = limM)
    ∧ (x.adapt = true → Ends (.returnPacket p) s adapt)
    ∧ (x.adapt = false → x.status = true → Ends (.returnPacket p) s status)
    ∧ (x.adapt = false → x.status = false → s.rxF[ifaceIx i] = [] → s.rxM[ifaceIx i] = [] → s.opens = [] →
        s.finals = [] → s.after = [] → OutputsFollow s →
        (∀ e es rs, s.outq[ifaceIx i] = ⟨e :: es, rs⟩ → Gives (.returnPacket p) s fun t =>
          (t.outq[ifaceIx i]).resps = rs ∧ leaves (packet 3 false e.ctx seq (eventPayload e)) t)
        ∧ (∀ r rs, s.outq[ifaceIx i] = ⟨[], r :: rs⟩ → (∀ q : Port, (s.port[q]).retrainAfter = none) →
            Gives (.returnPacket p) s fun t =>
              (t.outq[ifaceIx i]).resps = rs ∧ leaves (packet 2 false r.ctx seq r.bytes) t))

/-- What a Ranfer port measures and sends. -/
def Obligations.PortTraffic : Prop := Sys2Proof.Machine.FigureOfMerit ∧ Sys2Proof.Machine.ReturnTraffic

/-! ### Register rows with an effect of their own (R95, R241, R257, R306, R312, R405, R434, R443) -/

/-- A write by context `c` that passes R444's checks. -/
abbrev Sys2Proof.Machine.writeReady (c : Ctx) (a : Nat) (v : Word) (s : State) : Prop :=
  dispatchOpen s = true ∧ s.bound c = true ∧ maskOk s c a = true ∧ accessOff s a = false ∧ modeRefuses s c a v = false
    ∧ valueOk s a v = true ∧ s.after = [] ∧ (∀ o ∈ s.opens, o.id < s.nextId)
    ∧ (∀ p : Port, (s.port[p]).reconfig = false) ∧ s.pwr.swReset = false
    ∧ (∀ r ∈ s.pwr.req, r.target ≠ .sleep) ∧ OutputsFollow s

/-- DO resets the die with cause 3, but not while VDD_AON is below its limit (R403); SWAP_REQ asks for a swap at the next
tick; REL releases the pads it names; FOM_CLR restarts the minimum; LINK_PCFG restarts training when the responses now
waiting on the writer's interface have left; RECOV starts a self-test, on a gated side once its clocks run (R427); OPEN
starts the release of a crossed pair (R434, R306, R405, R241, R257, R312, R95). That each row is one accepted write is
log 39, and that LINK_PCFG waits for those responses log 55, the model's choices. -/
def Sys2Proof.Machine.RegisterCommands : Prop :=
  ∀ (c : Ctx) (v : Word) (s : State),
    (writeReady c 8 v s → v.getLsbD 0 = true → s.pwr.brownOut = true → Gives (.swReset c v) s fun t => t.mode = s.mode)
    ∧ (writeReady c 8 v s → v.getLsbD 0 = true → s.pwr.brownOut = false → s.job = none → s.bit F.CAL_STAT_RUNNING = false →
      Gives (.swReset c v) s fun t =>
      t.mode = .wake ∧ t.pwr.inReset = true ∧ t.fld F.SYS_RSTCAUSE_LAST = 3 ∧ t.pwr.wakeAt = s.now
        ∧ t.stk.trim = s.stk.trim ∧ t.stk.bypass = s.stk.bypass ∧ t.store.mem = s.store.mem
        ∧ t.reg 0x20108 = s.reg 0x20108)
    ∧ (writeReady c 0x120000 v s → v.getLsbD 31 = true → v.getLsbD 30 = false → v.getLsbD 29 = false →
        Gives (.swapReq c v) s fun t => t.dplx.swap = true ∧ t.mode = s.mode)
    ∧ (writeReady c 0x120000 v s → v.getLsbD 31 = false → v.getLsbD 30 = false → v.getLsbD 29 = true →
        (s.engA.gated = false → Gives (.recov c v) s fun t => t.engA.role = .offline ∧ t.dplx.testing.getLsbD 0 = true
          ∧ t.dplx.plan[(0 : Fin 4)] = .recover)
        ∧ (s.engA.gated = true → Gives (.recov c v) s fun t => t.engA.role = s.engA.role ∧ (.beA, false) ∈ t.dplx.relockWait))
    ∧ (writeReady c 0x2010C v s → Gives (.rel c v) s fun t =>
        ∀ g < 5, (t.fld F.AON_PADCFG_HELD).testBit g = ((s.fld F.AON_PADCFG_HELD).testBit g && !v.getLsbD (8 + g))
          ∧ t.pwr.padCap.getLsbD g = (s.pwr.padCap.getLsbD g && !v.getLsbD (8 + g)))
    ∧ (∀ (p : Port) (l : Fin 2), writeReady c (0x50020 + 0x100 * p.val + 4 * l.val) v s → v.getLsbD 8 = true →
        Gives (.fomClr c p l v) s fun t =>
          t.fld (F.LINK_LANE_FOM_MIN p.val l.val) = s.fld (F.LINK_LANE_FOM p.val l.val))
    ∧ (∀ p : Port, writeReady c (0x50000 + 0x100 * p.val) v s → v.getLsbD 0 = true →
        (v ^^^ s.reg (0x50000 + 0x100 * p.val)) &&& 0x00FF00FF ≠ 0 →
        Gives (.linkPcfg c p v) s fun t => t.bit (F.LINK_PCFG_EN p.val) = true ∧ (t.port[p]).reconfig = false
          ∧ ∀ i, s.ifaceOf c = some i →
            let n := (s.outq[ifaceIx i]).resps.length
            (n = 0 → t.fld (F.LINK_PSTAT_STATE p.val) = 1)
            ∧ (n ≠ 0 → t.fld (F.LINK_PSTAT_STATE p.val) = s.fld (F.LINK_PSTAT_STATE p.val)
                ∧ (t.port[p]).retrainAfter = some (i, n)))
    ∧ (∀ z : Zone, writeReady c 0xD0010 v s → isCrossed s z = true → v.getLsbD (8 + z.val / 2) = true →
        isCrossed s (partner z) = false → (s.rail.z[z]).seq = .none →
        Gives (.xoverOpen c v) s fun t => (t.rail.z[z]).seq = .release ∧ (t.rail.z[z]).stage = .clear)

/-- CNT_CLR puts the counts of its register to 0: NAK counts of the rails, corrected and uncorrected errors of berth
memory, and every event count (R443, R435). -/
def Sys2Proof.Machine.CountersClear : Prop :=
  ∀ (c : Ctx) (v : Word) (s : State), v.getLsbD 31 = true →
    (writeReady c 0x140008 v s → Gives (.cntClr c 0x140008 v) s fun t =>
      t.fld F.RAIL_NAKCNT_FAIL0 = 0 ∧ t.fld F.RAIL_NAKCNT_FAIL1 = 0 ∧ t.fld F.RAIL_NAKCNT_FAIL2 = 0)
    ∧ (writeReady c 0x70000 v s → Gives (.cntClr c 0x70000 v) s fun t =>
      t.fld F.BRTH_ECC_CORR = 0 ∧ t.fld F.BRTH_ECC_UNCORR = 0 ∧ t.bit F.BRTH_ECCADDR_VALID = false)
    ∧ (writeReady c 0x30004 v s → Gives (.cntClr c 0x30004 v) s fun t => ∀ e < 64, t.fld (F.EVT_CNT_COUNT e) = 0)
    ∧ (writeReady c 0xC0000 v s → Gives (.cntClr c 0xC0000 v) s fun t =>
      t.fld F.TLNK_STAT_NAK_CNT = 0 ∧ t.fld F.TLNK_RTN_RTN0_CRCERR = 0
        ∧ ∀ (e : Side) (z : Zone), ((t.eng e).tx[z]).window = [])

/-- Register writes with an effect of their own, and the cleared counters. -/
def Obligations.RegisterEffects : Prop := Sys2Proof.Machine.RegisterCommands ∧ Sys2Proof.Machine.CountersClear

/-! ### Supplies, resets, WAKE and BOOT (R395, R400 to R408, R415, R430, R431) -/

/-- The mooring port answers at 0x38 + MP_ADDR: a read sends the register and the CRC-8 over address, offset and data, a
write with the right CRC-8 stores it; another offset or CRC is not acknowledged, nor is another address. In SLEEP an
address match wakes where MP_WAKE is set, with event 14 recorded (R401, R404). -/
def Sys2Proof.Machine.MooringPort : Prop :=
  ∀ (addr off : Byte) (v : Word) (crc : Byte) (s : State),
    let here : Prop := s.mode ≠ .off ∧ s.pwr.brownOut = false ∧ addr.toNat = 0x38 + s.pwr.mpAddr.toNat
    let reg : Prop := off.toNat % 4 = 0 ∧ off.toNat < 24
    let wakes : Prop := s.mode = .sleep ∧ s.bit F.AON_WAKECFG_MP_WAKE = true
    let sent (ack : Bool) (bs : List Byte) (u : State) : State := { u with pwr := { u.pwr with mpAck := ack, mpSent := bs } }
    let d := toLe 4 (viewReg 0 s (0x20100 + off.toNat)).toNat
    let right : Prop := reg ∧ crc = crc8 ([2 * addr, off] ++ toLe 4 v.toNat)
    (here → ¬ wakes →
      (reg → Ends (.mooringRead addr off) s (sent true (d ++ [crc8 ([2 * addr + 1, off] ++ d)]) s))
        ∧ (¬ reg → Ends (.mooringRead addr off) s (sent false [] s))
        ∧ (right → Ends (.mooringWrite addr off v crc) s (sent true [] (putReg 0 (0x20100 + off.toNat) v s)))
        ∧ (¬ right → Ends (.mooringWrite addr off v crc) s (sent false [] s)))
    ∧ (¬ here → Ends (.mooringRead addr off) s (sent false [] s) ∧ Ends (.mooringWrite addr off v crc) s (sent false [] s))
    ∧ (here → wakes → Gives (.mooringRead addr off) s fun t =>
        t.mode = .wake ∧ t.fld F.AON_MODE_WAKE_CAUSE = 2 ∧ t.fld F.SYS_RSTCAUSE_LAST = 1 ∧ t.pwr.wakeAt = s.now
          ∧ (t.fld F.AON_EVTLATCH_LATCHED).testBit 0 = true)

/-- TRST_N resets the test logic only; CFG_RECOVER_WRITE stores the next word in the inactive SAFECFG bank, which the
first one erases, and no other store byte changes; COMMIT writes the commit record only where the block passes R329, and
STATUS tells which; both only with the store window open, and BOOT takes the new block only after all supplies have been
absent (R390, R415, R430). Words past the bank are not stored (log 81, the model's choice). -/
def Sys2Proof.Machine.JtagRecovery : Prop :=
  ∀ (s : State) (v : Word),
    let bank := inactiveBank s 3
    let b := bankBase 3 bank
    let n := s.store.jtagWord
    let len := min (4 * n) 0x10000
    let flags (done fail : Bool) (u : State) : State :=
      { u with store := { u.store with jtagWord := 0, jtagDone := done, jtagFail := fail } }
    Ends .trstN s { s with store := { s.store with jtagWord := 0, jtagDone := false, jtagFail := false, jtagOut := 0 } }
    ∧ (s.mode.dieOn = true → s.pwr.inReset = false →
        Ends .cfgRecoverStatus s { s with store := { s.store with
          jtagOut := BitVec.ofNat 32 (s.store.jtagDone.toNat + 2 * s.store.jtagFail.toNat) } }
        ∧ (cfgCheck (storeBytes s b len) ≠ 0 ∨ ¬ storeCool s → Ends .cfgRecoverCommit s (flags false true s))
        ∧ (cfgCheck (storeBytes s b len) = 0 → storeCool s →
            let u := writeRec 3 bank len s
            Ends .cfgRecoverCommit s (flags true false { u with store := { u.store with
              cfgSkip := u.store.cfgSkip ++ ((latestRec u 3).map (·.gen)).toList } }))
        ∧ (¬ storeCool s → Ends (.cfgRecoverWrite v) s { s with store := { s.store with jtagWord := n + 1 } })
        ∧ (storeCool s → Gives (.cfgRecoverWrite v) s fun t =>
            t.store.jtagWord = n + 1 ∧ Only (fun _ => False) { s with store := t.store } t
              ∧ (n < 0x4000 → ∀ i < 4, storeByte t (b + 4 * n + i) = v.extractLsb' (8 * i) 8)
              ∧ (n = 0 → ∀ a, b + 4 ≤ a → a < b + 0x10000 → storeByte t a = 0xFF)
              ∧ (∀ a, a < b ∨ b + 0x10000 ≤ a → storeByte t a = storeByte s a)
              ∧ (0 < n → ∀ a, a < b + 4 * n ∨ b + 4 * n + 4 ≤ a → storeByte t a = storeByte s a)))

/-- The mooring port and the IEEE 1149.1 operations. -/
def Obligations.MooringAndJtag : Prop := Sys2Proof.Machine.MooringPort ∧ Sys2Proof.Machine.JtagRecovery

/-- Without supplies every register and berth byte is at its reset value; the program store keeps its content, where no
LONG command was at work on it (R269, R395, R127, R430). -/
def Sys2Proof.Machine.wiped (m : Mode) (s t : State) : Prop :=
  t.mode = m ∧ (∀ a, ¬ evReg a → t.reg a = regReset a) ∧ t.br.mem = [] ∧ t.stk.powered = false
    ∧ (s.job = none → t.store.mem = s.store.mem) ∧ t.pwr.mpAddr = s.pwr.mpAddr ∧ t.pending = s.pending

/-- A RESET_N or software reset: WAKE again with every zone cut; the always-on domain, the store, trims and bypass
bits stay, but for what a running LONG command or calibration leaves (R269, R379, R430, R431). -/
def Sys2Proof.Machine.wasReset (cause : Nat) (s t : State) : Prop :=
  t.mode = .wake ∧ t.pwr.inReset = true ∧ t.fld F.SYS_RSTCAUSE_LAST = cause
    ∧ t.fld F.SYS_RSTCAUSE_RST_CNT = min (s.fld F.SYS_RSTCAUSE_RST_CNT + 1) 255
    ∧ (∀ a, 0x20100 ≤ a → a < 0x20118 → t.reg a = s.reg a) ∧ (s.job = none → t.store.mem = s.store.mem)
    ∧ (s.bit F.CAL_STAT_RUNNING = false → t.stk.trim = s.stk.trim) ∧ t.stk.bypass = s.stk.bypass
    ∧ ∀ z : Zone, srcEnabled t z = false ∧ zenLow t z = false

/-- Supplies and resets: POWER_ON, loss of supply, a brown-out in SLEEP and in any later mode, recovery of the always-on
domain, RESET_N by its length (between 0.1 and 1 µs it is open, log 59) and its end; below the limit of VDD_AON no reset
leaves SAFE-DARK (R395, R403, R430, R463). That a brown-out in WAKE and BOOT enters SAFE-DARK too is log 57, that event
55 is latched at the recovery log 58, that a reset returns to WAKE in one row log 60 (DEDUCED). -/
def Sys2Proof.Machine.SuppliesAndResets : Prop :=
  ∀ (s : State) (us ns : Nat),
    (s.mode ≠ .off → Ends .powerOn s s) ∧ (s.mode = .off → Gives .powerOn s (wiped .sleep s))
    ∧ Gives .supplyLoss s (wiped .off s)
    ∧ (us ≤ 10 ∨ s.mode = .off ∨ s.pwr.brownOut = true → Ends (.brownOut us) s s)
    ∧ (10 < us → s.pwr.brownOut = false → s.mode = .sleep → Gives (.brownOut us) s (wiped .off s))
    ∧ (10 < us → s.pwr.brownOut = false → s.mode ≠ .off → s.mode ≠ .sleep → Gives (.brownOut us) s fun t =>
        t.mode = .safeDark ∧ t.bit F.SAFE_STAT_DEV_LOCK = true ∧ t.fld F.SAFE_LOCK_LAST_CAUSE = 5
          ∧ (∀ a, 0x20100 ≤ a → a < 0x20118 → t.reg a = regReset a) ∧ t.pwr.brownOut = true
          ∧ (s.mode.dieOn = true → ∀ c : Ctx, s.bound c = true → (t.ctx[c]).pend.getLsbD 55 = true)
          ∧ (∀ z : Zone, srcEnabled t z = false ∧ zenLow t z = false) ∧ t.bit F.SAFE_STAT_FALLBACK = true)
    ∧ (s.pwr.brownOut = false → Ends .aonRecovery s s)
    ∧ (s.pwr.brownOut = true → s.mode ≠ .off → Gives .aonRecovery s fun t =>
        t.pwr.brownOut = false ∧ t.fld F.SYS_RSTCAUSE_LAST = 4 ∧ t.bit F.AON_MODE_LOCKED = s.bit F.SAFE_STAT_DEV_LOCK
          ∧ t.fld F.AON_MODE_DEV_CAUSE = s.fld F.SAFE_LOCK_DEV_CAUSE
          ∧ t.fld F.AON_MODE_ZLOCK = s.fld F.SAFE_ZONES_ZLOCK ∧ (t.fld F.AON_EVTLATCH_LATCHED).testBit 4 = true)
    ∧ (s.mode = .off ∨ s.mode = .sleep ∨ ns < 100 → Ends (.resetN ns) s s)
    ∧ (s.pwr.brownOut = true → s.mode ≠ .off → s.mode ≠ .sleep →
        (1000 ≤ ns → Ends (.resetN ns) s s) ∧ (100 ≤ ns → ns < 1000 → Ends (.resetN ns) s s.draw.2))
    ∧ (s.pwr.brownOut = false → s.mode ≠ .off → s.mode ≠ .sleep → 1000 ≤ ns → Gives (.resetN ns) s (wasReset 2 s))
    ∧ (s.pwr.brownOut = false → s.mode ≠ .off → s.mode ≠ .sleep → 100 ≤ ns → ns < 1000 →
        if (Config.free s.free).getLsbD 0 then Gives (.resetN ns) s (wasReset 2 s) else Ends (.resetN ns) s s.draw.2)
    ∧ Ends .resetEnd s { s with pwr := { s.pwr with inReset := false } }

/-- WAKE_N wakes from 10 µs where it is enabled, below 3 µs never, between the two it is open (log 59). In WAKE with the
logic rails on, XTAL judged good and seven locked loops end in BOOT with the stack powered; without them the device
returns to SLEEP with event 62 or 63 recorded. Pads still held 100 ms later raise event 53 (R401, R402, R405, R421,
R463). That the stack is powered within WAKE_MS and that a failed wake ends in one row is log 61 (DEDUCED). -/
def Sys2Proof.Machine.WakeSequence : Prop :=
  ∀ (s : State) (ns : Nat) (locked : BitVec 7),
    let on : Prop := s.mode = .sleep ∧ s.bit F.AON_WAKECFG_WAKEN_EN = true
    let woke (t : State) : Prop := t.mode = .wake ∧ t.fld F.AON_MODE_WAKE_CAUSE = 1 ∧ t.fld F.SYS_RSTCAUSE_LAST = 1
      ∧ t.pwr.wakeAt = s.now ∧ (s.job = none → t.store.mem = s.store.mem)
    let clocks : Prop := s.mode = .wake ∧ s.pwr.railsUp = 8 ∧ s.pwr.inReset = false
    let asleep (bit : Nat) (t : State) : Prop := t.mode = .sleep ∧ t.pwr.railsUp = 0 ∧ t.stk.powered = false
      ∧ (s.pwr.brownOut = false → (t.fld F.AON_EVTLATCH_LATCHED).testBit bit = true)
    (on → 10000 ≤ ns → Gives (.wakeN ns) s woke)
    ∧ (¬ on ∨ ns < 3000 → Ends (.wakeN ns) s s)
    ∧ (on → 3000 ≤ ns → ns < 10000 →
        if (Config.free s.free).getLsbD 0 then Gives (.wakeN ns) s woke else Ends (.wakeN ns) s s.draw.2)
    ∧ (clocks → Ends .xtalGood s (s.setBit F.CLK_STAT_XTAL_OK true))
    ∧ (clocks → s.bit F.CLK_STAT_XTAL_OK = false → Gives .xtalTimeout s (asleep 6))
    ∧ (clocks → s.bit F.CLK_STAT_XTAL_OK = true → Ends .xtalTimeout s s)
    ∧ (clocks → s.bit F.CLK_STAT_XTAL_OK = true → locked ≠ 127 → Gives (.pllLock locked) s (asleep 7))
    ∧ (clocks → s.bit F.CLK_STAT_XTAL_OK = true → Gives (.pllLock 127) s fun t =>
        t.mode = .boot ∧ t.stk.powered = true ∧ t.fld F.CLK_STAT_LOCK = 127 ∧ t.pwr.bootDue = true
          ∧ t.fld F.PWR_FIRST_WAKE_MS = min 65535 ((s.now - s.pwr.wakeAt) / 100000))
    ∧ (¬ clocks → Ends .xtalGood s s ∧ Ends .xtalTimeout s s ∧ Ends (.pllLock locked) s s)
    ∧ (s.mode.dieOn = true → s.fld F.AON_PADCFG_HELD ≠ 0 →
        Ends .padReleaseTimeout s (raiseAll 53 (s.fld F.AON_PADCFG_HELD) s))
    ∧ (s.mode.dieOn = false ∨ s.fld F.AON_PADCFG_HELD = 0 → Ends .padReleaseTimeout s s)

/-- Supplies, resets and WAKE. -/
def Obligations.PowerUp : Prop := Sys2Proof.Machine.SuppliesAndResets ∧ Sys2Proof.Machine.WakeSequence

/-- BOOT takes the strap word in force. Without a harbourmaster or berth memory it does not end, nor with firmware that
does not pass; but a device lock-out that AON_MODE holds ends it in SAFE-DARK whatever its checks find. Else it ends in
SAFE-DARK under a device lock-out, in DARK under a thermal stop, and in CALIBRATE (R299, R326, R388, R400, R406 to R408).
That a device lock-out ends BOOT though the firmware fails is log 68, that the return lanes are then locked log 72
(DEDUCED). -/
def Obligations.BootRuns : Prop :=
  ∀ (env : BootEnv) (s : State), s.mode = .boot → s.pwr.inReset = false → s.pwr.bootDue = true →
    let hms : Prop := env.hmAOk = true ∨ env.hmBOk = true
    let fw : Prop := ∃ bs, validContent s 0 = some bs ∧ fwPasses bs = true
    let quiet : Prop := s.cal.zone = none ∧ s.after = [] ∧ ∀ i : Fin 4, s.rxF[i] = [] ∧ s.rxM[i] = []
    (¬ hms ∨ env.berthOk = false → s.bit F.AON_MODE_LOCKED = true → quiet → Gives (.boot env) s fun t =>
      t.mode = .safeDark ∧ t.bit F.SAFE_STAT_DEV_LOCK = true ∧ t.pwr.bootDue = false
        ∧ t.bit F.PWR_BOOTSTAT_FW_MON = false ∧ t.fld F.SAFE_STRAP_BOOT = env.straps.toNat)
    ∧ (¬ hms ∨ env.berthOk = false → s.bit F.AON_MODE_LOCKED = false → Gives (.boot env) s fun t =>
      t.mode = .boot ∧ t.pwr.bootDue = false ∧ t.bit F.PWR_BOOTSTAT_FW_MON = false
        ∧ t.fld F.SAFE_STRAP_BOOT = env.straps.toNat ∧ (env.hmAOk = false → t.dplx.hmA = .failed)
        ∧ (env.hmBOk = false → t.dplx.hmB = .failed))
    ∧ (hms → env.berthOk = true → ¬ fw → quiet →
        Gives (.boot env) s fun t =>
        t.pwr.bootDue = false ∧ t.fld F.SAFE_STRAP_BOOT = env.straps.toNat
          ∧ t.dplx.hmA = (if env.hmAOk then .active else .failed)
          ∧ t.dplx.hmB = (if env.hmBOk then (if env.hmAOk then .standby else .active) else .failed)
          ∧ t.bit F.TLNK_RTN_RTN0_LOCK = true ∧ t.bit F.TLNK_RTN_RTN1_LOCK = true
          ∧ (t.bit F.SAFE_STAT_DEV_LOCK = false → t.mode = .boot ∧ t.bit F.PWR_BOOTSTAT_FW_MON = true)
          ∧ (t.bit F.SAFE_STAT_DEV_LOCK = true → t.mode = .safeDark ∧ t.bit F.PWR_BOOTSTAT_FW_MON = false))
    ∧ (hms → env.berthOk = true → fw → quiet →
        Gives (.boot env) s fun t =>
          t.mode = (if t.bit F.SAFE_STAT_DEV_LOCK then .safeDark else if t.bit F.THRM_STAT_THERM_STOP then .dark else .calibrate)
            ∧ t.pwr.bootDue = false ∧ t.bit F.PWR_BOOTSTAT_FW_MON = false)

/-! ### Clocks (R421 to R428) -/

/-- PLL_UNLOCK clears the lock bit, counts it and raises event 63 with its number; a side without both its loops is
gated, the common domain and SEQCLK change to a source that runs, a lost lane clock retrains the ports with event 8 or 9,
and a lost SAFEPLL stops the safety core. RELOCK_ATTEMPT that locks undoes the gating and starts the recovery that waited
for it; SEQCLK without a SLOTPLL takes a SYSPLL that locks (R426, R427). Gating until both loops are locked is log 65,
the order of the steps of a lost lane clock and of SAFEPLL log 66 (DEDUCED). -/
def Sys2Proof.Machine.PllFaults : Prop :=
  ∀ (s : State) (pll : Pll), s.mode.dieOn = true → s.pwr.inReset = false →
    let i := pllIx pll
    let gates (t : State) : Prop := ∀ e : Side, (t.eng e).gated = !(pllLocked t (sideIx e) && pllLocked t (3 + sideIx e))
    let ofSide : Prop := pll = .sysA ∨ pll = .sysB ∨ pll = .tlA ∨ pll = .tlB
    (pllLocked s i = false → Ends (.pllUnlock pll) s s)
    ∧ (pllLocked s i = true → Gives (.pllUnlock pll) s fun t =>
        pllLocked t i = false ∧ pllHeld t i = false ∧ t.fld F.CLK_EVT_LAST_PLL = i
          ∧ t.fld F.CLK_EVT_UNLOCK_CNT = min (s.fld F.CLK_EVT_UNLOCK_CNT + 1) 255
          ∧ (∀ j < 7, j ≠ i → pllLocked t j = pllLocked s j)
          ∧ (pll ≠ .safe → t.reg (0x30100 + 4 * 63) = BitVec.ofNat 32 i
              ∧ ∀ c : Ctx, s.bound c = true → (t.ctx[c]).pend.getLsbD 63 = true)
          ∧ (ofSide → gates t)
          ∧ (pll = .sysA → pllLocked s 1 = true → t.fld F.CLK_STAT_SYS_SRC = 1)
          ∧ (pll = .sysB → pllLocked s 0 = true → t.fld F.CLK_STAT_SYS_SRC = 0)
          ∧ (pll = .slot → t.bit F.CLK_STAT_SEQ_SRC = (s.bit F.CLK_STAT_SEQ_SRC || pllLocked s 0 || pllLocked s 1))
          ∧ (pll = .lane → ∀ p : Port, s.fld (F.LINK_PSTAT_STATE p.val) = 2 → t.fld (F.LINK_PSTAT_STATE p.val) = 1
              ∧ t.reg (0x30100 + 4 * (8 + p.val)) = 3)
          ∧ (pll = .safe → t.fld F.SAFE_CORE_STATE ≠ 0 ∧ t.bit F.SAFE_STAT_SAFE_OK_RUN = false))
    ∧ (pllLocked s i = true → ∀ ok, Ends (.relockAttempt pll ok) s s) ∧ Ends (.relockAttempt pll false) s s
    ∧ (pllLocked s i = false → Gives (.relockAttempt pll true) s fun t =>
        pllLocked t i = true ∧ (∀ j < 7, j ≠ i → pllLocked t j = pllLocked s j) ∧ (ofSide → gates t)
          ∧ t.clk.slotBack = (s.clk.slotBack || pll == .slot)
          ∧ t.bit F.CLK_STAT_SEQ_SRC = (s.bit F.CLK_STAT_SEQ_SRC || (decide (i < 2) && !pllLocked s 5))
          ∧ (s.dplx.relockWait = [] → s.cal.zone = none →
              Only (· = 0x10000) { s with engA := t.engA, engB := t.engB, clk := t.clk } t))
    ∧ (∀ (e : Side) (uses : Bool), pllLocked s i = false → s.dplx.relockWait = [(unitOfSide e, uses)] →
        (s.eng e).role = .failed → s.cal.zone = none →
        (i = sideIx e ∧ pllLocked s (3 + sideIx e) = true) ∨ (i = 3 + sideIx e ∧ pllLocked s (sideIx e) = true) →
        Gives (.relockAttempt pll true) s fun t => (t.eng e).role = .offline ∧ (t.eng e).gated = false
          ∧ t.dplx.relockWait = [] ∧ t.dplx.testing.getLsbD (unitIx (unitOfSide e)).val = true)

/-- XTAL: the amplitude check raises event 62 once below XLOW and arms again 50 mV above; a stop puts every locked loop
in holdover with events 62 and 63; judged good again, the held loops wait for the guard windows that relock them. A
forced clock switch to a clock that runs is counted and raises event 61, and delays a tick due within 1 µs on SEQCLK by
an open time up to 1 µs (log 67); a stopped clock is never selected (R422, R426, R427). That LOCK stays in holdover is
log 64 (DEDUCED). -/
def Sys2Proof.Machine.XtalAndClockSwitch : Prop :=
  ∀ (s : State) (amp : Byte) (mux : ClockMux), s.mode.dieOn = true → s.pwr.inReset = false →
    let m := s.setFld F.CLK_MON_XAMP amp.toNat
    let low := s.fld F.CLK_MON_XLOW
    let armed (v : Bool) : State := { m with clk := { m.clk with ampArmed := v } }
    (amp.toNat < low → s.clk.ampArmed = true → Ends (.xtalAmplitudeCheck amp) s (raiseAll 62 1 (armed false)))
    ∧ (low + 5 ≤ amp.toNat → Ends (.xtalAmplitudeCheck amp) s (armed true))
    ∧ (amp.toNat < low + 5 → low ≤ amp.toNat ∨ s.clk.ampArmed = false → Ends (.xtalAmplitudeCheck amp) s m)
    ∧ (s.bit F.CLK_STAT_XTAL_STOP = true → Ends .xtalStopped s s)
    ∧ (s.bit F.CLK_STAT_XTAL_STOP = false → Gives .xtalStopped s fun t =>
        t.bit F.CLK_STAT_XTAL_STOP = true ∧ t.bit F.CLK_STAT_XTAL_OK = false ∧ t.clk.relock = 0
          ∧ t.fld F.CLK_STAT_LOCK = s.fld F.CLK_STAT_LOCK
          ∧ (∀ i < 6, pllHeld t i = (pllHeld s i || pllLocked s i)) ∧ t.reg (0x30100 + 4 * 62) = 2
          ∧ ∀ c : Ctx, s.bound c = true → (t.ctx[c]).pend.getLsbD 62 = true
              ∧ ((∃ i < 6, pllLocked s i = true) → (t.ctx[c]).pend.getLsbD 63 = true))
    ∧ (s.bit F.CLK_STAT_XTAL_STOP = true → Ends .xtalJudgedGoodAgain s
        (let u := (s.setBit F.CLK_STAT_XTAL_STOP false).setBit F.CLK_STAT_XTAL_OK true
         { u with clk := { u.clk with relock := BitVec.ofNat 7 (s.fld F.CLK_STAT_HOLDOVER) } }))
    ∧ (s.bit F.CLK_STAT_XTAL_STOP = false → Ends .xtalJudgedGoodAgain s s)
    ∧ Ends (.clockSwitch mux true) s s
    ∧ (newClockRuns s mux = false → Ends (.clockSwitch mux false) s s)
    ∧ (newClockRuns s mux = true →
       let code := match mux with
        | .common => 1 | .seqclk => 2 | .slotRef => 3 | .clkout => 4 | .wakeBypass => 5
       let u := raiseAll 61 code ((s.inc F.CLK_EVT_FORCED_CNT).setFld F.CLK_EVT_LAST_MUX code)
       let late : Prop := mux = .seqclk ∧ s.seq.running = true ∧ s.seq.due ≤ (s.now + 100) * 256
       (¬ late → Ends (.clockSwitch mux false) s u)
       ∧ (late → Ends (.clockSwitch mux false) s { u with
            free := s.free + 1, seq := { s.seq with due := s.seq.due + (Config.free s.free).toNat % 25601 } }))

/-- PLL faults, the oscillator and clock switches. -/
def Obligations.Clocks : Prop := Sys2Proof.Machine.PllFaults ∧ Sys2Proof.Machine.XtalAndClockSwitch

/-! ### The safety core (R327, R331, R340, R341, R345 to R347, R428) -/

/-- A device lock-out with `cause`: SAFE-DARK, every zone cut, FALLBACK_REQ asserted, SAFE_OK stopped (R338, R339). -/
def Sys2Proof.Machine.lockedOut (cause : Nat) (t : State) : Prop :=
  t.mode = .safeDark ∧ t.bit F.SAFE_STAT_DEV_LOCK = true ∧ t.fld F.SAFE_LOCK_LAST_CAUSE = cause
    ∧ t.bit F.SAFE_LOCK_LAST_DEV = true ∧ (∀ z : Zone, srcEnabled t z = false ∧ zenLow t z = false)
    ∧ t.bit F.SAFE_STAT_FALLBACK = true ∧ t.bit F.SAFE_STAT_SAFE_OK_RUN = false

/-- SINH_A is active high and SINH_B low, the other way round with POL_SWAP. Four equal samples move a filtered channel,
an active one cuts every zone, and a release waits for the tick while the sequencer runs; channels that differ for N_D
samples lock the device out with cause 0x2 and event 34 (R340, R341). That the inputs are read in WAKE and in a reset too
(R454), and the difference timed only once the straps are in force, is log 165, the rest of its timing log 73
(DEDUCED). -/
def Obligations.InhibitInputs : Prop :=
  ∀ (pinA pinB : Bool) (s : State), s.mode ≠ .off → s.mode ≠ .sleep →
    let timed : Prop := s.mode.dieOn = true ∧ s.pwr.inReset = false ∧ ¬ (s.mode = .boot ∧ s.pwr.bootDue = true)
    let a : Bool := pinA != s.bit F.SAFE_INH_POL_SWAP
    let b : Bool := pinB == s.bit F.SAFE_INH_POL_SWAP
    let run (n : Int) (x : Bool) : Int :=
      if x then (if 0 < n then min 4 (n + 1) else 1) else (if n < 0 then max (-4) (n - 1) else -1)
    let filt (n : Int) (was : Bool) : Bool := if n = 4 then true else if n = -4 then false else was
    let fa := filt (run s.safe.cntA a) (s.bit F.SAFE_INH_A_FILT)
    let fb := filt (run s.safe.cntB b) (s.bit F.SAFE_INH_B_FILT)
    let sampled (t : State) : Prop :=
      t.bit F.SAFE_INH_A_RAW = a ∧ t.bit F.SAFE_INH_B_RAW = b ∧ t.bit F.SAFE_INH_A_FILT = fa ∧ t.bit F.SAFE_INH_B_FILT = fb
        ∧ t.safe.cntA = run s.safe.cntA a ∧ t.safe.cntB = run s.safe.cntB b
        ∧ (fa = true ∨ fb = true → t.safe.inhCut = true ∧ ∀ z : Zone, srcEnabled t z = false ∧ zenLow t z = false)
        ∧ (s.safe.inhCut = false → (fa || fb) = true →
            t.fld F.SAFE_INH_CUT_CNT = min (s.fld F.SAFE_INH_CUT_CNT + 1) 255)
    let limit := 20 * (s.fld F.SAFE_INH_TD_CODE + 1)
    (¬ timed → Gives (.inhibitSample pinA pinB) s fun t => sampled t
      ∧ t.fld F.SAFE_INH_DISC_CNT = s.fld F.SAFE_INH_DISC_CNT ∧ t.mode = s.mode)
    ∧ (timed → a = b → Gives (.inhibitSample pinA pinB) s fun t => sampled t ∧ t.fld F.SAFE_INH_DISC_CNT = 0
      ∧ ((fa || fb) = false → t.safe.inhCut = (s.safe.inhCut && s.seq.running)) ∧ t.mode = s.mode)
    ∧ (timed → a ≠ b → s.fld F.SAFE_INH_DISC_CNT + 1 < limit → Gives (.inhibitSample pinA pinB) s fun t => sampled t
        ∧ t.fld F.SAFE_INH_DISC_CNT = s.fld F.SAFE_INH_DISC_CNT + 1 ∧ t.mode = s.mode)
    ∧ (timed → a ≠ b → s.fld F.SAFE_INH_DISC_CNT + 1 = limit → Gives (.inhibitSample pinA pinB) s fun t => sampled t
        ∧ lockedOut 2 t ∧ t.reg (0x30100 + 4 * 34) = BitVec.ofNat 32 limit)

/-- The strap check: two reads that agree with the word of BOOT, a glitch, and a difference, which locks the device out
with cause 0x3 unless that word has done so before; a low of 50 to 500 ms on SAFE_RST_N opens the unlock window while a
lock-out stands, another one is counted; the window closes (R327, R347). That a check is ignored in BOOT and while the
safety core does not run is log 73 (DEDUCED). -/
def Obligations.StrapsAndUnlockWindow : Prop :=
  ∀ (w1 w2 : Half) (us : Nat) (s : State), s.mode ≠ .off → s.mode ≠ .sleep →
    let checks : Prop := s.mode.dieOn = true ∧ s.pwr.inReset = false ∧ s.mode ≠ .boot ∧ s.fld F.SAFE_CORE_STATE = 0
    let boot := s.fld F.SAFE_STRAP_BOOT
    let u := s.setFld F.SAFE_STRAP_LAST w2.toNat
    let known : Prop := s.safe.strapLock = some w1 ∨ s.safe.strapLock = some w2
    (¬ checks → Ends (.strapCheck w1 w2) s s)
    ∧ (checks →
        (w1.toNat = boot → w2.toNat = boot → Ends (.strapCheck w1 w2) s u)
        ∧ ((w1.toNat = boot ↔ w2.toNat ≠ boot) → Ends (.strapCheck w1 w2) s (u.inc F.SAFE_CORE_GLITCH))
        ∧ (w1.toNat ≠ boot → w2.toNat ≠ boot → known → Ends (.strapCheck w1 w2) s u)
        ∧ (w1.toNat ≠ boot → w2.toNat ≠ boot → ¬ known → Gives (.strapCheck w1 w2) s fun t =>
            lockedOut 3 t ∧ t.fld F.SAFE_STRAP_LAST = w2.toNat ∧ t.safe.strapLock = some w2
              ∧ t.reg (0x30100 + 4 * 36) = BitVec.ofNat 32 w2.toNat))
    ∧ (anyLock s = true → 50000 ≤ us → us ≤ 500000 → Ends (.safeRstN us) s (s.setBit F.SAFE_LOCK_UNL_WIN true))
    ∧ (anyLock s = false ∨ us < 50000 ∨ 500000 < us → Ends (.safeRstN us) s (s.inc F.SAFE_CORE_RSTPIN_BAD))
    ∧ Ends .unlockWindowExpiry s (s.setBit F.SAFE_LOCK_UNL_WIN false)

/-- A safety core fault stops SAFE_OK with event 38 and restarts the core; the third within an hour, a failed restart, a
stopped SAFEOSC and a second window in a row beyond ±5 % lock the device out with cause 0x6 (R346, R428). That a fault
during a restart is ignored and that SAFE_CORE.STATE stays 1 after the third is log 75 (DEDUCED). -/
def Sys2Proof.Machine.SafetyCoreFaults : Prop :=
  ∀ (s : State) (k : CoreFault) (dev : Int), s.mode.dieOn = true → s.pwr.inReset = false →
    let cause := match k with
      | .lockstep => 1 | .ram => 2 | .heartbeat => 3
    let last := s.safe.faultTimes.take 2
    let recent := (last.filter fun x => decide (s.uptime ≤ x + 3600)).length
    let u := (s.setFld F.SAFE_CORE_STATE 1).inc F.SAFE_CORE_RST_CNT
    (s.fld F.SAFE_CORE_STATE ≠ 0 → Ends (.safetyCoreFault k) s s)
    ∧ (s.fld F.SAFE_CORE_STATE = 0 → recent < 2 → Ends (.safetyCoreFault k) s
        (raiseAll 38 cause { u with safe := { u.safe with faultTimes := s.uptime :: last } }))
    ∧ (s.fld F.SAFE_CORE_STATE = 0 → recent = 2 → Gives (.safetyCoreFault k) s fun t =>
        lockedOut 6 t ∧ t.fld F.SAFE_CORE_STATE = 1 ∧ t.reg (0x30100 + 4 * 38) = BitVec.ofNat 32 cause)
    ∧ (s.fld F.SAFE_CORE_STATE = 1 → Ends (.safetyCoreRestart true) s (s.setFld F.SAFE_CORE_STATE 0)
        ∧ Gives (.safetyCoreRestart false) s fun t => lockedOut 6 t ∧ t.fld F.SAFE_CORE_STATE = 2)
    ∧ (s.fld F.SAFE_CORE_STATE ≠ 1 → ∀ good, Ends (.safetyCoreRestart good) s s)
    ∧ (s.safe.oscStop = true → Ends .safeoscStop s s)
    ∧ (s.safe.oscStop = false → Gives .safeoscStop s fun t =>
        lockedOut 6 t ∧ t.safe.oscStop = true ∧ t.fld F.SAFE_CORE_STATE = 2 ∧ t.reg (0x30100 + 4 * 38) = 4)
    ∧ Gives (.clockMonitor dev) s fun t =>
        t.fldI F.CLK_MON_SAFE_DEV = max (-32768) (min 32767 dev)
          ∧ t.safe.devBad = (if 500 < dev.natAbs then min 2 (s.safe.devBad + 1) else 0)
          ∧ (500 < dev.natAbs → s.safe.devBad = 1 → lockedOut 6 t ∧ t.fld F.SAFE_CORE_STATE = 2)
          ∧ (dev.natAbs ≤ 500 ∨ s.safe.devBad = 0 → t.mode = s.mode)

/-- A missing watchdog answer counts and publishes another challenge, and the third in a row locks the device out with
cause 0x7 and event 39; SAFE_OK toggles where R345 lets it run; HOLD, or ticks without a harbourmaster, that have lasted
HOLD_LIM lock the device out with cause 0x4 (R315, R319, R331, R345). That a missing answer publishes a new challenge is
log 74, the model's choice, and that it is judged through a restart of the safety core log 73 (DEDUCED). -/
def Sys2Proof.Machine.WatchdogAndLimits : Prop :=
  ∀ s : State,
    (let open_ : Prop := s.mode.dieOn = true ∧ s.pwr.inReset = false ∧ s.bit F.SAFE_STAT_ARCH_LEGACY = true
        ∧ s.fld F.SAFE_LEGACY_Q ≠ 0 ∧ s.fld F.SAFE_CORE_STATE ≠ 2
     (¬ open_ → Ends .watchdogTimeout s s)
     ∧ (open_ → s.fld F.SAFE_LEGACY_QA_CONSEC < 2 → Gives .watchdogTimeout s fun t =>
          t.fld F.SAFE_LEGACY_QA_CONSEC = s.fld F.SAFE_LEGACY_QA_CONSEC + 1 ∧ t.fld F.SAFE_LEGACY_Q ≠ 0
            ∧ t.safe.qAt = s.now ∧ t.mode = s.mode)
     ∧ (open_ → 2 ≤ s.fld F.SAFE_LEGACY_QA_CONSEC → Gives .watchdogTimeout s fun t =>
          lockedOut 7 t ∧ t.fld F.SAFE_LEGACY_QA_CONSEC = 0 ∧ t.fld F.SAFE_LEGACY_Q ≠ 0
            ∧ t.reg (0x30100 + 4 * 39) = 1))
    ∧ (okRuns s = true → Ends .safeOkToggle s { s with safe := { s.safe with okLevel := !s.safe.okLevel } })
    ∧ (okRuns s = false → Ends .safeOkToggle s s)
    ∧ (let lasted : Prop := s.mode = .hold ∨ (s.seq.running = true ∧ noHm s = true)
       (lasted → Gives .holdLimit s (lockedOut 4)) ∧ (¬ lasted → Ends .holdLimit s (calWatch s)))

/-- Safety core faults, the legacy watchdog, SAFE_OK and the HOLD limit. -/
def Obligations.SafetyCoreAndWatchdog : Prop := Sys2Proof.Machine.SafetyCoreFaults ∧ Sys2Proof.Machine.WatchdogAndLimits

/-! ### Tile links (R283 to R294, R369) -/

/-- The queue of a return lane after the stack has sent `rs`: each stands behind the record in progress, which is the
first, and behind the records of its kind and of the kinds before it (R291). -/
def Sys2Proof.Machine.joined (rs q : List Record) : List Record := rs.foldl (fun q r => insertRecord r q) q

/-- In LOWLIGHT the lanes of a zone that LL_ZMASK does not permit stay in electrical idle (R290). -/
abbrev Sys2Proof.Machine.idleLane (s : State) (z : Zone) : Prop :=
  s.mode = .lowlight ∧ (s.fld F.SAFE_CFG_LL_ZMASK).testBit z.val = false

/-- A record the stack sends goes out on both return lanes (R291). -/
def Sys2Proof.Machine.State.sends (s : State) (rs : List Record) : State :=
  { s with stk := { s.stk with rtn := s.stk.rtn.map (joined rs) } }

/-- TILE: the lane's oldest waiting tile is sent; the stack of the selected side stores a good packet, saturated, and
answers ACK, or answers NAK with the first failed check of R285; ZEND holds the zone's CRC; a zone's first valid ORDER
of the window is its order, and with a SWAP the first of all sends a zero LIGHT record for each dark zone (R77, R283
to R289, R291, R332). Packets of the other side are not taken, nor is an order before the first guard window of a
side, and a FAILED lane carries no packets (R294, R295), an idle one of LOWLIGHT nothing (R290); while the slot clock is
absent the stack ticks on by itself (R87). That KIND, reserved bits and TZ fail as framing, cause 4, and that a ZEND that
fails is not answered, is log 99; what an order must hold to be valid is log 100 (DEDUCED). -/
def Obligations.ForwardPackets : Prop :=
  ∀ (e : Side) (z : Zone) (s : State),
    let takes := takesFrom s e
    let carries : Prop := s.fld (F.TLNK_LANE_STATE (sideIx e) z.val) ≠ 3 ∧ ¬ idleLane s z
    let b := s.stk.back[z]
    (¬ carries → (∀ k, Ends (.tilePkt e z k) s s) ∧ ∀ k, Ends (.zendPkt e z k) s s)
    ∧ (∀ k : TilePkt, carries →
      let u := updTx e z (fun t => { t with wait := t.wait.drop 1, sent := t.sent ++ t.wait.take 1 }) s
      let whole : Prop := k.framed = true ∧ k.codes.length = 4096
      let crc : Prop := k.crc = crc32c (tileBytes k)
      let header : Prop := k.kind = 1 ∧ k.tz.toNat < 32 ∧ k.rsv = 0
      let nak (c : Nat) : Prop := Ends (.tilePkt e z k) s (u.sends [mkRecord 2 z.val k.frm.toNat k.tz.toNat (toLe 4 c)])
      (takes = false → Ends (.tilePkt e z k) s u)
      ∧ (takes = true → ¬ whole → nak 4) ∧ (takes = true → whole → ¬ crc → nak 1)
      ∧ (takes = true → whole → crc → ¬ header → nak 4)
      ∧ (∀ f, takes = true → whole → crc → header → b.frm = some f → k.frm ≠ f → nak 2)
      ∧ (takes = true → whole → crc → header → b.frm = some k.frm → k.icode ≠ b.icode → nak 3)
      ∧ (takes = true → whole → crc → header → b.frm = none ∨ (b.frm = some k.frm ∧ k.icode = b.icode) →
          Gives (.tilePkt e z k) s fun t =>
            Sparse.get (Sparse.all []) (t.stk.back[z]).tiles k.tz.toNat = (saturateCodes s.ffn.n k.codes).1
              ∧ (t.stk.back[z]).frm = some k.frm ∧ (t.stk.back[z]).icode = k.icode
              ∧ (∀ y : Zone, y ≠ z → t.stk.back[y] = s.stk.back[y]) ∧ t.stk.front = s.stk.front
              ∧ ∃ rest, t.stk.rtn = s.stk.rtn.map (joined (mkRecord 1 z.val k.frm.toNat k.tz.toNat [] :: rest))
                ∧ (b.tiles.length < 31 → rest = [])))
    ∧ (∀ k : ZendPkt,
        let good : Prop := takes = true ∧ carries ∧ k.framed = true ∧ k.kind = 3 ∧ k.rsv = 0 ∧ k.crc = crc32c (zendBytes k)
        (¬ good → Ends (.zendPkt e z k) s s)
        ∧ (good → b.tiles.length ≠ 32 ∨ b.zcrcSent = true ∨ b.frm = none →
          Ends (.zendPkt e z k) s (setBack z { b with zend := some (k.frm, k.zcrc) } s))
        ∧ (∀ g, good → b.tiles.length = 32 → b.zcrcSent = false → b.frm = some g → Ends (.zendPkt e z k) s
            (let x := backCrc b
             (setBack z { b with zend := some (k.frm, k.zcrc), zcrcSent := true } s).sends
               [mkRecord 3 z.val g.toNat (if k.frm = g ∧ k.zcrc = x then 1 else 0) (toLe 4 x.toNat)])))
    ∧ (∀ k : OrderBlock,
        let good : Prop := takes = true ∧ ¬ idleLane s z ∧ s.tl.newSel = false ∧ k.crc8 = crc8 (orderBytes k) ∧ (k.b1.toNat % 4 = 1 ∨ k.b1.toNat % 4 = 2)
          ∧ s.stk.orders[z] = none
        (¬ good → Ends (.orderBlk e z k) s s)
        ∧ (good → Gives (.orderBlk e z k) s fun t =>
            t.stk.orders[z] = some k ∧ (∀ y : Zone, y ≠ z → t.stk.orders[y] = s.stk.orders[y])
              ∧ (s.stk.sclkLost = false → t.stk.localTick = false ∧ t.bit F.STK_STAT_HOLDLAST = false)
              ∧ (s.stk.sclkLost = true → t.stk.localTick = s.stk.localTick
                  ∧ t.bit F.STK_STAT_HOLDLAST = s.bit F.STK_STAT_HOLDLAST)
              ∧ t.stk.rtn = (if (∀ y : Zone, s.stk.orders[y] = none) ∧ k.b1.toNat % 4 = 1 then
                  s.stk.rtn.map (joined ((allZones.filter fun y => k.darkmask.getLsbD y.val).map fun y =>
                    mkRecord 4 y.val k.frm.toNat 0 (List.replicate 16 0)))
                else s.stk.rtn)))

/-- Zone commands: one that fails its CRC is discarded, one that is not accepted in the mode or is out of range is
counted; TRIM stores six-bit trims, in force at once while the sequencer is stopped; BYPASS sets bits and clears none;
REF, CALRUN and ISTLAST are answered with an ADC record, of zeros before a tile's first test (R17), and CALRUN stores
the trims it keeps and fails strings (R76, R91, R287, R369, R371, R377). That ZCMD_REJ counts a range or length refusal
too is log 101, that ISTLAST then sends zeros log 169 (DEDUCED). -/
def Obligations.ZoneCommands : Prop :=
  ∀ (e : Side) (z : Zone) (k : ZcmdPkt) (rm : RefReading) (cm : CalReading) (s : State),
    let taken : Prop := takesFrom s e = true ∧ s.fld (F.TLNK_LANE_STATE (sideIx e) z.val) ≠ 3 ∧ ¬ idleLane s z
      ∧ zcmdOk k = true
    let rows : List (Instr × Nat × Nat) := [(.trimCmd e z k, 1, 0), (.bypassCmd e z k, 2, 0), (.refReq e z k rm, 3, 1)
      , (.calrun e z k cm, 3, 2), (.istlast e z k, 3, 3)]
    let fits (cmd code : Nat) : Prop := k.cmd.toNat = cmd ∧ (cmd = 3 → k.count.toNat = code) ∧ zcmdMode s cmd code = true
      ∧ zcmdRange k = true
    let asked (code : Nat) : State := { s with cal := { s.cal with asked := s.cal.asked ++ [(z, k.start.toNat, code)] } }
    let adc (code : Nat) (bs : List Byte) : Record := mkRecord 6 z.val s.stk.frontFrm.toNat code bs
    let tile := tileOfZone z.val k.start.toNat
    let at_ (i : Nat) : Nat := strOfZone z (k.start.toNat + i)
    (¬ taken → ∀ p ∈ rows, Ends p.1 s s)
    ∧ (taken → ∀ p ∈ rows, ¬ fits p.2.1 p.2.2 → Ends p.1 s (s.inc F.TLNK_STAT_ZCMD_REJ))
    ∧ (taken → fits 1 0 → Gives (.trimCmd e z k) s fun t =>
        (∀ i < k.count.toNat, Sparse.get (Sparse.all 0) t.stk.trim (at_ i) = byteAt k.data i &&& 0x3F)
          ∧ (∀ q, (∀ i < k.count.toNat, q ≠ at_ i) →
              Sparse.get (Sparse.all 0) t.stk.trim q = Sparse.get (Sparse.all 0) s.stk.trim q)
          ∧ (s.seq.running = true → t.stk.trimEff = s.stk.trimEff)
          ∧ (s.seq.running = false → ∀ i < k.count.toNat,
              Sparse.get (Sparse.all 0) t.stk.trimEff (at_ i) = byteAt k.data i &&& 0x3F)
          ∧ Only (fun _ => False) { s with stk := { s.stk with trim := t.stk.trim, trimEff := t.stk.trimEff } } t)
    ∧ (taken → fits 2 0 → Gives (.bypassCmd e z k) s fun t =>
        (∀ i < k.count.toNat, bypassOf t (at_ i) = bypassOf s (at_ i) ||| byteAt k.data i)
          ∧ (∀ q, (∀ i < k.count.toNat, q ≠ at_ i) → bypassOf t q = bypassOf s q)
          ∧ Only (fun _ => False) { s with stk := { s.stk with bypass := t.stk.bypass } } t)
    ∧ (taken → fits 3 1 → s.mode ≠ .calibrate ∨ rm.dev.natAbs ≤ 200 → Ends (.refReq e z k rm) s
        ((asked 1).sends [adc 1 (toLe 2 (rm.dev.emod 65536).toNat ++ [0, 0])]))
    ∧ (taken → fits 3 1 → s.mode = .calibrate → 200 < rm.dev.natAbs → Gives (.refReq e z k rm) s fun t =>
        tileStateOf t tile = 3)
    ∧ (taken → fits 3 2 → 2 ≤ tileStateOf s tile → Gives (.calrun e z k cm) s fun t =>
        t.stk.rtn = s.stk.rtn.map (joined [adc 2 (List.replicate 12 0 ++ [if tileStateOf s tile = 3 then 2 else 0, 0, 0, 0])])
          ∧ t.stk.trim = s.stk.trim)
    ∧ (taken → fits 3 2 → tileStateOf s tile < 2 → Gives (.calrun e z k cm) s fun t =>
        (∃ rest, t.stk.rtn = s.stk.rtn.map (joined (adc 2 (calrunData (tileFinds s z tile cm)) :: rest)))
          ∧ (∀ f ∈ tileFinds s z tile cm, f.2.cause ≠ 0 → strOfTile tile f.1 ∈ t.stk.failedStr)
          ∧ (s.mode = .calibrate → ∀ x ∈ trimsKept tile (tileFinds s z tile cm),
              Sparse.get (Sparse.all 0) t.stk.trim x.1 = x.2)
          ∧ (s.mode ≠ .calibrate → t.stk.trim = s.stk.trim))
    ∧ (∀ q p m, taken → fits 3 3 → s.stk.ist.find? (fun r => r.2.2.tile.val = tile) = some (q, p, m) →
        Ends (.istlast e z k) s ((asked 3).sends
          [adc 3 (toLe 2 m.mv ++ toLe 2 m.na ++ toLe 2 q ++ [BitVec.ofNat 8 (p % 8), 0])]))
    ∧ (taken → fits 3 3 → s.stk.ist.find? (fun r => r.2.2.tile.val = tile) = none →
        Ends (.istlast e z k) s ((asked 3).sends [adc 3 (List.replicate 8 0)]))

/-- The state after the record in progress has left its lane. -/
def Sys2Proof.Machine.State.took (s : State) (l : RtnLane) : State :=
  { s with stk := { s.stk with rtn := s.stk.rtn.set (rtnIx l) ((s.stk.rtn[rtnIx l]).drop 1) } }

/-- A record of kind `k` is what the lane sends now: no record is noted, or the one in progress has this kind (R291). -/
abbrev Sys2Proof.Machine.turnOf (s : State) (l : RtnLane) (k : Byte) : Prop :=
  ∀ h qs, s.stk.rtn[rtnIx l] = h :: qs → h.kind = k

/-- A return lane whose fourth record of a frame fails its CRC has failed, with event 47 of cause 0x4 (R293). -/
def Sys2Proof.Machine.badRecord (l : RtnLane) (s t : State) : Prop :=
  t.fld (rtnCrcErr l) = min (s.fld (rtnCrcErr l) + 1) 255 ∧ t.tl.rtnErrs[rtnIx l] = s.tl.rtnErrs[rtnIx l] + 1
    ∧ (s.tl.rtnErrs[rtnIx l] = 3 → t.bit (rtnFail l) = true)
    ∧ (s.tl.rtnErrs[rtnIx l] = 3 → s.bit (rtnFail l) = false → s.mode.dieOn = true →
        t.reg (0x30100 + 4 * 47) = BitVec.ofNat 32 (64 + (rtnIx l).val + 4 * 256))
    ∧ (s.tl.rtnErrs[rtnIx l] ≠ 3 → t.bit (rtnFail l) = s.bit (rtnFail l))

/-- The record in progress leaves its lane; one that fails its CRC counts, one of another kind or, where the lane matters,
of a lane that does not judge completion changes nothing else. ACK and ZCRC count for their lane and frame, NAK sends a
tile again and the second fails the lane, LIGHT is held, LSTAT gives the windows of the powered sides, an ADC record
answers its request (R26, R286, R291, R293, R307, R333, R369). The model's choices in this: a record out of the turn of
R291 does not arrive (log 168), NAK, LSTAT and ADC are taken on the judging lane alone (log 103), and the held LIGHT is
the one of the later FRM (log 104). -/
def Sys2Proof.Machine.ReturnRecords : Prop :=
  ∀ (l : RtnLane) (r : Record) (s : State),
    let u := s.took l
    let z := zoneOfRec r
    let e := selSide s
    let rows : List (Instr × Byte × Bool) := [(.ack l r, 1, false), (.nak l r, 2, true), (.zcrc l r, 3, false)
      , (.lightRec l r, 4, false), (.faultRec l r, 5, false), (.adcRecord l r, 6, true), (.lstat l r, 7, true)]
    (∀ p ∈ rows, recordOk r = false → Gives p.1 s (badRecord l s))
    ∧ Gives (.returnRecordCrcError l) s (badRecord l s)
    ∧ (∀ p ∈ rows, recordOk r = true → ¬ turnOf s l r.kind → Ends p.1 s s)
    ∧ (∀ p ∈ rows, recordOk r = true → turnOf s l r.kind → r.kind ≠ p.2.1 ∨ (p.2.2 = true ∧ judgeLane s ≠ l) → Ends p.1 s u)
    ∧ (recordOk r = true → turnOf s l r.kind →
        (r.kind = 1 → isComposed s r = false → Ends (.ack l r) s u)
        ∧ (r.kind = 1 → isComposed s r = true → Gives (.ack l r) s fun t =>
            (t.tl.acked[rtnIx l])[z] = (s.tl.acked[rtnIx l])[z] ||| BitVec.ofNat 32 (2 ^ (r.arg.toNat % 32))
              ∧ (∀ y : Zone, y ≠ z → (t.tl.acked[rtnIx l])[y] = (s.tl.acked[rtnIx l])[y])
              ∧ ((t.eng e).tx[z]).sent = ((s.eng e).tx[z]).sent.filter (fun c => c.1 ≠ r.arg.toNat))
        ∧ (r.kind = 2 → judgeLane s = l → ((s.eng e).tx[z]).naked.getLsbD r.arg.toNat = false → Ends (.nak l r) s
            (updTx e z (fun t => { t with
              naked := t.naked ||| BitVec.ofNat 32 (2 ^ r.arg.toNat)
              wait := t.sent.filter (·.1 = r.arg.toNat) ++ t.wait
              sent := t.sent.filter (·.1 ≠ r.arg.toNat) }) (u.inc F.TLNK_STAT_NAK_CNT)))
        ∧ (r.kind = 2 → judgeLane s = l → ((s.eng e).tx[z]).naked.getLsbD r.arg.toNat = true → Gives (.nak l r) s fun t =>
            t.fld (F.TLNK_LANE_STATE (sideIx e) z.val) = 3
              ∧ t.fld F.TLNK_STAT_NAK_CNT = min (s.fld F.TLNK_STAT_NAK_CNT + 1) 255)
        ∧ (r.kind = 3 → isComposed s r = true → Gives (.zcrc l r) s fun t =>
            (t.tl.mtch[rtnIx l])[z] = r.arg.getLsbD 0
              ∧ (s.diag.zcrcNext[z] = none → t.diag.zcrcNext[z] = some (BitVec.ofNat 32 (leAt r.data 0 4))))
        ∧ (r.kind = 3 → isComposed s r = false → Ends (.zcrc l r) s u)
        ∧ (r.kind = 4 → Gives (.lightRec l r) s fun t =>
            (s.safe.held[z] = [] → t.safe.held[z] = [lightOf r])
              ∧ (∀ h hs, s.safe.held[z] = h :: hs → h.frm = r.frm → isZeroLight (lightOf r) = false →
                  t.safe.held[z] = s.safe.held[z])
              ∧ (∀ h hs, s.safe.held[z] = h :: hs → 0 < (r.frm - h.frm).toInt → t.safe.held[z] = [lightOf r])
              ∧ (∀ y : Zone, y ≠ z → t.safe.held[y] = s.safe.held[y]) ∧ t.safe.shown = s.safe.shown
              ∧ Only (fun _ => False) { u with safe := t.safe } t)
        ∧ (r.kind = 6 → judgeLane s = l → (∀ a ∈ s.cal.asked, ¬ (a.1 = z ∧ a.2.2 = r.arg.toNat)) → Ends (.adcRecord l r) s u)
        ∧ (∀ a, r.kind = 6 → judgeLane s = l → s.cal.asked.find? (fun x => x.1 = z && x.2.2 = r.arg.toNat) = some a →
            Gives (.adcRecord l r) s fun t => t.cal.asked = s.cal.asked.erase a
              ∧ (a.2.2 = 2 → s.bit F.CAL_STAT_RUNNING = true → tileOfZone z.val a.2.1 ∈ t.cal.done))
        ∧ (r.kind = 7 → judgeLane s = l → idleLane s z → Ends (.lstat l r) s u)
        ∧ (r.kind = 7 → judgeLane s = l → ¬ idleLane s z → Gives (.lstat l r) s fun t => ∀ x : Side,
            (s.eng x).powered = true →
              t.fld (F.TLNK_LANE_ERR_LAST (sideIx x) z.val) = leAt r.data (2 * sideIx x) 2
                ∧ ((t.eng x).tx[z]).window = (decide (0 < leAt r.data (2 * sideIx x) 2) :: ((s.eng x).tx[z]).window).take 256
                ∧ (s.fld F.TLNK_CTRL_FAIL_ERR ≤ leAt r.data (2 * sideIx x) 2 →
                    t.fld (F.TLNK_LANE_STATE (sideIx x) z.val) = 3)))

/-- FAULT: the first copy of a pixel's record sets its class in the pixel map, that of a string all eight positions,
that of a tile the higher state; DIAG_LAST and the counts follow; a later copy changes nothing (R354 to R357, R367).
-/
def Sys2Proof.Machine.FaultRecords : Prop :=
  ∀ (l : RtnLane) (r : Record) (s : State), recordOk r = true → r.kind = 5 → turnOf s l 5 →
    let u := s.took l
    let n := leAt r.data 0 4
    let k := bitsOf (byteAt r.data 4).toNat 2 0
    let cls := bitsOf (byteAt r.data 4).toNat 5 4
    let counted (t : State) : Prop := t.fld F.DIAG_LAST_KIND = r.arg.toNat
      ∧ t.fld F.DIAG_PIXCNT_OPEN = min (countClass t 1) 65535 ∧ t.fld F.DIAG_PIXCNT_SHORT = min (countClass t 2) 65535
      ∧ t.fld F.DIAG_STRCNT_STR_FAILED = min (countFailed t) 262143
    (r.arg = 0 → n < 262144 → mapClass s n k = 0 → Gives (.faultRec l r) s fun t =>
        mapClass t n k = cls ∧ (∀ q j, q < 262144 → j < 8 → ¬ (q = n ∧ j = k) → mapClass t q j = mapClass s q j) ∧ counted t
          ∧ t.fld F.DIAG_LAST_CLASS = cls ∧ t.fld F.DIAG_LAST_K = k ∧ t.fld F.DIAG_LAST_S = n)
    ∧ (r.arg = 0 → mapClass s n k ≠ 0 ∨ 262144 ≤ n → Ends (.faultRec l r) s u)
    ∧ (r.arg = 1 → n < 262144 → (∃ i < 8, mapClass s n i ≠ 3) → Gives (.faultRec l r) s fun t =>
        (∀ i < 8, mapClass t n i = 3) ∧ (∀ q j, q < 262144 → j < 8 → q ≠ n → mapClass t q j = mapClass s q j) ∧ counted t
          ∧ t.fld F.DIAG_LAST_S = n)
    ∧ (r.arg = 1 → (∀ i < 8, mapClass s n i = 3) ∨ 262144 ≤ n → Ends (.faultRec l r) s u)
    ∧ (r.arg = 2 → n < 512 → Sparse.get (Sparse.all 0) s.diag.tiles n < cls → Gives (.faultRec l r) s fun t =>
        Sparse.get (Sparse.all 0) t.diag.tiles n = cls ∧ t.diag.map = s.diag.map ∧ counted t
          ∧ (s.mode.dieOn = true → s.mode ≠ .calibrate → t.reg (0x30100 + 4 * 43) = BitVec.ofNat 32 (cls * 2 ^ 12 + n)))
    ∧ (r.arg = 2 → cls ≤ Sparse.get (Sparse.all 0) s.diag.tiles n ∨ 512 ≤ n → Ends (.faultRec l r) s u)
    ∧ (3 ≤ r.arg.toNat → Ends (.faultRec l r) s u)

/-- Return records at the controller die, FAULT records among them. -/
def Obligations.RecordsOfTheStack : Prop := Sys2Proof.Machine.ReturnRecords ∧ Sys2Proof.Machine.FaultRecords

/-- A lane that loses lock fails with event 47, on the active side with a swap requested, on the standby side with its
resynchronisation due; 256 clean windows or frames recover it; without an order the stack repeats by itself and counts
it, the backstop makes it dark, and a lost SCLK leaves it on its own oscillator within 0.5 % of the slot time it measured
(R85 to R87, R293, R294, R320). Both directions of the SCLK row are log 150, LOCK set by the recovery of a return lane is
log 107, the standby lane's resynchronisation log 131, the model's choices. -/
def Obligations.LanesAndStackTimers : Prop :=
  ∀ (e : Side) (z : Zone) (l : RtnLane) (s : State),
    let st := F.TLNK_LANE_STATE (sideIx e) z.val
    let on : Prop := (s.eng e).powered = true ∧ s.stk.powered = true ∧ ¬ idleLane s z
    let act : Bool := (s.eng e).role == .active
    (on → s.fld st ≠ 3 → Gives (.tileLinkLockLoss (.fwd e z)) s fun t =>
        t.fld st = 3 ∧ t.dplx.swap = (s.dplx.swap || act)
          ∧ t.dplx.mmResync = (s.dplx.mmResync || (s.eng e).role == .standby)
          ∧ (s.mode.dieOn = true → t.reg (0x30100 + 4 * 47) = BitVec.ofNat 32 (z.val + 16 * sideIx e + (if act then 2 else 3) * 256)))
    ∧ (¬ on → Ends (.tileLinkLockLoss (.fwd e z)) s s)
    ∧ (on → s.fld st = 3 → Ends (.tileLinkLockLoss (.fwd e z)) s (updTx e z (fun t => { t with clean := 0 }) s))
    ∧ (s.stk.powered = true → Gives (.tileLinkLockLoss (.rtn l)) s fun t =>
        t.bit (rtnFail l) = true ∧ t.bit (rtnLock l) = false
          ∧ (s.bit (rtnFail l) = false → s.mode.dieOn = true → t.reg (0x30100 + 4 * 47) = BitVec.ofNat 32 (64 + (rtnIx l).val + 4 * 256)))
    ∧ (s.fld st = 3 → 256 ≤ ((s.eng e).tx[z]).clean → Ends (.tileLaneRecovery (.fwd e z)) s
        (updTx e z (fun t => { t with clean := 0 }) (s.setFld st 1)))
    ∧ (s.fld st ≠ 3 ∨ ((s.eng e).tx[z]).clean < 256 → Ends (.tileLaneRecovery (.fwd e z)) s s)
    ∧ (s.bit (rtnFail l) = true → 256 ≤ s.tl.rtnClean[rtnIx l] → Ends (.tileLaneRecovery (.rtn l)) s
        ((s.setBit (rtnFail l) false).setBit (rtnLock l) true))
    ∧ (s.bit (rtnFail l) = false ∨ s.tl.rtnClean[rtnIx l] < 256 → Ends (.tileLaneRecovery (.rtn l)) s s)
    ∧ (s.stk.powered = true → (∀ y : Zone, s.stk.orders[y] = none) → Gives .holdLast s fun t =>
        t.fld F.STK_REPEAT_REPEAT_TOTAL
            = min (s.fld F.STK_REPEAT_REPEAT_TOTAL + 1) (2 ^ F.STK_REPEAT_REPEAT_TOTAL.width - 1)
          ∧ t.fld F.STK_REPEAT_LOCAL_HOLD = min ((if s.stk.localTick then s.fld F.STK_REPEAT_LOCAL_HOLD else 0) + 1)
              (2 ^ F.STK_REPEAT_LOCAL_HOLD.width - 1)
          ∧ t.stk = { s.stk with back := .replicate 16 {}, localTick := true } ∧ t.bit F.STK_STAT_HOLDLAST = true)
    ∧ (s.stk.powered = false ∨ (∃ y : Zone, s.stk.orders[y] ≠ none) → Ends .holdLast s s)
    ∧ (s.stk.powered = true → Ends .backstop s (s.setBit F.STK_STAT_BACKSTOP true)
        ∧ ((∀ y : Zone, s.stk.orders[y] = none) →
            Ends (.sclkHoldover true) s { s with stk := { s.stk with sclkLost := false } })
        ∧ ((∃ y : Zone, s.stk.orders[y] ≠ none) → Gives (.sclkHoldover true) s fun t =>
            t.bit F.STK_STAT_HOLDLAST = false ∧ Only (· = F.STK_STAT_HOLDLAST.addr)
              { s with stk := { s.stk with sclkLost := false, localTick := false } } t)
        ∧ (s.stk.sclkLost = true → Ends (.sclkHoldover false) s s)
        ∧ (s.stk.sclkLost = false → Gives (.sclkHoldover false) s fun t =>
            t.bit F.STK_STAT_SCLK_HOLDOVER = true ∧ t.stk.sclkLost = true
              ∧ (∃ a, 199 * s.stk.slotMeasured ≤ 200 * (a + 1) ∧ 200 * a ≤ 201 * s.stk.slotMeasured
                  ∧ t.stk.frontSlotUnits = a * 2 ^ s.stk.n / 65536)
              ∧ Only (· = F.STK_STAT_SCLK_HOLDOVER.addr) { s with stk := t.stk, free := s.free + 1 } t))
    ∧ (s.stk.powered = false → Ends .backstop s s ∧ ∀ back, Ends (.sclkHoldover back) s s)

/-! ### Rails and PMBus (R94 to R121) -/

/-- The bus of regulator `t` is free after a transaction, what waits there now is served first, and the run of abandoned
transactions of a zone's regulator ends (R109, R110, R112). -/
def Sys2Proof.Machine.State.freeBus (s : State) (t : PmTarget) : State :=
  busFree t (match t with
    | .zone z => s.updRail z fun r => { r with fail48 := 0 }
    | .logic _ => s)

/-- The rows of R107, with the regulator each addresses and its command code. -/
def Sys2Proof.Machine.pmRows (z : Zone) (x : PmTarget) (i : Fin 8) (on : Bool) (r : PmResult) : List (Instr × PmTarget × Nat) :=
  [ (.voutCommand x r, x, 0x21), (.readVout x r, x, 0x8B), (.statusWord x r, x, 0x79), (.statusVout x r, x, 0x7A)
  , (.readIout z r, .zone z, 0x8C), (.clearFaults z r, .zone z, 0x03), (.capability z r, .zone z, 0x19)
  , (.voutMode x r, x, 0x20), (.onOffConfig z r, .zone z, 0x02), (.voutMax z r, .zone z, 0x24)
  , (.toffDelay z r, .zone z, 0x64), (.operation i on r, .logic i, 0x01) ]

/-- A failed attempt of any transaction counts on its bus and is repeated; the third abandons it with event 48, which
names bus, address and command code, that of PAGE where PAGE failed. One that succeeds frees the bus and counts nothing.
An attempt that the order of R110 keeps waiting, or to a bus the device does not drive, changes nothing (R107, R109,
R110). The model's choice: the row of such an attempt does nothing, the retries of a transaction come before any other,
and what waits was chosen when the bus became idle (log 87); which buses are driven when (log 92). -/
def Obligations.PmbusAttempts : Prop :=
  ∀ (z : Zone) (x : PmTarget) (i : Fin 8) (on : Bool) (s : State),
    let due (p : Instr × PmTarget × Nat) : Prop :=
      admitted s p.2.1 p.2.2 = true ∧ (p.2.2 = 0x8C → ioutDue s z = true)
    let fails (p : Instr × PmTarget × Nat) (code : Nat) : Prop :=
      let b := busOf p.2.1
      let n := failsBefore s p.2.1 code
      Gives p.1 s fun t => t.fld (nakFld b) = min (s.fld (nakFld b) + 1) 255
        ∧ (n < 2 → t.rail.bus[b] = some ⟨p.2.1, code, n + 1⟩)
        ∧ (2 ≤ n → t.rail.bus[b] = none ∧ (s.mode.dieOn = true →
            t.reg (0x30100 + 4 * 48) = BitVec.ofNat 32 (b.val + addrOf s p.2.1 * 256 + code * 65536)))
    (∀ p ∈ pmRows z x i on .failed, due p → fails p p.2.2)
    ∧ (∀ p ∈ pmRows z x i on .pageFailed, due p → isPaged s p.2.1 = true → failsBefore s p.2.1 p.2.2 = 0 → fails p 0)
    ∧ (∀ v, ∀ p ∈ pmRows z x i on (.ok v), due p → Gives p.1 s fun t =>
        t.rail.bus[busOf p.2.1] = none ∧ t.reg 0x140008 = s.reg 0x140008)
    ∧ (∀ r, ∀ p ∈ pmRows z x i on r, ¬ due p → Ends p.1 s s ∨ Ends p.1 s (calWatch s))

/-- A regulator judged faulty with source `src`: its zone is crossed over or stranded (R112, R113, R116). -/
def Sys2Proof.Machine.nowFaulty (z : Zone) (src : Nat) (s t : State) : Prop :=
  t.fld (F.RAIL_ZSTAT_FAULT_SRC z.val) = src ∧ (t.rail.z[z]).faulty = true
    ∧ ((s.rail.z[z]).faulty = false → isCrossed t z = true ∨ isStranded t z = true)

/-- What a transaction that succeeds does to a zone: VOUT_COMMAND starts the settle check and the polls of a sequence,
READ_VOUT within ±1 % ends it and sets VERIFIED, STATUS_WORD may judge the regulator faulty, READ_IOUT is held and the
next zone's is due, CLEAR_FAULTS is step 1 of a release and a retry, and CAPABILITY, VOUT_MODE, ON_OFF_CONFIG and
VOUT_MAX fail a regulator that does not read back as R107 wants (R95, R101, R106 to R108, R112, R116, R119, R122). The
model's choice: what a sequence polls and how it ends (log 89), that a regulator feeding its partner verifies both zones
(log 90), that a configuration read that does not fit is a failure of cause 5 (log 88), the order on the bus (log 87),
and VMAX_z rounded up (log 161). -/
def Sys2Proof.Machine.ZoneTransactions : Prop :=
  ∀ (z : Zone) (v : Half) (s : State),
    let r := s.rail.z[z]
    let u := s.freeBus (.zone z)
    let now (code : Nat) : Prop := admitted s (.zone z) code = true
    let v20 := v.toNat * 2 ^ (r.exp + 12).toNat * 50 / 4096
    let off : Prop := v.getLsbD 6 = true ∨ v.getLsbD 15 = true
    let polls : Prop := r.seq ≠ .none ∧ r.stage = .poll
    let bad : Prop := off ∨ (v.getLsbD 11 = true ∧ ¬ polls)
    let e := signed 5 v.toNat
    let linear : Prop := bitsOf v.toNat 7 5 = 0 ∧ -12 ≤ e ∧ e ≤ -6
    (now 0x21 →
      (r.wr = none → Ends (.voutCommand (.zone z) (.ok v)) s (calWatch u))
      ∧ (∀ w, r.wr = some w → w.dropped = true → Ends (.voutCommand (.zone z) (.ok v)) s (calWatch u))
      ∧ (∀ w, r.wr = some w → w.dropped = false → Gives (.voutCommand (.zone z) (.ok v)) s fun t =>
        let inSequence : Prop := r.seq ≠ .none ∧ r.stage = .write
        if inSequence ∨ zenLow s z = true then
          (t.rail.z[z]).wr = some { w with acked := true } ∧ t.bit (F.RAIL_ZREQ_CHECKING z.val) = true
            ∧ (inSequence → (t.rail.z[z]).reqB = true ∧ (t.rail.z[z]).stage = .poll)
        else (t.rail.z[z]).wr = none ∧ t.bit (F.RAIL_ZREQ_CHECKING z.val) = false))
    ∧ (now 0x8B →
      (r.wr = none → Ends (.readVout (.zone z) (.ok v)) s (calWatch u))
      ∧ (∀ w, r.wr = some w → w.acked = false → Ends (.readVout (.zone z) (.ok v)) s (calWatch u))
      ∧ (∀ w, r.wr = some w → w.acked = true → ¬ polls → withinPct 1 v.toNat (voutCode w.mv r.exp) = true →
        Gives (.readVout (.zone z) (.ok v)) s fun t => (t.rail.z[z]).wr = none
          ∧ t.fld (F.RAIL_ZREQ_VERIFIED z.val) = v20 % 2048 ∧ t.bit (F.RAIL_ZREQ_CHECKING z.val) = false
          ∧ (feedsPair s z = true → t.fld (F.RAIL_ZREQ_VERIFIED (partner z).val) = v20 % 2048))
      ∧ (∀ w, r.wr = some w → w.acked = true →
        withinPct 1 v.toNat (voutCode w.mv r.exp) = false ∨ (polls ∧ r.seq ≠ .retry ∧ r.pgood = false) →
        Ends (.readVout (.zone z) (.ok v)) s
          (calWatch (u.updRail z fun x => { x with vrd := some (v.toNat * 2 ^ (r.exp + 12).toNat) })))
      ∧ (∀ w, r.wr = some w → w.acked = true → polls → r.pgood = true ∨ r.seq = .retry →
        withinPct 1 v.toNat (voutCode w.mv r.exp) = true →
        Gives (.readVout (.zone z) (.ok v)) s fun t => (t.rail.z[z]).seq = .none ∧ (t.rail.z[z]).wr = none
          ∧ t.fld (F.RAIL_ZREQ_VERIFIED z.val) = v20 % 2048
          ∧ (r.seq = .bringup → (t.rail.z[z]).up = true ∧ (railState s z = 0 → railState t z = 1))
          ∧ (r.seq = .release → (t.rail.z[z]).faulty = false ∧ isCrossed t z = false
              ∧ railState t z = (if inService s z then 1 else 0))
          ∧ (r.seq = .retry → (t.rail.z[z]).faulty = false ∧ (t.rail.z[z]).back = true)))
    ∧ (now 0x79 →
      (polls → zenLow s z = false ∨ ¬ off → Gives (.statusWord (.zone z) (.ok v)) s fun t =>
        (t.rail.z[z]).pgood = !v.getLsbD 11)
      ∧ (r.seq = .bringup → r.faulty = false → zenLow s z = true → bad →
          Gives (.statusWord (.zone z) (.ok v)) s fun t => nowFaulty z 2 s t ∧ (t.rail.z[z]).seq = .none)
      ∧ (r.seq = .release ∨ r.seq = .retry → zenLow s z = true → bad → Gives (.statusWord (.zone z) (.ok v)) s fun t =>
          t.fld (F.RAIL_ZSTAT_FAULT_SRC z.val) = 2 ∧ (t.rail.z[z]).seq = .none ∧ (t.rail.z[z]).reqB = false
            ∧ (s.mode.dieOn = true → t.reg (0x30100 + 4 * 54) = BitVec.ofNat 32 z.val))
      ∧ (r.seq = .none → zenLow s z = true → bad → Gives (.statusWord (.zone z) (.ok v)) s (nowFaulty z 2 s))
      ∧ (zenLow s z = false ∨ ¬ bad → Gives (.statusWord (.zone z) (.ok v)) s fun t =>
        (t.rail.z[z]).faulty = r.faulty ∧ (¬ polls → (t.rail.z[z]).pgood = r.pgood) ∧ t.rail.statusDue = s.rail.statusDue.erase (.zone z)
          ∧ t.rail.voutDue = s.rail.voutDue ++ if v.getLsbD 15 then [.zone z] else []))
    ∧ (now 0x7A → Gives (.statusVout (.zone z) (.ok v)) s (fun t => t.rail.voutDue = s.rail.voutDue.erase (.zone z)))
    ∧ (now 0x8C → ioutDue s z = true → Ends (.readIout z (.ok v)) s (calWatch
        (let w := u.updRail z fun x => { x with iout := v }
         let b : Fin 2 := if z.val < 8 then 0 else 1
         { w with rail := { w.rail with ioutNext := s.rail.ioutNext.set b (s.rail.ioutNext[b] + 1)
                                        ioutDone := s.rail.ioutDone.set b s.seq.running } })))
    ∧ (now 0x03 →
      (r.stage ≠ .clear ∨ (r.seq ≠ .release ∧ r.seq ≠ .retry) → Ends (.clearFaults z (.ok v)) s (calWatch u))
      ∧ (r.stage = .clear → r.seq = .retry → Gives (.clearFaults z (.ok v)) s fun t =>
          (t.rail.z[z]).stage = .write ∧ t.fld (F.RAIL_ZREQ_TARGET z.val) = 300
            ∧ (t.rail.z[z]).wr = some { mv := 6000, acked := false, up := true, late := false })
      ∧ (r.stage = .clear → r.seq = .release → Gives (.clearFaults z (.ok v)) s fun t => (t.rail.z[z]).stage = .write
          ∧ (t.rail.z[z]).wr = some { mv := 20 * (if inService s z || inService s (partner z) then target s (partner z) else 300)
                                      acked := false, up := true, late := false }))
    ∧ (now 0x64 → Ends (.toffDelay z (.ok v)) s (calWatch u))
    ∧ (now 0x19 → (v.getLsbD 7 = true → Ends (.capability z (.ok v)) s (calWatch u))
      ∧ (v.getLsbD 7 = false → Gives (.capability z (.ok v)) s (nowFaulty z 5 s)))
    ∧ (now 0x20 → (linear → Ends (.voutMode (.zone z) (.ok v)) s (calWatch (u.updRail z fun x => { x with exp := e })))
      ∧ (¬ linear → Gives (.voutMode (.zone z) (.ok v)) s (nowFaulty z 5 s)))
    ∧ (now 0x02 → (bitsOf v.toNat 7 0 = 0x14 → Ends (.onOffConfig z (.ok v)) s (calWatch u))
      ∧ (bitsOf v.toNat 7 0 ≠ 0x14 → Gives (.onOffConfig z (.ok v)) s (nowFaulty z 5 s)))
    ∧ (now 0x24 → let max_ := voutCode (20 * s.fld (F.RAIL_ZCFG_VMAX z.val)) r.exp
       (v.toNat = max_ → Ends (.voutMax z (.ok v)) s (calWatch u))
       ∧ (v.toNat ≠ max_ → Gives (.voutMax z (.ok v)) s (nowFaulty z 5 s)))

/-- The logic rails: in WAKE, VOUT_MODE, VOUT_COMMAND and OPERATION on come before the polls, in which POWER_GOOD#
clear and a reading within ±3 % of nominal make the next rail good; later a rail no longer good is a supply fault,
which at its onset locks the device out with cause 0x5 and event 54; a rail that does not come up ends WAKE; OPERATION
off takes it down (R120, R121, R399). The model's choice: what each row does at which step and the ±3 % at one reading
(log 98), a fault taken once for each onset and what a failed WAKE leaves (log 92), and the record of the OPERATION
requests (logs 55 and 92). -/
def Sys2Proof.Machine.LogicRails : Prop :=
  ∀ (i : Fin 8) (v : Half) (s : State),
    let u := s.freeBus (.logic i)
    let mv := [3300, 1800, 1800, 750, 850, 800, 900, 5000].getD i.val 0
    let reading := v.toNat * 2 ^ ((s.rail.logicExp[i]) + 12).toNat * 1000
    let near : Prop := reading * 100 ≤ mv * 4096 * 103 ∧ mv * 4096 * 97 ≤ reading * 100
    let now (code : Nat) : Prop := admitted s (.logic i) code = true
    let at_ (n : Nat) : Prop := s.mode = .wake ∧ s.pwr.railsUp = i.val ∧ s.rail.logicStep = n
    let waking : Prop := at_ 3 ∧ s.rail.logicPg.getLsbD i.val = true ∧ near
    let fresh : Prop := s.mode.dieOn = true ∧ s.rail.logicBad.getLsbD i.val = false
    let step (n : Nat) (x : State) : State := { x with rail := { x.rail with logicStep := n } }
    let e := signed 5 v.toNat
    let linear : Prop := bitsOf v.toNat 7 5 = 0 ∧ -12 ≤ e ∧ e ≤ -6
    let lost (t : State) : Prop := lockedOut 5 t ∧ t.bit ⟨0x14000C, 8 + i.val, 1⟩ = true
      ∧ t.reg (0x30100 + 4 * 54) = BitVec.ofNat 32 (i.val + 17)
    (now 0x8B → (waking → Gives (.readVout (.logic i) (.ok v)) s fun t =>
        t.pwr.railsUp = i.val + 1 ∧ t.bit ⟨0x14000C, i.val, 1⟩ = true ∧ t.mode = .wake ∧ t.rail.logicStep = 0)
      ∧ (¬ waking → Ends (.readVout (.logic i) (.ok v)) s (calWatch u)))
    ∧ (now 0x79 → (at_ 3 → Gives (.statusWord (.logic i) (.ok v)) s fun t =>
        t.rail.logicPg.getLsbD i.val = !v.getLsbD 11
          ∧ ∀ j < 8, j ≠ i.val → t.rail.logicPg.getLsbD j = s.rail.logicPg.getLsbD j)
      ∧ (s.mode = .wake → ¬ at_ 3 → Gives (.statusWord (.logic i) (.ok v)) s fun t => t.rail.logicPg = s.rail.logicPg)
      ∧ (fresh → v.getLsbD 11 = true ∨ v.getLsbD 15 = true → Gives (.statusWord (.logic i) (.ok v)) s fun t => lost t
          ∧ (v.getLsbD 11 = true → t.bit ⟨0x14000C, i.val, 1⟩ = false))
      ∧ (s.mode.dieOn = true → v.getLsbD 11 = false → v.getLsbD 15 = false →
          Gives (.statusWord (.logic i) (.ok v)) s fun t => t.rail.logicBad.getLsbD i.val = false ∧ t.mode = s.mode))
    ∧ (now 0x7A → Gives (.statusVout (.logic i) (.ok v)) s (fun t => t.rail.voutDue = s.rail.voutDue.erase (.logic i)))
    ∧ (now 0x20 → (let w : State := { u with rail := { u.rail with logicExp := u.rail.logicExp.set i e } }
        (linear → at_ 0 → Ends (.voutMode (.logic i) (.ok v)) s (calWatch (step 1 w)))
        ∧ (linear → ¬ at_ 0 → Ends (.voutMode (.logic i) (.ok v)) s (calWatch w)))
      ∧ (¬ linear → Ends (.voutMode (.logic i) (.ok v)) s (calWatch u)))
    ∧ (now 0x21 → (at_ 1 → Ends (.voutCommand (.logic i) (.ok v)) s (calWatch (step 2 u)))
      ∧ (¬ at_ 1 → Ends (.voutCommand (.logic i) (.ok v)) s (calWatch u)))
    ∧ (now 0x01 →
      let asked (code : Byte) (x : State) : State := { x with pwr := { x.pwr with logicOps := s.pwr.logicOps ++ [(i, code)] } }
      (at_ 2 → Ends (.operation i true (.ok v)) s (asked 0x80 (step 3 u)))
      ∧ (¬ at_ 2 → Ends (.operation i true (.ok v)) s (asked 0x80 u))
      ∧ Ends (.operation i false (.ok v)) s (asked 0
        { u.setBit ⟨0x14000C, i.val, 1⟩ false with pwr := { s.pwr with railsUp := min s.pwr.railsUp i.val } }))
    ∧ (fresh → Gives (.logicSupplyFault i) s fun t => lost t ∧ t.rail.logicBad.getLsbD i.val = true)
    ∧ (¬ fresh → Ends (.logicSupplyFault i) s (calWatch s))
    ∧ (s.mode = .wake → s.pwr.railsUp = i.val → s.pwr.inReset = false → Gives (.logicRailTimeout i) s fun t =>
        t.mode = .sleep ∧ t.pwr.railsUp = 0 ∧ t.fld F.RAIL_LOGICSTAT_LPG = 0 ∧ t.fld F.AON_EVTLATCH_RAIL = i.val + 1
          ∧ (s.pwr.brownOut = false → (t.fld F.AON_EVTLATCH_LATCHED).testBit 3 = true))
    ∧ (s.mode ≠ .wake ∨ s.pwr.railsUp ≠ i.val ∨ s.pwr.inReset = true → Ends (.logicRailTimeout i) s s)

/-- PMBus transactions that succeed, to zone and logic regulators. -/
def Obligations.RegulatorTransactions : Prop := Sys2Proof.Machine.ZoneTransactions ∧ Sys2Proof.Machine.LogicRails

/-- Rail monitors and timers: a settle failure raises event 49, and the third upward one in a row is a fault; an alert
queues a STATUS read of every regulator of its bus; under- and overvoltage; the retry of a stranded zone; a bring-up or
release that takes too long (R95, R101, R110, R112, R116, R117, R119). The model's choice: which sequence takes which
limit and how it ends (log 89), an alert of a bus that is not driven ignored (log 92), the frame of a retry compared
modulo 2^32 (log 94), the target before a downward move kept until that move is done (log 97), and an upward write that
ends such a move (log 147). -/
def Obligations.RailMonitors : Prop :=
  ∀ (z : Zone) (mv : Nat) (b : Fin 3) (s : State),
    let r := s.rail.z[z]
    (∀ w, r.wr = some w → polling r = .none → w.acked = true → w.late = false → Gives (.settleFailure z) s fun t =>
        t.fld (F.RAIL_ZSTAT_SETTLE_FAIL z.val) = min (s.fld (F.RAIL_ZSTAT_SETTLE_FAIL z.val) + 1) 255
          ∧ (s.mode.dieOn = true → t.reg (0x30100 + 4 * 49) = BitVec.ofNat 32 z.val)
          ∧ (w.up = true → 2 ≤ r.upFails → nowFaulty z 3 s t)
          ∧ (w.up = true → r.upFails < 2 → (t.rail.z[z]).upFails = r.upFails + 1 ∧ (t.rail.z[z]).faulty = r.faulty))
    ∧ (r.wr = none ∨ polling r = .bringup ∨ polling r = .release ∨ (polling r = .none ∧ ∃ w, r.wr = some w ∧ (w.acked = false ∨ w.late = true)) →
        Ends (.settleFailure z) s (calWatch s))
    ∧ (∀ w, polling r = .retry → r.wr = some w → if w.acked then Gives (.settleFailure z) s fun t =>
          (t.rail.z[z]).seq = .none ∧ (t.rail.z[z]).reqB = false ∧ (t.rail.z[z]).retryAt = r.retryAt
        else Ends (.settleFailure z) s (calWatch s))
    ∧ (busDriven s b = false → Ends (.pmbAlert b) s s)
    ∧ (busDriven s b = true → Gives (.pmbAlert b) s (fun t =>
        (∀ x, x ∈ t.rail.statusDue ↔ busOf x = b ∨ x ∈ s.rail.statusDue)
        ∧ (∀ c, c ≠ b → t.rail.queued[c] = s.rail.queued[c])
        ∧ Only (fun _ => False) { s with rail := { s.rail with statusDue := t.rail.statusDue, queued := t.rail.queued,
                                                               chosen := t.rail.chosen } } t))
    ∧ (let low : Prop := zenLow s z = true ∧ isCrossed s z = false
          ∧ mv * 10 < 20 * min (s.fld (F.RAIL_ZREQ_VERIFIED z.val)) (s.fld (F.RAIL_ZREQ_TARGET z.val)) * 9
       (low → Gives (.railUndervoltage z mv) s (nowFaulty z 1 s))
       ∧ (¬ low → Ends (.railUndervoltage z mv) s (calWatch s)))
    ∧ (let moved := (s.rail.z[feeder s z]).movedFrom
       let ref := 20 * (if moved = 0 then s.fld (F.RAIL_ZREQ_TARGET z.val) else moved)
       let high : Prop := (ref * 11 < mv * 10 ∧ ref + 1000 < mv) ∨ 27600 < mv
       (high → isLocked s z = false → Gives (.railOvervoltage z mv) s fun t =>
          isLocked t z = true ∧ t.fld F.SAFE_LOCK_LAST_CAUSE = 0xB ∧ t.fld F.SAFE_LOCK_LAST_ZONE = z.val
            ∧ t.fld (F.RAIL_ZSTAT_FAULT_SRC z.val) = 6 ∧ t.bit (F.RAIL_ZSTAT_OVLOCK z.val) = true
            ∧ srcEnabled t z = false ∧ zenLow t z = false
            ∧ (s.mode.dieOn = true → t.reg (0x30100 + 4 * 50) = BitVec.ofNat 32 (z.val + 32)))
       ∧ (high → isLocked s z = true → Gives (.railOvervoltage z mv) s fun t =>
          t.fld (F.RAIL_ZSTAT_FAULT_SRC z.val) = 6 ∧ t.bit (F.RAIL_ZSTAT_OVLOCK z.val) = true
            ∧ t.fld F.SAFE_LOCK_LOCK_SEQ = s.fld F.SAFE_LOCK_LOCK_SEQ
            ∧ (s.mode.dieOn = true → t.reg (0x30100 + 4 * 50) = BitVec.ofNat 32 (z.val + 32)))
       ∧ (¬ high → Ends (.railOvervoltage z mv) s (calWatch s)))
    ∧ (let frame := s.reg 0x80014
       let retries : Prop := isStranded s z = true ∧ r.faulty = true ∧ r.seq = .none
          ∧ (s.mode = .dark ∨ s.mode = .lowlight ∨ s.mode = .beam ∨ s.mode = .simplex ∨ s.mode = .service)
          ∧ 0 ≤ (frame - BitVec.ofNat 32 r.retryAt).toInt
       (retries → Gives (.strandedRetry z) s fun t => (t.rail.z[z]).seq = .retry ∧ (t.rail.z[z]).retryAt = frame.toNat + 100
          ∧ (t.rail.z[z]).stage = .clear ∧ t.fld (F.RAIL_ZREQ_VERIFIED z.val) = 0)
       ∧ (¬ retries → Ends (.strandedRetry z) s s))
    ∧ (r.seq = .bringup → r.stage ≠ .waits → r.faulty = false → Gives (.bringupTimeout z) s fun t =>
        nowFaulty z 7 s t ∧ (t.rail.z[z]).reqB = false)
    ∧ (r.seq = .bringup → r.stage = .waits → Ends (.bringupTimeout z) s (calWatch s))
    ∧ (r.seq = .release → Gives (.bringupTimeout z) s fun t => (t.rail.z[z]).seq = .none ∧ (t.rail.z[z]).reqB = false
        ∧ t.fld (F.RAIL_ZSTAT_FAULT_SRC z.val) = 7 ∧ (t.rail.z[z]).faulty = true)
    ∧ (r.seq = .none ∨ r.seq = .retry → Ends (.bringupTimeout z) s (calWatch s))

/-! ### The sequencer and the guard window (R26, R39 to R64, R84, R85, R288, R303, R363) -/

/-- No change of mode or role is due at the next tick. -/
abbrev Sys2Proof.Machine.calm (s : State) : Prop :=
  s.mode ≠ .hold ∧ s.pwr.req = none ∧ s.therm.stopDue = false ∧ s.seq.third = false ∧ noHm s = false ∧ s.dplx.fo = none
    ∧ s.dplx.hold3 = none ∧ s.dplx.progLoad = false ∧ s.dplx.swap = false ∧ s.dplx.mmResync = false ∧ s.dplx.hot = none
    ∧ s.dplx.rsDone = false ∧ s.dplx.rsQueue = [] ∧ s.dplx.relockWait = [] ∧ s.pwr.simplexWait = false ∧ s.cal.zone = none

/-- A tick counts SEQ_FRAME from T_0, falls on its edge and raises event 0; the stack takes the order all its lanes
agree on: SWAP brings a complete frame in, REPEAT or no order keeps the front buffer; the back buffers are emptied,
and the next frame is composed while an engine is ACTIVE in a mode that composes (R22, R39 to R42, R84, R85, R147,
R285). The model's choice: NALLOW above 8 counts as 8 (log 100), n_allow is taken at the swap (log 25), and the edge
stands at the tick's due time or, where the rows have come later, at theirs (log 2). -/
def Obligations.TickMovesTheFrame : Prop :=
  (∀ (env : TickEnv) (s : State), s.seq.running = false → Ends (.tick env) s s)
  ∧ ∀ s : State, s.seq.running = true → calm s → s.mode.dieOn = true → Gives (.tick ⟨false, 0⟩) s fun t =>
    let frame := if s.seq.started then s.reg 0x80014 + 1 else 0
    let composed : Prop := t.mode = s.mode ∧ t.ffn.composing = composes s ∧ t.ffn.frm = frame + 1
    t.reg 0x80014 = frame ∧ t.seq.started = true ∧ t.seq.edge = max s.now ((s.seq.due + 128) / 256)
      ∧ t.now = t.seq.edge ∧ (∀ c : Ctx, s.bound c = true → (t.ctx[c]).pend.getLsbD 0 = true)
      ∧ (s.stk.powered = true → t.stk.back = .replicate 16 {} ∧ t.stk.orders = .replicate 16 none ∧ t.stk.trimEff = s.stk.trim)
      ∧ ((∀ z : Zone, s.stk.orders[z] = none) → t.stk.front = s.stk.front ∧ composed)
      ∧ (∀ k : OrderBlock, s.stk.powered = true → s.stk.sclkLost = false → (∀ z : Zone, s.stk.orders[z] = some k) →
          (k.b1.toNat % 4 ≠ 1 → t.stk.front = s.stk.front ∧ composed
            ∧ t.fld F.STK_REPEAT_REPEAT_TOTAL = min (s.fld F.STK_REPEAT_REPEAT_TOTAL + 1) 65535)
          ∧ (k.b1.toNat % 4 = 1 → (∀ z : Zone, k.darkmask.getLsbD z.val = true ∨ (s.stk.back[z]).tiles.length = 32) →
              t.stk.front = frontOf s k ∧ composed ∧ t.reg 0x80018 = frame ∧ t.fld F.SEQ_UNDERRUN_UR_CONSEC = 0
                ∧ t.bit F.STK_STAT_BACKSTOP = false ∧ (∀ z : Zone, t.stk.nallow[z] = min 8 (k.b1.toNat / 16))
                ∧ (∀ z : Zone, k.darkmask.getLsbD z.val = false → t.stk.icode[z] = (s.stk.back[z]).icode.toNat)))

/-- A calm tick of a running sequencer, at which no order stands and no mask of SERVICE changes. -/
abbrev Sys2Proof.Machine.quietTick (s : State) : Prop :=
  s.seq.running = true ∧ s.mode.dieOn = true ∧ (∀ z : Zone, s.stk.orders[z] = none)
    ∧ (s.mode = .service → s.pwr.svcMask = BitVec.ofNat 16 (s.fld F.PWR_SVC_SVC_ZMASK))

/-- The frame whose composition a tick of `s` starts (R22). -/
def Sys2Proof.Machine.nextFrame (s : State) : Word := (if s.seq.started then s.reg 0x80014 + 1 else 0) + 1

/-- At the latch edge of T_{j−1} the set of a context whose APPLY_FRAME is j is applied: its words, layers and angles
take force, a released layer has no owner, it is counted with event 1, and it pends no longer; a set for another frame
waits (R22, R57, R139, R471). -/
def Sys2Proof.Machine.CommitsApply : Prop :=
  ∀ (c : Ctx) (k : Commit) (s : State), quietTick s → calm s → (s.ctx[c]).commit = some k → Gives (.tick ⟨false, 0⟩) s fun t =>
    let alone : Prop := ∀ d : Ctx, d ≠ c → ∀ x, (s.ctx[d]).commit = some x → x.applyFrame ≠ nextFrame s
    (k.applyFrame ≠ nextFrame s → (t.ctx[c]).commit = some k ∧ (t.ctx[c]).lastApplied = (s.ctx[c]).lastApplied
        ∧ t.fld (F.SEQ_COMMITSTAT_APPLIED_CNT c.val) = s.fld (F.SEQ_COMMITSTAT_APPLIED_CNT c.val))
      ∧ (k.applyFrame = nextFrame s → (t.ctx[c]).commit = none ∧ (t.ctx[c]).lastApplied = nextFrame s
          ∧ t.fld (F.SEQ_COMMITSTAT_APPLIED_CNT c.val) = (s.fld (F.SEQ_COMMITSTAT_APPLIED_CNT c.val) + 1) % 65536
          ∧ (s.bound c = true → (t.ctx[c]).pend.getLsbD 1 = true))
      ∧ (k.applyFrame = nextFrame s → alone →
          (∀ p, k.set.pitchYaw = some p → t.ffn.pitch = p.1 ∧ t.ffn.yaw = p.2)
          ∧ (k.set.pitchYaw = none → t.ffn.pitch = s.ffn.pitch ∧ t.ffn.yaw = s.ffn.yaw)
          ∧ ((k.set.words.map Prod.fst).Nodup → ∀ a v, (a, some v) ∈ k.set.words → t.reg a &&& rwsMask a = v &&& rwsMask a)
          ∧ ((k.set.layers.map Prod.fst).Nodup → ∀ l p, (l, p) ∈ k.set.layers → l < 16 →
              if (byteAt p 0).getLsbD 5 then (t.br.owner)[Fin.ofNat 16 l] = none ∧ Sparse.get (Sparse.all []) t.br.layers l = []
              else (t.br.owner)[Fin.ofNat 16 l] = (s.br.owner)[Fin.ofNat 16 l] ∧ Sparse.get (Sparse.all []) t.br.layers l = p))

/-- A tick latches the latest complete list of every context; lists that together hold at most 128 entries are applied
whole, never more than 128 are, and LIST_OVF shows when they do not fit (R21 to R23). A fade takes one step, in whole
counts from Φ_0, a logarithmic one within ±1 count, and ends at its target with event 6; a fade committed for the frame
starts from the factor in force (R63, R226). That a logarithmic step is a free choice within the count is log 16, the
model's choice. -/
def Sys2Proof.Machine.ListsAndFades : Prop :=
  ∀ s : State, quietTick s → calm s → Gives (.tick ⟨false, 0⟩) s fun t =>
    let list (c : Ctx) : List ObjEntry := match (s.ctx[c]).objNew with | some l => l | none => (s.ctx[c]).objList
    let total := (allCtx.map fun c => (list c).length).sum
    (∀ c : Ctx, (t.ctx[c]).objList = list c ∧ (t.ctx[c]).objNew = none)
      ∧ (total ≤ 128 → ∀ c : Ctx, (t.ctx[c]).objApplied = list c)
      ∧ (128 < total → t.bit F.SEQ_EVTCAUSE_LIST_OVF = true)
      ∧ t.fld F.FFN_OBJSTAT_LATCHED = (allCtx.map fun c => ((t.ctx[c]).objApplied).length).sum
      ∧ t.fld F.FFN_OBJSTAT_LATCHED ≤ 128
      ∧ ((∀ c : Ctx, ∀ k, (s.ctx[c]).commit = some k → k.applyFrame ≠ nextFrame s) → ∀ (z : Zone),
          (s.ffn.fade[z] = none → t.ffn.phi[z] = s.ffn.phi[z] ∧ t.ffn.fade[z] = none)
          ∧ ∀ f, s.ffn.fade[z] = some f →
            (f.frames ≤ f.i + 1 → t.ffn.phi[z] = f.target ∧ t.ffn.fade[z] = none
              ∧ (f.all = false → s.bound f.ctx = true → (t.ctx[f.ctx]).pend.getLsbD 6 = true))
            ∧ (f.i + 1 < f.frames → t.ffn.fade[z] = some { f with i := f.i + 1 }
              ∧ (f.log = false → t.ffn.phi[z] = ((f.phi0 : Int) + divAway (((f.target : Int) - f.phi0) * (f.i + 1 : Nat)) f.frames).toNat)
              ∧ (f.log = true → f.phi0 < 65536 → f.target < 65536 →
                  let m := 2 ^ f.frames * (max f.phi0 16 ^ (f.frames - (f.i + 1)) * max f.target 16 ^ (f.i + 1))
                  ∃ e : Nat, (2 * e - 1) ^ f.frames ≤ m ∧ m ≤ (2 * e + 1) ^ f.frames
                    ∧ t.ffn.phi[z] ≤ e + 1 ∧ e ≤ t.ffn.phi[z] + 1)))
      ∧ (∀ (c : Ctx) (k : Commit) (z : Zone) (v : FadeEntry), (s.ctx[c]).commit = some k → k.applyFrame = nextFrame s →
          (∀ d : Ctx, d ≠ c → (s.ctx[d]).commit = none) → k.set.fades = [(z.val, some v)] →
          (v.frames ≤ 1 → t.ffn.phi[z] = v.target ∧ t.ffn.fade[z] = none)
          ∧ (1 < v.frames → t.ffn.fade[z] = some ⟨s.ffn.phi[z], v.target, v.frames, 1, v.log, c, false⟩
              ∧ (v.log = false → t.ffn.phi[z]
                  = ((s.ffn.phi[z] : Int) + divAway ((v.target : Int) - s.ffn.phi[z]) v.frames).toNat)))

/-- What a tick latches: commits, object lists, fades. -/
def Obligations.TickLatchesInputs : Prop := Sys2Proof.Machine.CommitsApply ∧ Sys2Proof.Machine.ListsAndFades

/-- A requested mode is entered at the first tick at which its preparation is complete: every zone of LOWLIGHT, for
BEAM every zone, in service, faulty, stranded or locked out, and the engines loaded where BEAM is asked for from
LOWLIGHT. Event 51 and the final record follow; without a STANDBY engine, or from LOWLIGHT, BEAM enters SIMPLEX;
LOWLIGHT ticks every 10 ms, CALIBRATE stops the sequencer, DARK cuts every zone (R395 to R398). That locked-out zones
count as prepared is log 93, and SIMPLEX without a STANDBY engine log 136, the model's choices. -/
def Sys2Proof.Machine.RequestedModeIsEntered : Prop :=
  ∀ (r : ModeReq) (s : State), quietTick s → calm { s with pwr := { s.pwr with req := none } } → s.pwr.req = some r →
    r.target = .dark ∨ r.target = .lowlight ∨ r.target = .beam ∨ r.target = .service ∨ r.target = .calibrate →
    let prepared (z : Zone) : Prop :=
      (s.rail.z[z]).up = true ∨ (s.rail.z[z]).faulty = true ∨ isStranded s z = true ∨ isLocked s z = true
    let ready : Prop :=
      (r.target = .lowlight → ∀ z : Zone, (s.fld F.SAFE_CFG_LL_ZMASK).testBit z.val = true → prepared z)
      ∧ (r.target = .beam → (∀ z : Zone, prepared z)
          ∧ (s.mode = .lowlight → ∀ e : Side, s.dplx.loading &&& unitBit (unitOfSide e) = 0))
    let reached : Mode := if r.target = .beam ∧ (s.mode = .lowlight ∨ s.withRole .standby = none) then .simplex else r.target
    Gives (.tick ⟨false, 0⟩) s fun t =>
      (¬ ready → t.mode = s.mode ∧ t.pwr.req = some r ∧ t.long = s.long)
      ∧ (ready → t.mode = reached ∧ t.pwr.req = none ∧ t.long = none
          ∧ t.reg (0x30100 + 4 * 51) = BitVec.ofNat 32 (reached.code + 16 * s.mode.code)
          ∧ t.fld F.PWR_MODE_PREV = s.mode.code ∧ t.fld F.PWR_MODE_CAUSE = 0
          ∧ (∀ l i, s.long = some l → s.finals = [] → unsent s l.ctx < 32 → s.ifaceOf l.ctx = some i →
              ⟨l.ctx, finalMsg l 0 (toLe 4 reached.code)⟩ ∈ (t.outq[ifaceIx i]).resps)
          ∧ (r.target = .dark → ∀ z : Zone, srcEnabled t z = false)
          ∧ (r.target = .lowlight → t.fld F.SEQ_PERIOD_PERIOD = 256000000)
          ∧ (r.target = .calibrate → t.seq.running = false))

/-- T_f of a failure recognised with cause `k`: the STANDBY engine becomes ACTIVE, the stack keeps the frame it shows
whatever it was ordered, event 26 carries the cause, no abort is counted, and BEAM becomes SIMPLEX (R304, R305). -/
def Sys2Proof.Machine.FailoverTick : Prop :=
  ∀ (k : Nat) (e : Side) (s : State), s.seq.running = true → s.mode.dieOn = true → k < 16 →
    calm { s with dplx := { s.dplx with fo := none } } → s.dplx.fo = some k → s.withRole .standby = some e →
    Gives (.tick ⟨false, 0⟩) s fun t =>
      (t.eng e).role = .active ∧ t.dplx.fo = none ∧ t.bit F.DPLX_STAT_ACT_ENG = (e == .b) ∧ t.tl.selB = (e == .b)
        ∧ t.fld F.DPLX_FOVER_LAST_CAUSE = k ∧ t.fld F.DPLX_FOVER_FO_CNT = min (s.fld F.DPLX_FOVER_FO_CNT + 1) 65535
        ∧ t.reg (0x30100 + 4 * 26) = BitVec.ofNat 32 k ∧ t.stk.front = s.stk.front
        ∧ t.fld F.SEQ_UNDERRUN_UR_TOTAL = s.fld F.SEQ_UNDERRUN_UR_TOTAL
        ∧ (s.mode = .beam → t.mode = .simplex ∧ t.fld F.PWR_MODE_CAUSE = 2) ∧ (s.mode ≠ .beam → t.mode = s.mode)

/-- The throttle of every zone follows its junction, brought to 0.1 °C: 65,535 up to T_THR, less by KTH for every tenth
above it, never below 16,384; event 56 with cause 0x1 when a first zone is throttled (R387). -/
def Sys2Proof.Machine.TickThrottles : Prop :=
  ∀ s : State, quietTick s → calm s → Gives (.tick ⟨false, 0⟩) s fun t =>
    (∀ z : Zone,
      let d : Int := t.fldI (F.THRM_ZT_TJ z.val) - 10 * t.fld F.THRM_CTRL_T_THR
      let tj := t.therm.tj[z]
      (-3355443 ≤ tj → tj ≤ 3355340 → 2048 * t.fldI (F.THRM_ZT_TJ z.val) ≤ 20 * tj + 1024
          ∧ 20 * tj < 2048 * t.fldI (F.THRM_ZT_TJ z.val) + 1024
          ∧ t.ffn.scale[z] = (if d ≤ 0 then 65535 else max 16384 (65535 - 65535 * t.fld F.THRM_CTRL_KTH * d.toNat / 10000)))
        ∧ t.fld (F.THRM_ZT_SCALE z.val) = t.ffn.scale[z] % 65536
        ∧ (t.fld F.THRM_STAT_THR_ZONES).testBit z.val = decide (t.ffn.scale[z] < 65535))
      ∧ (s.fld F.THRM_STAT_THR_ZONES = 0 → t.fld F.THRM_STAT_THR_ZONES ≠ 0 →
          t.reg (0x30100 + 4 * 56) = BitVec.ofNat 32 (65536 + t.fld F.THRM_STAT_THR_ZONES))

/-- A repeat moves no rail. At a swap a tracked rail on its own regulator falls to what the incoming frame needs when
that is lower by DOWN_HYST or more, and else stays (R100). -/
def Sys2Proof.Machine.TickMovesRails : Prop :=
  (∀ s : State, quietTick s → calm s → (∀ y : Zone, (s.rail.z[y]).back = false ∧ ¬ ((s.rail.z[y]).seq = .bringup ∧ (s.rail.z[y]).stage = .waits)) →
    Gives (.tick ⟨false, 0⟩) s fun t => ∀ z : Zone,
      t.fld (F.RAIL_ZREQ_TARGET z.val) = s.fld (F.RAIL_ZREQ_TARGET z.val) ∧ (t.rail.z[z]).wr = (s.rail.z[z]).wr)
  ∧ ∀ (k : OrderBlock) (z : Zone) (v : Nat) (s : State), s.seq.running = true → calm s → s.stk.powered = true →
    s.stk.sclkLost = false → (∀ y : Zone, s.stk.orders[y] = some k) → k.b1.toNat % 4 = 1 →
    (∀ y : Zone, k.darkmask.getLsbD y.val = true ∨ (s.stk.back[y]).tiles.length = 32) →
    s.mode = .beam ∨ s.mode = .simplex → isStranded s z = false → isCrossed s z = false → isCrossed s (partner z) = false →
    (s.rail.z[z]).seq = .none → (s.rail.z[z]).reqNext = some v →
    (∀ y : Zone, (s.rail.z[y]).back = false ∧ ¬ ((s.rail.z[y]).seq = .bringup ∧ (s.rail.z[y]).stage = .waits)) →
    Gives (.tick ⟨false, 0⟩) s fun t =>
      let old := s.fld (F.RAIL_ZREQ_TARGET z.val)
      let falls : Prop := v + s.fld F.RAIL_CTRL_DOWN_HYST ≤ old ∧ v < old
      (t.rail.z[z]).reqDisp = v ∧ (t.rail.z[z]).reqNext = none
        ∧ (falls → t.fld (F.RAIL_ZREQ_TARGET z.val) = v
            ∧ (t.rail.z[z]).wr = some { mv := 20 * v, acked := false, up := false, late := false })
        ∧ (¬ falls → t.fld (F.RAIL_ZREQ_TARGET z.val) = old ∧ (t.rail.z[z]).wr = (s.rail.z[z]).wr)

/-- In legacy mode a difference of the two channels' verdicts counts at the tick, and the second in a row locks the
device out with cause 0x7 and event 39; a tick without one starts the run again (R330). That the row gives the verdict
bits which differ is log 28, the model's choice. -/
def Sys2Proof.Machine.LegacyComparison : Prop :=
  ∀ (flips : BitVec 21) (s : State), quietTick s → calm s → s.bit F.SAFE_STAT_ARCH_LEGACY = true →
    (flips = 0 → Gives (.tick ⟨false, 0⟩) s fun t => t.safe.cmpRun = 0
      ∧ t.fld F.SAFE_LEGACY_CMP_CNT = s.fld F.SAFE_LEGACY_CMP_CNT)
    ∧ (flips ≠ 0 → Gives (.tick ⟨false, flips⟩) s fun t =>
        t.fld F.SAFE_LEGACY_CMP_CNT = min (s.fld F.SAFE_LEGACY_CMP_CNT + 1) 255
          ∧ t.safe.cmpRun = min 2 (s.safe.cmpRun + 1)
          ∧ (s.safe.cmpRun = 1 → t.mode = .safeDark ∧ t.bit F.SAFE_STAT_DEV_LOCK = true ∧ t.fld F.SAFE_LOCK_LAST_CAUSE = 7
              ∧ t.bit F.SAFE_LOCK_LAST_DEV = true ∧ (∀ z : Zone, srcEnabled t z = false ∧ zenLow t z = false)
              ∧ t.reg (0x30100 + 4 * 39) = 0)
          ∧ (s.safe.cmpRun ≠ 1 → t.mode = s.mode ∧ t.bit F.SAFE_STAT_DEV_LOCK = s.bit F.SAFE_STAT_DEV_LOCK))

/-- What a tick changes beside the frame: requested modes, the active engine, the throttle, rails, legacy verdicts. -/
def Obligations.TickChangesModesAndRails : Prop :=
  Sys2Proof.Machine.RequestedModeIsEntered ∧ Sys2Proof.Machine.FailoverTick ∧ Sys2Proof.Machine.TickThrottles
    ∧ Sys2Proof.Machine.TickMovesRails ∧ Sys2Proof.Machine.LegacyComparison

/-- FSYNC_IN: an edge to the level that FSI_POL does not select, a pulse below 1 µs, or one while the sequencer does
not steer, is ignored; a valid edge gives the phase error to the nearest tick and its interval; in Locked an interval
out of range enters Holdover with event 4. At the composition deadline an unfinished composition sets CD_LATE and
raises event 7 (R43, R47, R48, R60). The model's choice: when edges are ignored (log 12), which tick the phase error is
measured to and its rounding (log 10), and when four intervals agree within ±0.5 % (log 11). -/
def Obligations.FsyncAndDeadline : Prop :=
  (∀ (high : Bool) (at_ w : Nat) (s : State),
    let steers : Prop := s.seq.running = true ∧ high ≠ s.bit F.SEQ_CTRL_FSI_POL ∧ 1000 ≤ w ∧ s.mode ≠ .lowlight ∧ s.fld F.SEQ_LOCKSTAT_STATE ≠ 0
    let target : Int := 256 * ((at_ : Int) + 100 * s.fldI F.SEQ_FSYNC_FSI_OFFSET)
    let e1 : Int := 256 * (s.seq.edge : Int) - target
    let e2 : Int := (s.seq.due : Int) - target
    let err := divRound (if e1.natAbs ≤ e2.natAbs then e1 else e2) 256
    (¬ steers → Ends (.fsyncInEdge high at_ w) s s)
    ∧ (steers → s.seq.lastEdge = none → Ends (.fsyncInEdge high at_ w) s
        { s.setFldI F.SEQ_LOCKSTAT_PHASE_ERR err with
            now := max s.now at_, seq := { s.seq with lastEdge := some at_, gotEdge := true } })
    ∧ (∀ l, steers → s.seq.lastEdge = some l → Gives (.fsyncInEdge high at_ w) s fun t =>
        t.seq.lastEdge = some at_ ∧ t.seq.gotEdge = true ∧ t.seq.intervals = ((at_ - l) :: s.seq.intervals).take 4
          ∧ t.fld F.SEQ_LOCKSTAT_PHASE_ERR = (err.emod (2 ^ 24)).toNat
          ∧ (s.fld F.SEQ_LOCKSTAT_STATE = 2 → intervalOk (resOf s) (at_ - l) = false →
              t.fld F.SEQ_LOCKSTAT_STATE = 3 ∧ t.fld F.SEQ_EVTCAUSE_LOSS_CAUSE = 3
                ∧ (s.mode.dieOn = true → t.reg (0x30100 + 4 * 4) = 3))
          ∧ (s.fld F.SEQ_LOCKSTAT_STATE = 3 →
              let last := t.seq.intervals
              let agree : Prop := last.length = 4 ∧ (∀ i ∈ last, intervalOk (resOf s) i = true)
                ∧ ∀ i ∈ last, ∀ j ∈ last, 200 * (i - j) ≤ j
              (agree → t.fld F.SEQ_LOCKSTAT_STATE = 1) ∧ (¬ agree → t.fld F.SEQ_LOCKSTAT_STATE = 3))))
  ∧ ∀ s : State,
    let u : State := { s with now := max s.now (s.seq.edge + s.fld F.SEQ_DEADLINE_CD_FRAC * activeUnits s / 65536) }
    let live : Prop := s.seq.running = true ∧ s.seq.started = true
    (¬ live → Ends .compositionDeadline s s)
    ∧ (live → s.ffn.composing = true → handedAll s = false →
        Ends .compositionDeadline s (raiseAll 7 1 (u.setBit F.SEQ_EVTCAUSE_CD_LATE true)))
    ∧ (live → s.ffn.composing = false ∨ handedAll s = true → Ends .compositionDeadline s u)

/-- GUARD_WINDOW orders a swap when every zone is complete with MATCH or dark; a late frame is aborted with event 2
naming the late zones, or, when the standby has packed it, the active engine has failed. Every lane sends its zone's
order with the n_allow of a rail-limited zone, but for a lane in electrical idle, the stack sends one LSTAT record per
zone, and every window reads the display signatures: while an order was sent, a zone whose signature differs for the
second frame freezes (R26, R61, R66, R103, R288, R290, R291, R303, R304, R363). The model's choice: which frames are
judged (log 22), and what a window without a running composition orders and that every lane of the selected side sends
(log 23). -/
def Obligations.GuardWindowOrders : Prop :=
  ∀ (env : GuardEnv) (s : State),
    let live : Prop := s.seq.running = true ∧ s.seq.started = true
    let judged : Prop := s.ffn.composing = true ∧ s.dplx.fo = none ∧ noHm s = false
    let late := zmask fun z => !zoneDone s z
    let allowed (z : Zone) : Nat := if upwardDue s z then min s.seq.nallow[z] (allowOf s z) else s.seq.nallow[z]
    let ordered (swap : Bool) (t : State) : Prop := t.seq.swap = swap ∧ ∃ ks, t.seq.order = some ks ∧ ∀ z : Zone,
      (idleLane s z → ks[z] = none)
        ∧ (¬ idleLane s z → ∃ k, ks[z] = some k ∧ k.b1 = BitVec.ofNat 8 ((if swap then 1 else 2) + 16 * allowed z)
          ∧ k.darkmask = s.seq.darkmask ∧ k.frm = s.ffn.frm.setWidth 16 ∧ k.rsv = 0 ∧ k.crc8 = crc8 (orderBytes k))
        ∧ (upwardDue s z = true → t.fld (F.RAIL_ZSTAT_LIMITED_CNT z) = min (s.fld (F.RAIL_ZSTAT_LIMITED_CNT z) + 1) 255)
    (¬ live → Ends (.guardWindow env) s s)
    ∧ (live → ¬ judged → Gives (.guardWindow env) s (ordered false))
    ∧ (live → judged → (∀ z : Zone, zoneDone s z = true) → Gives (.guardWindow env) s fun t =>
        ordered true t ∧ t.seq.aborted = s.seq.aborted ∧ t.ffn.composing = true)
    ∧ (live → judged → (∃ z : Zone, zoneDone s z = false) → lateActive s = false → s.mode.dieOn = true →
        Gives (.guardWindow env) s fun t =>
          ordered false t ∧ t.seq.aborted = true ∧ t.ffn.composing = false
            ∧ t.fld F.SEQ_UNDERRUN_UR_TOTAL = min (s.fld F.SEQ_UNDERRUN_UR_TOTAL + 1) 65535
            ∧ t.reg (0x30100 + 4 * 2) = BitVec.ofNat 32 late
            ∧ (if 2 ≤ s.fld F.SEQ_UNDERRUN_UR_CONSEC then t.seq.third = true
                else t.fld F.SEQ_UNDERRUN_UR_CONSEC = s.fld F.SEQ_UNDERRUN_UR_CONSEC + 1))
    ∧ (∀ e, live → judged → (∃ z : Zone, zoneDone s z = false) → lateActive s = true → s.active = some e →
        s.dplx.hot = none → s.dplx.rsUnit = none → Gives (.guardWindow env) s fun t =>
          ordered false t ∧ t.dplx.fo = some 3 ∧ (t.eng e).role ≠ .active ∧ t.fld F.DPLX_FOVER_LAST_CAUSE = 3)
    ∧ (∀ (z : Zone) (l : Fin 2), live → s.stk.powered = true → Gives (.guardWindow env) s fun t =>
        mkRecord 7 z.val s.stk.frontFrm.toNat 0 (toLe 2 (prbsErrors s env.prbs .a z) ++ toLe 2 (prbsErrors s env.prbs .b z))
          ∈ t.stk.rtn[l])
    ∧ (∀ (z : Zone) (w x : Word), live → s.stk.powered = true →
        env.dsig.find? (fun e => e.1 = z.val) = some (z.val, some w) → s.diag.zcrcShown[z] = some x →
        Gives (.guardWindow env) s fun t =>
          t.reg (0xE0040 + 4 * z.val) = w
            ∧ (s.seq.order = none → t.diag.frzMism[z] = s.diag.frzMism[z] ∧ t.diag.frzMatch[z] = s.diag.frzMatch[z])
            ∧ (s.seq.order ≠ none → w = x → t.diag.frzMism[z] = 0 ∧ t.diag.frzMatch[z] = s.diag.frzMatch[z] + 1)
            ∧ (s.seq.order ≠ none → w ≠ x → t.diag.frzMism[z] = s.diag.frzMism[z] + 1 ∧ t.diag.frzMatch[z] = 0
                ∧ (1 ≤ s.diag.frzMism[z] → (t.fld F.DIAG_FRZ_ZFRZ).testBit z.val = true)))

/-! ### Diagnostics and zone evaluation (R333 to R335, R342, R343, R352 to R362) -/

/-- The in-service test lights one pixel of every tile that does not skip and notes its readings; its verdicts fail a
shorted pixel that its trip has not bypassed, a string whose current is off by more than 10 %, and a tile whose
reference is off by more than 2 % (R358, R359, R361). -/
def Sys2Proof.Machine.InServiceTests : Prop :=
  ∀ (results : List IstReading) (s : State),
    let live : Prop := s.stk.powered = true ∧ s.seq.running = true ∧ s.seq.started = true
    let frame := s.fld F.SEQ_FRAME_FRAME
    (¬ live → Ends (.inServiceTest results) s s)
    ∧ (live → (∀ z : Zone, s.stk.orders[z] = none) ∨ s.bit F.DIAG_CTRL_IST_EN = false →
        Ends (.inServiceTest results) s { s with
          stk := { s.stk with istPixels := [], istDue := [] }, diag := { s.diag with skip := s.diag.skip + 512 } })
    ∧ (∀ (x : Fin 512) (p : Nat) (m : IstReading), live → (∃ z : Zone, s.stk.orders[z] ≠ none) →
        s.bit F.DIAG_CTRL_IST_EN = true → testBarred s (Fin.ofNat 16 (zoneOfTile x.val)) = false → tileStateOf s x.val < 2 →
        testPos s (strOfTile x.val (frame % 512)) (frame / 512 % 8) = some p →
        results.find? (fun r => r.tile = x) = some m → Gives (.inServiceTest results) s fun t =>
          8 * strOfTile x.val (frame % 512) + p ∈ t.stk.istPixels ∧ (frame % 512, p, m) ∈ t.stk.istDue
            ∧ (frame % 512, p, m) ∈ t.stk.ist
            ∧ (m.trip = true → m.sense = true → isBypassed t (strOfTile x.val (frame % 512)) p = true))
    ∧ (s.stk.powered = false → Ends .istVerdict s s)
    ∧ (s.stk.powered = true → Gives .istVerdict s fun t => t.stk.istDue = [] ∧ ∀ e ∈ s.stk.istDue,
        let q := strOfTile e.2.2.tile.val e.1
        ((e.2.2.trip && e.2.2.sense) = false → e.2.2.mv < 20 * s.fld F.DIAG_CTRL_SHORT_VF → e.2.1 < 8 → isBypassed t q e.2.1 = true)
          ∧ (current250 s q * 10 < ((250 * e.2.2.na : Int) - current250 s q).natAbs * 100 →
              q ∈ t.stk.failedStr)
          ∧ (200 < e.2.2.refDev.natAbs → tileStateOf t e.2.2.tile.val = 3))

/-- A compliance trip bypasses the sensed positions that are judged, or without a sense fails its string in the second
of two frames in a row; read-back mismatches are counted and held, an element that is not sampled waits, and the
second mismatch of an element in a row is confirmed: a shorted pixel or a failed string (R352 to R355, R362). The
model's choice: which elements a row lists, and that an element whose off pulse overlaps its slot waits (log 112), and
how trips without a sense count towards two consecutive frames (log 115). -/
def Sys2Proof.Machine.TripsAndReadback : Prop :=
  ∀ (str : StringNo) (senses : Byte) (samples : List ReadbackSense) (s : State),
    let q := str.val
    let frame := s.fld F.SEQ_FRAME_FRAME
    let sensed (k : Nat) : Prop := senses.getLsbD k = true ∧ judged s q k = true ∧ isBypassed s q k = false
    let seen := Sparse.get (Sparse.all 0) s.stk.noSense q
    let live : Prop := s.stk.powered = true ∧ s.seq.running = true ∧ s.seq.started = true
    let slot := frame * 40503 % 2 ^ s.stk.n
    let wants (m : ReadbackSense) : Bool :=
      if m.source then (expectedAt s m.str.val slot).any id else (expectedAt s m.str.val slot).getD m.k.val false
    let bad := samples.filter fun m => isSampled s slot m && m.on != wants m
    (mayTrip s q = false → Ends (.complianceTrip str senses) s s)
    ∧ (mayTrip s q = true → (∃ k < 8, sensed k) → Gives (.complianceTrip str senses) s fun t =>
        ∀ k < 8, isBypassed t q k = (isBypassed s q k || (senses.getLsbD k && judged s q k)))
    ∧ (mayTrip s q = true → (∀ k < 8, ¬ sensed k) →
        (seen ≠ 0 → seen % 2 ^ 32 = frame → Gives (.complianceTrip str senses) s fun t =>
          q ∈ t.stk.failedStr ∧ ∀ k < 8, isBypassed t q k = true)
        ∧ (seen = 0 ∨ seen % 2 ^ 32 ≠ frame → Gives (.complianceTrip str senses) s fun t =>
            Sparse.get (Sparse.all 0) t.stk.noSense q = frame + 1 ∧ t.stk.failedStr = s.stk.failedStr
              ∧ t.stk.bypass = s.stk.bypass))
    ∧ (¬ live → Ends (.readbackSample samples) s s)
    ∧ (live → bad = [] → Ends (.readbackSample samples) s
        { s with stk := { s.stk with rbPend := s.stk.rbPend.filter fun m => !isSampled s slot m } })
    ∧ (live → Gives (.readbackSample samples) s fun t =>
        t.fld F.DIAG_RB_MISM_CNT = min (s.fld F.DIAG_RB_MISM_CNT + bad.length) 65535
          ∧ (∀ m ∈ bad, s.stk.rbPend.any (sameElem m) = false → m ∈ t.stk.rbPend)
          ∧ (∀ m ∈ s.stk.rbPend, isSampled s slot m = false → m ∈ t.stk.rbPend)
          ∧ (∀ m ∈ bad, s.stk.rbPend.any (sameElem m) = true →
              if m.source = false ∧ m.on = false then isBypassed t m.str.val m.k.val = true
              else m.str.val ∈ t.stk.failedStr))

/-- The in-service test, compliance trips and the read-back. -/
def Obligations.PixelDiagnostics : Prop := Sys2Proof.Machine.InServiceTests ∧ Sys2Proof.Machine.TripsAndReadback

/-- ZONE_EVALUATION: a zone without a record is blind and cut; one whose flux exceeds its limit is locked out; one
that exceeds an enabled window's limit is cut through path (a). An off-pulse test runs in its frame, is deferred to
the next one for a real re-enable, and is repeated there when it fails; the second failure locks the zone out with
cause 0xC and event 35 (R333 to R335, R342, R343). The model's choice: E_z compared exactly (log 76), and what a row
carries, when it acts, and what passes for a zone that is cut (log 77). -/
def Obligations.ZoneEvaluationAndOffPulse : Prop :=
  (∀ s : State,
    let live : Prop := s.mode.dieOn = true ∧ s.pwr.inReset = false ∧ s.seq.running = true ∧ s.seq.started = true
    (¬ live → Ends .zoneEvaluation s s)
    ∧ (live → Gives .zoneEvaluation s fun t => ∀ z : Zone,
        let l := s.safe.shown[z]
        let flux := l.zsum * (16 + l.icode)
        (s.safe.seen.getLsbD z.val = false → t.safe.blind.getLsbD z.val = true ∧ srcEnabled t z = false
            ∧ isLocked t z = isLocked s z)
          ∧ (s.safe.seen.getLsbD z.val = true →
              t.fld (F.SAFE_ZFLUX_E z.val) = flux % 2 ^ 32
                ∧ (s.fld (F.SAFE_ZLIM_LIM z.val) < flux → isLocked t z = true)
                ∧ (flux ≤ s.fld (F.SAFE_ZLIM_LIM z.val) → isLocked t z = isLocked s z)
                ∧ ((∃ w : Fin 4, s.safe.gwEn.testBit w.val = true
                    ∧ s.fld (F.SAFE_GWLIM_LIM w.val) < l.wmax.getD w.val 0 * (16 + l.icode)) → srcEnabled t z = false))))
  ∧ ∀ (z : Zone) (b : Bool) (r : OffPulseReading) (s : State),
    let ix := z.val + (if b then 16 else 0)
    let frame := s.fld F.SEQ_FRAME_FRAME
    let due : Prop := frame % 256 = 16 * z.val + (if b then 8 else 0) ∨ (ix, BitVec.ofNat 32 frame) ∈ s.safe.optDue
    let live : Prop := s.mode.dieOn = true ∧ s.pwr.inReset = false ∧ s.bit F.SAFE_OPT_EN = true ∧ s.seq.running = true
      ∧ s.seq.started = true ∧ s.fld F.SAFE_CORE_STATE = 0 ∧ due
    let crossed : Prop := b = true ∧ isCrossed s z = true
    let deferred : Prop := r.reEnable = true ∨ (s.cal.zone = some z ∧ s.cal.dark = true)
    let off := if b then !pathB s z else !srcEnabled s z
    let one : BitVec 32 := BitVec.ofNat 32 (2 ^ ix)
    let reads : Prop := if b then r.zenHigh = true else if r.before < 1000 then r.enableOff = true else r.least < 500
    let passes : Prop := reads ∧ (r.onRead = true ∨ r.realCut = true ∨ off = true)
    let rest := s.safe.optDue.filter fun d => d.1 ≠ ix
    let next := rest ++ [(ix, BitVec.ofNat 32 (frame + 1))]
    let pulsed (due : List (Nat × Word)) (fail : BitVec 32) : State :=
      { s with safe := { s.safe with
          optAt := (z, s.reg 0x80014) :: s.safe.optAt.filter (fun p => p.2 = s.reg 0x80014), optDue := due, optFail := fail } }
    (¬ live → Ends (.offPulseTest z b r) s s)
    ∧ (live → crossed → Ends (.offPulseTest z b r) s
        { s.inc F.SAFE_OPT_DEFER_CNT with safe := { s.safe with optDue := rest } })
    ∧ (live → ¬ crossed → deferred → Ends (.offPulseTest z b r) s
        { s.inc F.SAFE_OPT_DEFER_CNT with safe := { s.safe with optDue := next } })
    ∧ (live → ¬ crossed → ¬ deferred → passes → Ends (.offPulseTest z b r) s (pulsed rest (s.safe.optFail &&& ~~~ one)))
    ∧ (live → ¬ crossed → ¬ deferred → ¬ passes → s.safe.optFail.getLsbD ix = false → Ends (.offPulseTest z b r) s
        (calWatch ((pulsed next (s.safe.optFail ||| one)).inc F.SAFE_OPT_RETRY_CNT)))
    ∧ (live → ¬ crossed → ¬ deferred → ¬ passes → s.safe.optFail.getLsbD ix = true → Gives (.offPulseTest z b r) s fun t =>
        isLocked t z = true ∧ srcEnabled t z = false ∧ zenLow t z = false ∧ t.bit ⟨0x110018, ix, 1⟩ = true
          ∧ t.fld F.SAFE_OPT_FAIL_CNT = min (s.fld F.SAFE_OPT_FAIL_CNT + 1) 255
          ∧ t.reg (0x30100 + 4 * 35) = BitVec.ofNat 32 (z.val + 16 * b.toNat)
          ∧ (isLocked s z = false → t.fld F.SAFE_LOCK_LAST_CAUSE = 0xC ∧ t.fld F.SAFE_LOCK_LAST_ZONE = z.val))

/-! ### Fixed function (R25, R77, R148, R149, R214 to R232, R286) -/

/-- Every code of the fixed-function stages is below N; a bypassed pixel or one of a failed tile has code 0; a cap only
lowers an intensity (R77, R221, R229, R230). -/
def Sys2Proof.Machine.PixelCodes : Prop :=
  ∀ (s : State) (z : Zone) (frm : Word) (x y i : Nat),
    pixelCode s z frm x y i < 2 ^ s.ffn.n
      ∧ (bypassed s x y = true ∨ tileFailed s (y / 64 * 32 + x / 64) = true → pixelCode s z frm x y i = 0)
      ∧ rasterise s x y i ≤ i
      ∧ (∀ g ∈ s.ffn.shapes, covers g (angleH s x) (angleV s y) = true → rasterise s x y i ≤ g.cap)
      ∧ (s.ffn.shapes = [] → rasterise s x y i = i)

/-- FIXED_FUNCTION_TILE takes the next full buffer in cyclic order, packs its codes into the zone, sends them to the
lane if its engine is ACTIVE and the zone is not dark, and frees the buffer for a cluster that waits; the zone's 32nd
tile gives its CRC (R25, R148, R149, R231, R232, R286). -/
def Sys2Proof.Machine.FixedFunctionTile : Prop :=
  ∀ (e : Side) (ecc : List EccHit) (s : State),
    (nextCluster s e = none → Ends (.fixedFunctionTile e ecc) s s)
    ∧ ∀ (c : Cluster) (h : Handoff) (hs : List Handoff), nextCluster s e = some c → (s.cluster e c).full = h :: hs →
        let codes := tileCodes (readGains e h.tile ecc s) h
        let z : Zone := Fin.ofNat 16 (zoneOfTile h.tile)
        let k := (s.eng e).pack[z]
        let crc := crcRun polyCrc32c k.crc (codeBytes codes)
        let closed : Word := ~~~ crcRun polyCrc32c crc (toLe 4 h.frm.toNat)
        codes.length = 4096 ∧ Gives (.fixedFunctionTile e ecc) s fun t =>
          (t.eng e).ffNext = (c.val + 1) % 8
            ∧ ((t.eng e).pack[z]).tiles = k.tiles + 1 ∧ ((t.eng e).pack[z]).crc = crc
            ∧ (k.tiles = 31 → ((t.eng e).pack[z]).zcrc = some closed)
            ∧ ((s.eng e).role = .active → k.tiles = 31 → t.reg (F.FFN_ZCRC_ZCRC z.val).addr = closed)
            ∧ (∀ y : Zone, y ≠ z → (t.eng e).pack[y] = (s.eng e).pack[y])
            ∧ ((t.eng e).tx[z]).wait = ((s.eng e).tx[z]).wait
                ++ (if (s.eng e).role = .active ∧ s.seq.darkmask.getLsbD z.val = false then [(tileInZone h.tile, codes)] else [])
            ∧ ((s.cluster e c).run ≠ .waitBuf → (t.cluster e c).full = hs)
            ∧ ((s.eng e).role = .active → (s.cluster e c).run = .waitBuf → (s.cluster e c).pos < 64 → hs.length < 2 →
                (t.cluster e c).run = .running ∧ (t.cluster e c).tile = tileAtPos c (s.cluster e c).pos
                  ∧ (t.cluster e c).pc = (s.eng e).tileEntry ∧ (t.cluster e c).pos = (s.cluster e c).pos + 1)

/-- The fixed-function stages and their row. -/
def Obligations.FixedFunction : Prop := Sys2Proof.Machine.PixelCodes ∧ Sys2Proof.Machine.FixedFunctionTile

/-! ### Duplex (R169, R299 to R319) -/

/-- A beacon whose CRC passes and whose COUNT follows the previous valid one counts towards clearing its path's fault
bit, another one starts the count again; a path without beacons raises event 24 or 25, and with both missing the unit
has failed instead; an engine that was ACTIVE is failed over with cause 1. An engine that is FAILED or unpowered, and a
unit whose side's clocks are gated, sends none. A core check error fails a harbourmaster with cause 2, and the standby
one takes over with event 29 (R166, R300 to R302, R304, R317, R427). The model's choice: the first COUNT with none
before it is valid (log 126), and beacons of a FAILED engine are not awaited and FAILED is set at recognition (log
127). -/
def Obligations.BeaconsAndFailures : Prop :=
  ∀ (u : UnitNo) (bytes : List Byte) (us : Nat) (s : State), s.mode.dieOn = true → s.pwr.inReset = false →
    let i := unitIx u
    let follows : Prop := ∀ c, (s.dplx.bus[i]).last = some c → byteAt bytes 1 = c + 1
    let valid : Prop := bytes.length = 8 ∧ crc8 (bytes.take 7) = byteAt bytes 7 ∧ follows
    let flt (w : Bool) : Fld := ⟨0x120008, 2 * i.val + w.toNat, 1⟩
    let sends : Prop := ∀ e, unitSide u = some e → (s.eng e).powered = true ∧ (s.eng e).role ≠ .failed
    let counts (p q : BeaconPath) : Prop := q.good = min 256 (p.good + 1) ∧ q.missing = false
    let bothGone (w both : Bool) : Prop := both = true ∨ (if w then (s.dplx.bus[i]).missing else (s.dplx.wire[i]).missing) = true
    let gated := unitGated s u
    (¬ sends ∨ gated = true → ∀ k, Ends (.beacon u k) s s)
    ∧ (¬ sends → ∀ w both, Ends (.beaconPathMissing u w both) s s)
    ∧ (sends → gated = false → valid → Gives (.beacon u (.bus bytes)) s fun t => counts (s.dplx.bus[i]) (t.dplx.bus[i])
        ∧ (t.dplx.bus[i]).last = some (byteAt bytes 1) ∧ (255 ≤ (s.dplx.bus[i]).good → t.bit (flt false) = false))
    ∧ (sends → gated = false → ¬ valid → Gives (.beacon u (.bus bytes)) s fun t => (t.dplx.bus[i]).good = 0
        ∧ (t.dplx.bus[i]).last = (s.dplx.bus[i]).last ∧ t.dplx.wire = s.dplx.wire)
    ∧ (sends → gated = false → Gives (.beacon u (.wire us)) s fun t => t.dplx.bus = s.dplx.bus
        ∧ (50 ≤ us → counts (s.dplx.wire[i]) (t.dplx.wire[i]) ∧ (255 ≤ (s.dplx.wire[i]).good → t.bit (flt true) = false))
        ∧ (us < 50 → (t.dplx.wire[i]).good = 0))
    ∧ (∀ w both : Bool, sends → ¬ bothGone w both → Gives (.beaconPathMissing u w both) s fun t => t.bit (flt w) = true
        ∧ t.reg (0x30100 + 4 * (if w then 25 else 24)) = BitVec.ofNat 32 i.val ∧ roleOf t u = roleOf s u)
    ∧ (∀ w both : Bool, sends → bothGone w both → s.dplx.hot = none → s.bit F.DPLX_CTRL_AUTO_RECOV = false →
        Gives (.beaconPathMissing u w both) s fun t => roleOf t u = .failed ∧ t.bit (flt w) = s.bit (flt w)
          ∧ (∀ e, unitSide u = some e → (s.eng e).role = .active → s.dplx.rsUnit ≠ some u →
              t.dplx.fo = some 1 ∧ t.fld F.DPLX_FOVER_LAST_CAUSE = 1))
    ∧ (∀ b : Bool,
        let x : UnitNo := if b then .hmB else .hmA
        let y : UnitNo := if b then .hmA else .hmB
        roleOf s x = .active → roleOf s y = .standby → s.dplx.rsUnit ≠ some x → Gives (.hmCoreCheckError b) s fun t =>
          roleOf t y = .active ∧ roleOf t x ≠ .active ∧ t.bit F.DPLX_STAT_ACT_HM = !b ∧ t.fld F.DPLX_HM_LAST_CAUSE = 2
            ∧ t.fld F.DPLX_HM_SW_CNT = min (s.fld F.DPLX_HM_SW_CNT + 1) 255 ∧ t.reg (0x30100 + 4 * 29) = 2)

/-- A self-test that passes lets an engine cold-start and resynchronises a harbourmaster, one that fails leaves its unit
FAILED with event 28 and cause 0x7; a cold start without an image leaves the engine OFFLINE, with one it is
resynchronised; while the clocks of the unit's side are gated neither goes on; the end of the mismatch window resets its
step (R169, R307, R309, R310, R312, R317, R427). The model's choice: a destroyed program memory lists nothing (log 29),
when the automatic attempt follows and that a failed self-test counts no abort (log 129), and when an engine loaded in
LOWLIGHT is resynchronised (log 133). -/
def Sys2Proof.Machine.TestsAndColdStarts : Prop :=
  ∀ (u : UnitNo) (s : State),
    let i := unitIx u
    let bit : BitVec 4 := BitVec.ofNat 4 (2 ^ i.val)
    let syncs (t : State) : Prop := t.dplx.rsUnit = some u ∧ roleOf t u = .coldStarting ∧ t.fld F.DPLX_STAT_RS_PHASE = 1
      ∧ t.fld F.DPLX_STAT_RS_UNIT = i.val
    let runs (jobs : BitVec 4) : Prop := jobs &&& bit ≠ 0 ∧ unitGated s u = false
    (∀ pass, ¬ runs s.dplx.testing → Ends (.selfTestDone u pass) s s)
    ∧ (runs s.dplx.testing → s.bit F.DPLX_CTRL_AUTO_RECOV = false → Gives (.selfTestDone u false) s fun t =>
        roleOf t u = .failed ∧ t.dplx.testing &&& bit = 0 ∧ t.fld F.DPLX_RESYNC_AB_CAUSE = 7
          ∧ (s.mode.dieOn = true → t.reg (0x30100 + 4 * 28) = BitVec.ofNat 32 (i.val + 112)))
    ∧ (∀ e, runs s.dplx.testing → unitSide u = some e → Gives (.selfTestDone u true) s fun t =>
        (t.eng e).role = .coldStarting ∧ (t.eng e).powered = true ∧ (t.eng e).imgValid = false ∧ (t.eng e).pm = []
          ∧ t.dplx.loading &&& bit ≠ 0 ∧ t.dplx.testing &&& bit = 0)
    ∧ (runs s.dplx.testing → unitSide u = none → s.dplx.rsUnit = none → Gives (.selfTestDone u true) s syncs)
    ∧ (¬ runs s.dplx.loading → Ends (.coldStartDone u) s s)
    ∧ (∀ e, runs s.dplx.loading → unitSide u = some e → s.dplx.hot = none → s.active ≠ some e → Gives (.coldStartDone u) s fun t =>
        t.dplx.loading &&& bit = 0
          ∧ (validContent s 1 = none → (t.eng e).role = .offline ∧ (t.eng e).imgValid = false)
          ∧ (∀ bs, validContent s 1 = some bs → imageCheck s bs = 0 →
              (t.eng e).imgValid = true ∧ (t.eng e).imgCrc = BitVec.ofNat 32 (leAt bs 0x28 4)
                ∧ (t.eng e).codeWords = leAt bs 0x18 4
                ∧ (s.active ≠ none → s.mode ≠ .lowlight → s.dplx.hold3 ≠ some e → s.dplx.rsUnit = none → syncs t)))
    ∧ (runs s.dplx.loading → unitSide u = none → s.dplx.rsUnit = none → roleOf s (otherUnit u) = .active →
        (∃ bs, validContent s 0 = some bs ∧ fwPasses bs = true) → Gives (.coldStartDone u) s syncs)
    ∧ Ends .mismatchWindowEnd s (s.setFld F.DPLX_MISM_MM_STEP 0)

/-- The bulk phase ends in the final phase; the final phase copies the active engine's memories and S registers, or
makes a harbourmaster STANDBY with event 27, but not while no harbourmaster is ACTIVE; a phase that takes too long
aborts with event 28, and the unit is resynchronised again, the oldest abort first, behind a unit that is being copied
(R310, R311, R317, R319). The model's choice: when the final phase of an engine may end (log 133), and that a
harbourmaster's waits while none is ACTIVE (log 128). -/
def Sys2Proof.Machine.Resynchronisation : Prop :=
  ∀ (u : UnitNo) (s : State),
    let phase := s.fld F.DPLX_STAT_RS_PHASE
    let started (v : UnitNo) (t : State) : Prop :=
      t.dplx.rsUnit = some v ∧ roleOf t v = .coldStarting ∧ t.fld F.DPLX_STAT_RS_PHASE = 1
    (s.dplx.rsUnit = none → Ends .resyncBulkDone s s ∧ Ends .resyncFinalPhase s s ∧ ∀ f, Ends (.resyncAbort f) s s)
    ∧ (s.dplx.rsUnit = some u →
        (phase = 1 → Ends .resyncBulkDone s (s.setFld F.DPLX_STAT_RS_PHASE 2))
        ∧ (phase ≠ 1 → Ends .resyncBulkDone s s)
        ∧ (phase ≠ 2 ∨ s.dplx.rsDone = true → Ends .resyncFinalPhase s s)
        ∧ (∀ e x, phase = 2 → s.dplx.rsDone = false → unitSide u = some e → s.active = some x → e ≠ x →
            s.fld (F.ENG_STAT_CLUS_DONE (sideIx x)) = 255 → Gives .resyncFinalPhase s fun t =>
              (t.eng e).pm = (s.eng x).pm ∧ (t.eng e).imgCrc = (s.eng x).imgCrc ∧ (t.eng e).imgValid = (s.eng x).imgValid
                ∧ (∀ c : Cluster, (t.cluster e c).s = (s.cluster x c).s ∧ (t.cluster e c).scratch = (s.cluster x c).scratch)
                ∧ t.dplx.rsDone = true ∧ t.eng x = s.eng x)
        ∧ (phase = 2 → s.dplx.rsDone = false → unitSide u = none → noHm s = true → Ends .resyncFinalPhase s s)
        ∧ (phase = 2 → s.dplx.rsDone = false → unitSide u = none → s.dplx.plan[unitIx u] ≠ .arbStandby → noHm s = false →
            u ∉ s.dplx.rsQueue → Gives .resyncFinalPhase s fun t => roleOf t u = .standby
              ∧ (s.dplx.rsQueue = [] → t.dplx.rsUnit = none ∧ t.fld F.DPLX_STAT_RS_PHASE = 0)
              ∧ (∀ v vs, s.dplx.rsQueue = v :: vs → started v t ∧ t.dplx.rsQueue = vs)
              ∧ t.fld F.DPLX_RESYNC_RS_CNT = min (s.fld F.DPLX_RESYNC_RS_CNT + 1) 255
              ∧ (s.mode.dieOn = true → t.reg (0x30100 + 4 * 27) = BitVec.ofNat 32 (unitIx u).val))
        ∧ (∀ f, phase = (if f then 2 else 1) → s.dplx.rsDone = false → Gives (.resyncAbort f) s fun t =>
            (s.dplx.rsQueue = [] → t.dplx.rsUnit = none ∧ t.dplx.rsAgain = s.dplx.rsAgain ++ [u] ∧ t.fld F.DPLX_STAT_RS_PHASE = 0)
              ∧ (∀ v vs, s.dplx.rsQueue = v :: vs → started v t ∧ t.dplx.rsQueue = vs ∧ (v ≠ u → u ∈ t.dplx.rsAgain))
              ∧ t.fld F.DPLX_RESYNC_AB_CAUSE = (if f then 5 else 4)
              ∧ t.fld F.DPLX_RESYNC_AB_CNT = min (s.fld F.DPLX_RESYNC_AB_CNT + 1) 255)
        ∧ (∀ f, phase ≠ (if f then 2 else 1) ∨ s.dplx.rsDone = true → Ends (.resyncAbort f) s s)
        ∧ (∀ v vs, s.dplx.rsAgain = v :: vs → Gives .resyncRestart s fun t => t.dplx.rsUnit = some u
            ∧ t.dplx.rsAgain = vs ∧ t.dplx.rsQueue = s.dplx.rsQueue.filter (· ≠ v) ++ [v] ∧ roleOf t v = .coldStarting))
    ∧ (s.dplx.rsAgain = [] → Ends .resyncRestart s s)
    ∧ (∀ us, s.dplx.rsUnit = none → s.dplx.rsAgain = u :: us → Gives .resyncRestart s fun t =>
        started u t ∧ t.dplx.rsAgain = us.filter (· ≠ u))

/-- Self-tests, cold starts and resynchronisation. -/
def Obligations.RecoveryOfUnits : Prop := Sys2Proof.Machine.TestsAndColdStarts ∧ Sys2Proof.Machine.Resynchronisation

/-! ### Temperatures and calibration (R371, R373, R377, R382 to R388) -/

/-- A pad reading in range and within 10 °C of the previous one is taken, another one gives the higher of the last
good one and PAD_FB, with PAD_FAIL and event 56; a valid die reading of 125.0 °C stops: at once without a running
sequencer, at the next tick with it. While the sequencer is stopped the junction nodes advance by 1 ms (R384, R386,
R388). The model's choice: the rounding of the nodes and a negative power shown as HEAT 0 (log 35), and when a thermal
stop takes effect (log 37). -/
def Sys2Proof.Machine.TemperaturesAndModel : Prop :=
  ∀ (pad die : Int) (s : State),
    let on : Prop := s.mode.dieOn = true ∧ s.pwr.inReset = false
    let good : Prop := -550 ≤ pad ∧ pad ≤ 1500 ∧ (pad - s.therm.padPrev).natAbs ≤ 100
    (¬ on → Ends (.sensorRead pad die) s s)
    ∧ (on → -32768 ≤ die → die < 32768 → Gives (.sensorRead pad die) s fun t =>
        t.fldI F.THRM_TEMP_DIE = die ∧ t.therm.padPrev = pad
          ∧ (let zones := s.fld F.THRM_STAT_THR_ZONES
             let dieGood : Prop := -550 ≤ die ∧ die ≤ 1750
             (¬ good → s.bit F.THRM_STAT_PAD_FAIL = false → dieGood → t.reg (0x30100 + 4 * 56) = BitVec.ofNat 32 (0x20000 + zones))
               ∧ (¬ dieGood → s.bit F.THRM_STAT_DIE_FAIL = false → t.reg (0x30100 + 4 * 56) = BitVec.ofNat 32 (0x30000 + zones)))
          ∧ (good → t.fldI F.THRM_TEMP_PAD = pad ∧ t.therm.padGood = pad)
          ∧ (¬ good → t.bit F.THRM_STAT_PAD_FAIL = true ∧ t.therm.padGood = s.therm.padGood
              ∧ (-32768 ≤ s.therm.padGood → s.therm.padGood < 32768 →
                  t.fldI F.THRM_TEMP_PAD = max s.therm.padGood (10 * (s.fld F.THRM_CTRL_PAD_FB : Int))))
          ∧ (die < -550 ∨ 1750 < die → t.bit F.THRM_STAT_DIE_FAIL = true ∧ t.therm.dieValid = false)
          ∧ (1250 ≤ die → die ≤ 1750 → s.bit F.THRM_STAT_DIE_FAIL = false → s.bit F.THRM_STAT_THERM_STOP = false →
              t.bit F.THRM_STAT_THERM_STOP = true ∧ t.fld F.THRM_STAT_STOP_CAUSE = 2
                ∧ t.reg (0x30100 + 4 * 57) = 0x20000
                ∧ (s.seq.running = true → t.therm.stopDue = true ∧ t.mode = s.mode)
                ∧ (s.seq.running = false → s.mode ≠ .boot → s.mode ≠ .safeDark → t.mode = .dark)))
    ∧ (¬ on ∨ s.seq.running = true → Ends .thermalAdvance s s)
    ∧ (on → s.seq.running = false → Gives .thermalAdvance s fun t => ∀ z : Zone,
        let rjb := s.fld F.THRM_MODEL0_R_JB
        let cj := s.fld F.THRM_MODEL1_C_J
        let p := heatOf s z
        t.therm.tj[z] = node32 (s.therm.tj[z] + divAway
            (25600000 * (1024 * rjb * p - 100000 * (s.therm.tj[z] - s.therm.tb[z]))) (256000000 * cj * rjb))
          ∧ t.fld (F.THRM_ZB_HEAT z.val) = min p.toNat 65535)

/-- CALIBRATION_DONE in CALIBRATE writes the results of the zones that were calibrated, counts the calibration with
event 58 and enters DARK (R371, R373, R377, R382). That a locked-out zone counts as skipped is log 138, the model's
choice. -/
def Sys2Proof.Machine.CalibrationEnds : Prop :=
  ∀ s : State,
    let runs : Prop := s.mode = .calibrate ∧ s.bit F.CAL_STAT_RUNNING = true
    let skipped (z : Zone) : Bool := isStranded s z || isLocked s z
    (¬ runs → Ends .calibrationDone s s)
    ∧ (runs → Gives .calibrationDone s fun t =>
        t.mode = .dark ∧ t.bit F.CAL_STAT_RUNNING = false ∧ t.bit F.CAL_STAT_LAST_KIND = false
          ∧ t.fld F.CAL_COUNT_COUNT = (s.fld F.CAL_COUNT_COUNT + 1) % 65536 ∧ t.fld F.CAL_STAMP_UPTIME = s.uptime
          ∧ t.reg (0x30100 + 4 * 58) = BitVec.ofNat 32 ((s.fld F.CAL_COUNT_COUNT + 1) % 65536)
          ∧ t.fld F.CAL_STAT_SKIPPED = zmask skipped
          ∧ t.fld F.CAL_STAT_LAST_RESULT = (if s.cal.kept = [] ∧ zmask skipped = 0 then 1 else 2)
          ∧ ∀ z : Zone, t.bit (F.CAL_ZRES_SKIP z.val) = skipped z
              ∧ (skipped z = false → t.fld (F.RAIL_ZVF_VF_CAL z.val) = (if s.cal.vf[z] = 0 then 3300 else s.cal.vf[z]) % 4096
                  ∧ t.fld (F.RAIL_ZCFG_ICODE_CAL z.val) = s.stk.icode[z] % 64)
              ∧ (skipped z = true → t.fld (F.RAIL_ZVF_VF_CAL z.val) = s.fld (F.RAIL_ZVF_VF_CAL z.val)))

/-- Temperatures, the thermal model and the end of calibration. -/
def Obligations.ThermalAndCalibration : Prop := Sys2Proof.Machine.TemperaturesAndModel ∧ Sys2Proof.Machine.CalibrationEnds
end

