-- ==== Sys2Proof/Laws/Sparse.lean ====
section
/-! SUPPORT. What a store answers after a write, and that every write keeps the canonical form. -/

namespace Sys2Proof.Machine

namespace Sparse

variable {α : Type}

theorem find_filter_lt (m : Sparse α) {j k : Nat} (h : j < k) :
    (m.filter fun c => decide (c.1 < k)).find? (fun c => c.1 == j) = m.find? (fun c => c.1 == j) := by
  induction m with
  | nil => rfl
  | cons c cs ih =>
    by_cases hc : c.1 < k
    · rw [List.filter_cons_of_pos (by simpa using hc), List.find?_cons, List.find?_cons, ih]
    · rw [List.filter_cons_of_neg (by simpa using hc), List.find?_cons, ih]
      have : (c.1 == j) = false := by simp; omega
      rw [this]

theorem find_filter_gt (m : Sparse α) {j k : Nat} (h : k < j) :
    (m.filter fun c => decide (k < c.1)).find? (fun c => c.1 == j) = m.find? (fun c => c.1 == j) := by
  induction m with
  | nil => rfl
  | cons c cs ih =>
    by_cases hc : k < c.1
    · rw [List.filter_cons_of_pos (by simpa using hc), List.find?_cons, List.find?_cons, ih]
    · rw [List.filter_cons_of_neg (by simpa using hc), List.find?_cons, ih]
      have : (c.1 == j) = false := by simp; omega
      rw [this]

theorem find_filter_lt_none (m : Sparse α) {j k : Nat} (h : k ≤ j) :
    (m.filter fun c => decide (c.1 < k)).find? (fun c => c.1 == j) = none := by
  simp only [List.find?_eq_none, List.mem_filter]
  rintro c ⟨-, hc⟩
  simp at hc
  simp
  omega

theorem find_filter_gt_none (m : Sparse α) {j k : Nat} (h : j ≤ k) :
    (m.filter fun c => decide (k < c.1)).find? (fun c => c.1 == j) = none := by
  simp only [List.find?_eq_none, List.mem_filter]
  rintro c ⟨-, hc⟩
  simp at hc
  simp
  omega

/-- A key reads what was written to it last. -/
@[simp] theorem get_put_same [DecidableEq α] (d : Nat → α) (m : Sparse α) (k : Nat) (v : α) :
    get d (put d m k v) k = v := by
  unfold get put
  by_cases hv : v = d k
  · simp only [hv, if_true, List.append_nil, List.find?_append, find_filter_lt_none m (Nat.le_refl k),
      find_filter_gt_none m (Nat.le_refl k), Option.or_none]
  · simp only [hv, if_false, List.find?_append, find_filter_lt_none m (Nat.le_refl k), Option.none_or]
    simp

/-- A write leaves every other key alone. -/
theorem get_put_ne [DecidableEq α] (d : Nat → α) (m : Sparse α) {j k : Nat} (v : α) (h : j ≠ k) :
    get d (put d m k v) j = get d m j := by
  unfold get put
  have hk : (k == j) = false := by simp; omega
  rcases Nat.lt_or_gt_of_ne h with hj | hj
  · by_cases hv : v = d k <;>
      simp [hv, hk, List.find?_append, find_filter_lt m hj, find_filter_gt_none m (Nat.le_of_lt hj)]
  · by_cases hv : v = d k <;>
      simp [hv, hk, List.find?_append, find_filter_gt m hj, find_filter_lt_none m (Nat.le_of_lt hj)]

/-- What a key reads after a write of any key. -/
theorem get_put [DecidableEq α] (d : Nat → α) (m : Sparse α) (j k : Nat) (v : α) :
    get d (put d m k v) j = if j = k then v else get d m j := by
  by_cases h : j = k
  · subst h; simp
  · simp [h, get_put_ne d m v h]

@[simp] theorem get_nil (d : Nat → α) (k : Nat) : get d [] k = d k := rfl

/-- Dropping entries keeps the canonical form. -/
theorem wf_filter [DecidableEq α] (d : Nat → α) (m : Sparse α) (p : Nat × α → Bool) (h : wf d m) :
    wf d (m.filter p) := by
  refine ⟨List.Pairwise.sublist (List.Sublist.map _ List.filter_sublist) h.1, ?_⟩
  intro c hc
  exact h.2 c (List.mem_filter.mp hc).1

/-- A write keeps the canonical form. -/
theorem put_wf [DecidableEq α] (d : Nat → α) (m : Sparse α) (k : Nat) (v : α) (h : wf d m) :
    wf d (put d m k v) := by
  have hl := wf_filter d m (fun c => decide (c.1 < k)) h
  have hg := wf_filter d m (fun c => decide (k < c.1)) h
  unfold put
  by_cases hv : v = d k
  · refine ⟨?_, ?_⟩
    · simp only [hv, if_true, List.append_nil, List.map_append, List.pairwise_append]
      refine ⟨hl.1, hg.1, ?_⟩
      simp only [List.mem_map, List.mem_filter]
      rintro a ⟨c, ⟨-, hc⟩, rfl⟩ b ⟨e, ⟨-, he⟩, rfl⟩
      simp at hc he; omega
    · simp only [hv, if_true, List.append_nil, List.mem_append]
      rintro c (hc | hc)
      · exact hl.2 c hc
      · exact hg.2 c hc
  · refine ⟨?_, ?_⟩
    · simp only [hv, if_false, List.map_append, List.map_cons, List.map_nil, List.pairwise_append]
      refine ⟨⟨hl.1, by simp, ?_⟩, hg.1, ?_⟩
      · simp only [List.mem_map, List.mem_filter]
        rintro a ⟨c, ⟨-, hc⟩, rfl⟩ b hb
        simp at hc hb; omega
      · simp only [List.mem_append, List.mem_map, List.mem_filter]
        rintro a ha b ⟨e, ⟨-, he⟩, rfl⟩
        rcases ha with ⟨c, ⟨-, hc⟩, rfl⟩ | ha
        · simp at hc he; omega
        · simp at he ha; omega
    · simp only [hv, if_false, List.mem_append, List.mem_singleton]
      rintro c ((hc | rfl) | hc)
      · exact hl.2 c hc
      · exact hv
      · exact hg.2 c hc

theorem nil_wf [DecidableEq α] (d : Nat → α) : wf d ([] : Sparse α) := ⟨by simp, by simp⟩

end Sparse

/-- A byte outside the bytes written reads as before. -/
theorem getBytes_putBytes_ne (m : Sparse Byte) (a : Nat) (bs : List Byte) {j : Nat}
    (h : j < a ∨ a + bs.length ≤ j) :
    Sparse.get (Sparse.all 0) (putBytes m a bs) j = Sparse.get (Sparse.all 0) m j := by
  induction bs generalizing m a with
  | nil => rfl
  | cons b bs ih =>
    simp only [List.length_cons] at h
    simp only [putBytes]
    rw [ih _ _ (by omega), Sparse.get_put_ne _ _ _ (by omega)]

/-- Byte `i` of the bytes written reads as written. -/
theorem get_putBytes (m : Sparse Byte) (a : Nat) (bs : List Byte) {i : Nat} (h : i < bs.length) :
    Sparse.get (Sparse.all 0) (putBytes m a bs) (a + i) = bs[i] := by
  induction bs generalizing m a i with
  | nil => simp at h
  | cons b bs ih =>
    simp only [putBytes]
    cases i with
    | zero => rw [getBytes_putBytes_ne _ _ _ (by omega)]; simp
    | succ i =>
      have h' : i < bs.length := by simpa using h
      have := ih (Sparse.put (Sparse.all 0) m a b) (a + 1) h'
      rw [show a + (i + 1) = a + 1 + i by omega, this]; simp

theorem putBytes_wf (m : Sparse Byte) (a : Nat) (bs : List Byte) (h : Sparse.wf (Sparse.all 0) m) :
    Sparse.wf (Sparse.all 0) (putBytes m a bs) := by
  induction bs generalizing m a with
  | nil => exact h
  | cons b bs ih => exact ih _ _ (Sparse.put_wf _ _ _ _ h)

@[simp] theorem toLe_length (n v : Nat) : (toLe n v).length = n := by
  induction n generalizing v with
  | zero => rfl
  | succ n ih => simp [toLe, ih]

end Sys2Proof.Machine
end

