-- ==== Sys2Proof/Laws/Fields.lean ====
section
/-! SUPPORT. What a register and a field read after a register or a field has been written. -/

namespace Sys2Proof.Machine

@[simp] theorem reg_setReg (s : State) (a : Nat) (w : Word) : (s.setReg a w).reg a = w := by
  simp [State.reg, State.setReg]

theorem reg_setReg_ne (s : State) {a b : Nat} (w : Word) (h : b ≠ a) : (s.setReg a w).reg b = s.reg b :=
  Sparse.get_put_ne _ _ _ h

/-- The bits of a field's word. -/
theorem into_getLsbD (f : Fld) (w : Word) (v i : Nat) (hi : i < 32) :
    (f.into w v).getLsbD i =
      if f.lo ≤ i ∧ i < f.lo + f.width then v.testBit (i - f.lo) else w.getLsbD i := by
  unfold Fld.into
  simp only [BitVec.getLsbD_or, BitVec.getLsbD_and, BitVec.getLsbD_not, BitVec.getLsbD_shiftLeft, hi,
    decide_true, Bool.true_and, BitVec.getLsbD_ofNat, Nat.testBit_two_pow_sub_one]
  by_cases h1 : f.lo ≤ i
  · have e1 : ¬ i < f.lo := by omega
    have e2 : i - f.lo < 32 := by omega
    by_cases h2 : i < f.lo + f.width
    · have e3 : i - f.lo < f.width := by omega
      simp [h1, e1, e2, h2, e3]
    · have e3 : ¬ i - f.lo < f.width := by omega
      simp [h1, e1, h2, e3]
  · have e1 : i < f.lo := by omega
    simp [h1, e1]

/-- The bits of a field's value. -/
theorem ofWord_testBit (f : Fld) (w : Word) (i : Nat) (hw : 0 < f.width) :
    (f.ofWord w).testBit i = (decide (i < f.width) && w.getLsbD (f.lo + i)) := by
  unfold Fld.ofWord bitsOf
  rw [Nat.testBit_mod_two_pow, Nat.testBit_div_two_pow]
  have : f.lo + f.width - 1 + 1 - f.lo = f.width := by omega
  rw [this]
  simp [BitVec.getLsbD, Nat.add_comm]

/-- A field reads what was set in it. -/
theorem ofWord_into (f : Fld) (w : Word) (v : Nat) (hw : 0 < f.width) (h : f.lo + f.width ≤ 32) :
    f.ofWord (f.into w v) = v % 2 ^ f.width := by
  apply Nat.eq_of_testBit_eq
  intro i
  rw [ofWord_testBit _ _ _ hw, Nat.testBit_mod_two_pow]
  by_cases hi : i < f.width
  · rw [into_getLsbD _ _ _ _ (by omega)]
    have : f.lo + i < f.lo + f.width := by omega
    simp [hi]
  · simp [hi]

/-- Setting a field leaves a field of other bits alone. -/
theorem ofWord_into_ne (f g : Fld) (w : Word) (v : Nat) (hw : 0 < f.width)
    (h : f.lo + f.width ≤ g.lo ∨ g.lo + g.width ≤ f.lo) : f.ofWord (g.into w v) = f.ofWord w := by
  apply Nat.eq_of_testBit_eq
  intro i
  rw [ofWord_testBit _ _ _ hw, ofWord_testBit _ _ _ hw]
  by_cases hi : i < f.width
  · by_cases h32 : f.lo + i < 32
    · rw [into_getLsbD _ _ _ _ h32, if_neg (by omega)]
    · rw [BitVec.getLsbD_of_ge _ _ (by omega), BitVec.getLsbD_of_ge _ _ (by omega)]
  · simp [hi]

/-- Two fields without a common bit. -/
def Apart (f g : Fld) : Prop :=
  0 < f.width ∧ (f.addr ≠ g.addr ∨ f.lo + f.width ≤ g.lo ∨ g.lo + g.width ≤ f.lo)

/-- A field of at least one bit inside its word. -/
def Fits (f : Fld) : Prop := 0 < f.width ∧ f.lo + f.width ≤ 32

theorem fld_setFld (s : State) (f : Fld) (v : Nat) (h : Fits f) : (s.setFld f v).fld f = v % 2 ^ f.width := by
  simp only [State.fld, State.setFld, reg_setReg]
  exact ofWord_into f _ v h.1 h.2

theorem fld_setFld_apart (s : State) (f g : Fld) (v : Nat) (h : Apart f g) : (s.setFld g v).fld f = s.fld f := by
  obtain ⟨hw, h⟩ := h
  by_cases ha : f.addr = g.addr
  · simp only [State.fld, State.setFld, ha, reg_setReg]
    exact ofWord_into_ne f g _ v hw (by tauto)
  · simp only [State.fld, State.setFld, reg_setReg_ne _ _ ha]

theorem fld_setReg_ne (s : State) (f : Fld) {a : Nat} (w : Word) (h : f.addr ≠ a) :
    (s.setReg a w).fld f = s.fld f := by
  simp only [State.fld, reg_setReg_ne _ _ h]

theorem reg_setFld_ne (s : State) (g : Fld) (v : Nat) {a : Nat} (h : a ≠ g.addr) :
    (s.setFld g v).reg a = s.reg a := reg_setReg_ne _ _ h

theorem bit_setBit (s : State) (f : Fld) (b : Bool) (h : Fits f) : (s.setBit f b).bit f = b := by
  unfold State.bit State.setBit
  rw [fld_setFld _ _ _ h]
  have : 2 ≤ 2 ^ f.width := by
    calc 2 = 2 ^ 1 := rfl
      _ ≤ 2 ^ f.width := Nat.pow_le_pow_right (by omega) h.1
  rw [Nat.mod_eq_of_lt (by cases b <;> simp only [Bool.toNat_false, Bool.toNat_true] <;> omega)]
  cases b <;> simp

theorem fld_setBit_apart (s : State) (f g : Fld) (b : Bool) (h : Apart f g) : (s.setBit g b).fld f = s.fld f :=
  fld_setFld_apart s f g _ h

theorem bit_setFld_apart (s : State) (f g : Fld) (v : Nat) (h : Apart f g) : (s.setFld g v).bit f = s.bit f := by
  unfold State.bit; rw [fld_setFld_apart s f g v h]

theorem bit_setBit_apart (s : State) (f g : Fld) (b : Bool) (h : Apart f g) : (s.setBit g b).bit f = s.bit f :=
  bit_setFld_apart s f g _ h

theorem fld_addFld (s : State) (f : Fld) (n : Nat) (h : Fits f) :
    (s.addFld f n).fld f = min (s.fld f + n) (2 ^ f.width - 1) := by
  unfold State.addFld
  rw [fld_setFld _ _ _ h, Nat.mod_eq_of_lt]
  have : 0 < 2 ^ f.width := Nat.two_pow_pos _
  omega

theorem fld_addFld_apart (s : State) (f g : Fld) (n : Nat) (h : Apart f g) : (s.addFld g n).fld f = s.fld f :=
  fld_setFld_apart s f g _ h

theorem fld_inc (s : State) (f : Fld) (h : Fits f) : (s.inc f).fld f = min (s.fld f + 1) (2 ^ f.width - 1) :=
  fld_addFld s f 1 h

theorem fld_inc_apart (s : State) (f g : Fld) (h : Apart f g) : (s.inc g).fld f = s.fld f :=
  fld_setFld_apart s f g _ h

theorem bit_inc_apart (s : State) (f g : Fld) (h : Apart f g) : (s.inc g).bit f = s.bit f :=
  bit_setFld_apart s f g _ h

end Sys2Proof.Machine
end

