-- ==== Sys2Proof/Laws/State.lean ====
section
/-! SUPPORT. What each update of the state leaves alone, field by field. -/

namespace Sys2Proof.Machine

variable (s : State)

/-! `setReg` -/

@[simp] theorem setReg_pending (a : Nat) (w : Word) : (s.setReg a w).pending = s.pending := rfl
@[simp] theorem setReg_now (a : Nat) (w : Word) : (s.setReg a w).now = s.now := rfl
@[simp] theorem setReg_free (a : Nat) (w : Word) : (s.setReg a w).free = s.free := rfl
@[simp] theorem setReg_raised (a : Nat) (w : Word) : (s.setReg a w).raised = s.raised := rfl
@[simp] theorem setReg_pwr (a : Nat) (w : Word) : (s.setReg a w).pwr = s.pwr := rfl
@[simp] theorem setReg_seq (a : Nat) (w : Word) : (s.setReg a w).seq = s.seq := rfl
@[simp] theorem setReg_ctx (a : Nat) (w : Word) : (s.setReg a w).ctx = s.ctx := rfl
@[simp] theorem setReg_port (a : Nat) (w : Word) : (s.setReg a w).port = s.port := rfl
@[simp] theorem setReg_spi (a : Nat) (w : Word) : (s.setReg a w).spi = s.spi := rfl
@[simp] theorem setReg_can (a : Nat) (w : Word) : (s.setReg a w).can = s.can := rfl
@[simp] theorem setReg_outq (a : Nat) (w : Word) : (s.setReg a w).outq = s.outq := rfl
@[simp] theorem setReg_rxF (a : Nat) (w : Word) : (s.setReg a w).rxF = s.rxF := rfl
@[simp] theorem setReg_rxM (a : Nat) (w : Word) : (s.setReg a w).rxM = s.rxM := rfl
@[simp] theorem setReg_opens (a : Nat) (w : Word) : (s.setReg a w).opens = s.opens := rfl
@[simp] theorem setReg_after (a : Nat) (w : Word) : (s.setReg a w).after = s.after := rfl
@[simp] theorem setReg_finals (a : Nat) (w : Word) : (s.setReg a w).finals = s.finals := rfl
@[simp] theorem setReg_nextId (a : Nat) (w : Word) : (s.setReg a w).nextId = s.nextId := rfl
@[simp] theorem setReg_long (a : Nat) (w : Word) : (s.setReg a w).long = s.long := rfl
@[simp] theorem setReg_br (a : Nat) (w : Word) : (s.setReg a w).br = s.br := rfl
@[simp] theorem setReg_ffn (a : Nat) (w : Word) : (s.setReg a w).ffn = s.ffn := rfl
@[simp] theorem setReg_engA (a : Nat) (w : Word) : (s.setReg a w).engA = s.engA := rfl
@[simp] theorem setReg_engB (a : Nat) (w : Word) : (s.setReg a w).engB = s.engB := rfl
@[simp] theorem setReg_stk (a : Nat) (w : Word) : (s.setReg a w).stk = s.stk := rfl
@[simp] theorem setReg_tl (a : Nat) (w : Word) : (s.setReg a w).tl = s.tl := rfl
@[simp] theorem setReg_rail (a : Nat) (w : Word) : (s.setReg a w).rail = s.rail := rfl
@[simp] theorem setReg_dplx (a : Nat) (w : Word) : (s.setReg a w).dplx = s.dplx := rfl
@[simp] theorem setReg_safe (a : Nat) (w : Word) : (s.setReg a w).safe = s.safe := rfl
@[simp] theorem setReg_diag (a : Nat) (w : Word) : (s.setReg a w).diag = s.diag := rfl
@[simp] theorem setReg_cal (a : Nat) (w : Word) : (s.setReg a w).cal = s.cal := rfl
@[simp] theorem setReg_therm (a : Nat) (w : Word) : (s.setReg a w).therm = s.therm := rfl
@[simp] theorem setReg_clk (a : Nat) (w : Word) : (s.setReg a w).clk = s.clk := rfl
@[simp] theorem setReg_store (a : Nat) (w : Word) : (s.setReg a w).store = s.store := rfl
@[simp] theorem setReg_mode (a : Nat) (w : Word) : (s.setReg a w).mode = s.mode := rfl
@[simp] theorem setReg_eng (a : Nat) (w : Word) (x : Side) : (s.setReg a w).eng x = s.eng x := by cases x <;> rfl
@[simp] theorem setReg_cluster (a : Nat) (w : Word) (x : Side) (y : Cluster) : (s.setReg a w).cluster x y = s.cluster x y := by cases x <;> rfl

/-! `setFld` -/

@[simp] theorem setFld_pending (g : Fld) (v : Nat) : (s.setFld g v).pending = s.pending := rfl
@[simp] theorem setFld_now (g : Fld) (v : Nat) : (s.setFld g v).now = s.now := rfl
@[simp] theorem setFld_free (g : Fld) (v : Nat) : (s.setFld g v).free = s.free := rfl
@[simp] theorem setFld_raised (g : Fld) (v : Nat) : (s.setFld g v).raised = s.raised := rfl
@[simp] theorem setFld_pwr (g : Fld) (v : Nat) : (s.setFld g v).pwr = s.pwr := rfl
@[simp] theorem setFld_seq (g : Fld) (v : Nat) : (s.setFld g v).seq = s.seq := rfl
@[simp] theorem setFld_ctx (g : Fld) (v : Nat) : (s.setFld g v).ctx = s.ctx := rfl
@[simp] theorem setFld_port (g : Fld) (v : Nat) : (s.setFld g v).port = s.port := rfl
@[simp] theorem setFld_spi (g : Fld) (v : Nat) : (s.setFld g v).spi = s.spi := rfl
@[simp] theorem setFld_can (g : Fld) (v : Nat) : (s.setFld g v).can = s.can := rfl
@[simp] theorem setFld_outq (g : Fld) (v : Nat) : (s.setFld g v).outq = s.outq := rfl
@[simp] theorem setFld_rxF (g : Fld) (v : Nat) : (s.setFld g v).rxF = s.rxF := rfl
@[simp] theorem setFld_rxM (g : Fld) (v : Nat) : (s.setFld g v).rxM = s.rxM := rfl
@[simp] theorem setFld_opens (g : Fld) (v : Nat) : (s.setFld g v).opens = s.opens := rfl
@[simp] theorem setFld_after (g : Fld) (v : Nat) : (s.setFld g v).after = s.after := rfl
@[simp] theorem setFld_finals (g : Fld) (v : Nat) : (s.setFld g v).finals = s.finals := rfl
@[simp] theorem setFld_nextId (g : Fld) (v : Nat) : (s.setFld g v).nextId = s.nextId := rfl
@[simp] theorem setFld_long (g : Fld) (v : Nat) : (s.setFld g v).long = s.long := rfl
@[simp] theorem setFld_br (g : Fld) (v : Nat) : (s.setFld g v).br = s.br := rfl
@[simp] theorem setFld_ffn (g : Fld) (v : Nat) : (s.setFld g v).ffn = s.ffn := rfl
@[simp] theorem setFld_engA (g : Fld) (v : Nat) : (s.setFld g v).engA = s.engA := rfl
@[simp] theorem setFld_engB (g : Fld) (v : Nat) : (s.setFld g v).engB = s.engB := rfl
@[simp] theorem setFld_stk (g : Fld) (v : Nat) : (s.setFld g v).stk = s.stk := rfl
@[simp] theorem setFld_tl (g : Fld) (v : Nat) : (s.setFld g v).tl = s.tl := rfl
@[simp] theorem setFld_rail (g : Fld) (v : Nat) : (s.setFld g v).rail = s.rail := rfl
@[simp] theorem setFld_dplx (g : Fld) (v : Nat) : (s.setFld g v).dplx = s.dplx := rfl
@[simp] theorem setFld_safe (g : Fld) (v : Nat) : (s.setFld g v).safe = s.safe := rfl
@[simp] theorem setFld_diag (g : Fld) (v : Nat) : (s.setFld g v).diag = s.diag := rfl
@[simp] theorem setFld_cal (g : Fld) (v : Nat) : (s.setFld g v).cal = s.cal := rfl
@[simp] theorem setFld_therm (g : Fld) (v : Nat) : (s.setFld g v).therm = s.therm := rfl
@[simp] theorem setFld_clk (g : Fld) (v : Nat) : (s.setFld g v).clk = s.clk := rfl
@[simp] theorem setFld_store (g : Fld) (v : Nat) : (s.setFld g v).store = s.store := rfl
@[simp] theorem setFld_mode (g : Fld) (v : Nat) : (s.setFld g v).mode = s.mode := rfl
@[simp] theorem setFld_eng (g : Fld) (v : Nat) (x : Side) : (s.setFld g v).eng x = s.eng x := by cases x <;> rfl
@[simp] theorem setFld_cluster (g : Fld) (v : Nat) (x : Side) (y : Cluster) : (s.setFld g v).cluster x y = s.cluster x y := by cases x <;> rfl

/-! `setFldI` -/

@[simp] theorem setFldI_pending (g : Fld) (v : Int) : (s.setFldI g v).pending = s.pending := rfl
@[simp] theorem setFldI_now (g : Fld) (v : Int) : (s.setFldI g v).now = s.now := rfl
@[simp] theorem setFldI_free (g : Fld) (v : Int) : (s.setFldI g v).free = s.free := rfl
@[simp] theorem setFldI_raised (g : Fld) (v : Int) : (s.setFldI g v).raised = s.raised := rfl
@[simp] theorem setFldI_pwr (g : Fld) (v : Int) : (s.setFldI g v).pwr = s.pwr := rfl
@[simp] theorem setFldI_seq (g : Fld) (v : Int) : (s.setFldI g v).seq = s.seq := rfl
@[simp] theorem setFldI_ctx (g : Fld) (v : Int) : (s.setFldI g v).ctx = s.ctx := rfl
@[simp] theorem setFldI_port (g : Fld) (v : Int) : (s.setFldI g v).port = s.port := rfl
@[simp] theorem setFldI_spi (g : Fld) (v : Int) : (s.setFldI g v).spi = s.spi := rfl
@[simp] theorem setFldI_can (g : Fld) (v : Int) : (s.setFldI g v).can = s.can := rfl
@[simp] theorem setFldI_outq (g : Fld) (v : Int) : (s.setFldI g v).outq = s.outq := rfl
@[simp] theorem setFldI_rxF (g : Fld) (v : Int) : (s.setFldI g v).rxF = s.rxF := rfl
@[simp] theorem setFldI_rxM (g : Fld) (v : Int) : (s.setFldI g v).rxM = s.rxM := rfl
@[simp] theorem setFldI_opens (g : Fld) (v : Int) : (s.setFldI g v).opens = s.opens := rfl
@[simp] theorem setFldI_after (g : Fld) (v : Int) : (s.setFldI g v).after = s.after := rfl
@[simp] theorem setFldI_finals (g : Fld) (v : Int) : (s.setFldI g v).finals = s.finals := rfl
@[simp] theorem setFldI_nextId (g : Fld) (v : Int) : (s.setFldI g v).nextId = s.nextId := rfl
@[simp] theorem setFldI_long (g : Fld) (v : Int) : (s.setFldI g v).long = s.long := rfl
@[simp] theorem setFldI_br (g : Fld) (v : Int) : (s.setFldI g v).br = s.br := rfl
@[simp] theorem setFldI_ffn (g : Fld) (v : Int) : (s.setFldI g v).ffn = s.ffn := rfl
@[simp] theorem setFldI_engA (g : Fld) (v : Int) : (s.setFldI g v).engA = s.engA := rfl
@[simp] theorem setFldI_engB (g : Fld) (v : Int) : (s.setFldI g v).engB = s.engB := rfl
@[simp] theorem setFldI_stk (g : Fld) (v : Int) : (s.setFldI g v).stk = s.stk := rfl
@[simp] theorem setFldI_tl (g : Fld) (v : Int) : (s.setFldI g v).tl = s.tl := rfl
@[simp] theorem setFldI_rail (g : Fld) (v : Int) : (s.setFldI g v).rail = s.rail := rfl
@[simp] theorem setFldI_dplx (g : Fld) (v : Int) : (s.setFldI g v).dplx = s.dplx := rfl
@[simp] theorem setFldI_safe (g : Fld) (v : Int) : (s.setFldI g v).safe = s.safe := rfl
@[simp] theorem setFldI_diag (g : Fld) (v : Int) : (s.setFldI g v).diag = s.diag := rfl
@[simp] theorem setFldI_cal (g : Fld) (v : Int) : (s.setFldI g v).cal = s.cal := rfl
@[simp] theorem setFldI_therm (g : Fld) (v : Int) : (s.setFldI g v).therm = s.therm := rfl
@[simp] theorem setFldI_clk (g : Fld) (v : Int) : (s.setFldI g v).clk = s.clk := rfl
@[simp] theorem setFldI_store (g : Fld) (v : Int) : (s.setFldI g v).store = s.store := rfl
@[simp] theorem setFldI_mode (g : Fld) (v : Int) : (s.setFldI g v).mode = s.mode := rfl
@[simp] theorem setFldI_eng (g : Fld) (v : Int) (x : Side) : (s.setFldI g v).eng x = s.eng x := by cases x <;> rfl
@[simp] theorem setFldI_cluster (g : Fld) (v : Int) (x : Side) (y : Cluster) : (s.setFldI g v).cluster x y = s.cluster x y := by cases x <;> rfl

/-! `setBit` -/

@[simp] theorem setBit_pending (g : Fld) (b : Bool) : (s.setBit g b).pending = s.pending := rfl
@[simp] theorem setBit_now (g : Fld) (b : Bool) : (s.setBit g b).now = s.now := rfl
@[simp] theorem setBit_free (g : Fld) (b : Bool) : (s.setBit g b).free = s.free := rfl
@[simp] theorem setBit_raised (g : Fld) (b : Bool) : (s.setBit g b).raised = s.raised := rfl
@[simp] theorem setBit_pwr (g : Fld) (b : Bool) : (s.setBit g b).pwr = s.pwr := rfl
@[simp] theorem setBit_seq (g : Fld) (b : Bool) : (s.setBit g b).seq = s.seq := rfl
@[simp] theorem setBit_ctx (g : Fld) (b : Bool) : (s.setBit g b).ctx = s.ctx := rfl
@[simp] theorem setBit_port (g : Fld) (b : Bool) : (s.setBit g b).port = s.port := rfl
@[simp] theorem setBit_spi (g : Fld) (b : Bool) : (s.setBit g b).spi = s.spi := rfl
@[simp] theorem setBit_can (g : Fld) (b : Bool) : (s.setBit g b).can = s.can := rfl
@[simp] theorem setBit_outq (g : Fld) (b : Bool) : (s.setBit g b).outq = s.outq := rfl
@[simp] theorem setBit_rxF (g : Fld) (b : Bool) : (s.setBit g b).rxF = s.rxF := rfl
@[simp] theorem setBit_rxM (g : Fld) (b : Bool) : (s.setBit g b).rxM = s.rxM := rfl
@[simp] theorem setBit_opens (g : Fld) (b : Bool) : (s.setBit g b).opens = s.opens := rfl
@[simp] theorem setBit_after (g : Fld) (b : Bool) : (s.setBit g b).after = s.after := rfl
@[simp] theorem setBit_finals (g : Fld) (b : Bool) : (s.setBit g b).finals = s.finals := rfl
@[simp] theorem setBit_nextId (g : Fld) (b : Bool) : (s.setBit g b).nextId = s.nextId := rfl
@[simp] theorem setBit_long (g : Fld) (b : Bool) : (s.setBit g b).long = s.long := rfl
@[simp] theorem setBit_br (g : Fld) (b : Bool) : (s.setBit g b).br = s.br := rfl
@[simp] theorem setBit_ffn (g : Fld) (b : Bool) : (s.setBit g b).ffn = s.ffn := rfl
@[simp] theorem setBit_engA (g : Fld) (b : Bool) : (s.setBit g b).engA = s.engA := rfl
@[simp] theorem setBit_engB (g : Fld) (b : Bool) : (s.setBit g b).engB = s.engB := rfl
@[simp] theorem setBit_stk (g : Fld) (b : Bool) : (s.setBit g b).stk = s.stk := rfl
@[simp] theorem setBit_tl (g : Fld) (b : Bool) : (s.setBit g b).tl = s.tl := rfl
@[simp] theorem setBit_rail (g : Fld) (b : Bool) : (s.setBit g b).rail = s.rail := rfl
@[simp] theorem setBit_dplx (g : Fld) (b : Bool) : (s.setBit g b).dplx = s.dplx := rfl
@[simp] theorem setBit_safe (g : Fld) (b : Bool) : (s.setBit g b).safe = s.safe := rfl
@[simp] theorem setBit_diag (g : Fld) (b : Bool) : (s.setBit g b).diag = s.diag := rfl
@[simp] theorem setBit_cal (g : Fld) (b : Bool) : (s.setBit g b).cal = s.cal := rfl
@[simp] theorem setBit_therm (g : Fld) (b : Bool) : (s.setBit g b).therm = s.therm := rfl
@[simp] theorem setBit_clk (g : Fld) (b : Bool) : (s.setBit g b).clk = s.clk := rfl
@[simp] theorem setBit_store (g : Fld) (b : Bool) : (s.setBit g b).store = s.store := rfl
@[simp] theorem setBit_mode (g : Fld) (b : Bool) : (s.setBit g b).mode = s.mode := rfl
@[simp] theorem setBit_eng (g : Fld) (b : Bool) (x : Side) : (s.setBit g b).eng x = s.eng x := by cases x <;> rfl
@[simp] theorem setBit_cluster (g : Fld) (b : Bool) (x : Side) (y : Cluster) : (s.setBit g b).cluster x y = s.cluster x y := by cases x <;> rfl

/-! `addFld` -/

@[simp] theorem addFld_pending (g : Fld) (n : Nat) : (s.addFld g n).pending = s.pending := rfl
@[simp] theorem addFld_now (g : Fld) (n : Nat) : (s.addFld g n).now = s.now := rfl
@[simp] theorem addFld_free (g : Fld) (n : Nat) : (s.addFld g n).free = s.free := rfl
@[simp] theorem addFld_raised (g : Fld) (n : Nat) : (s.addFld g n).raised = s.raised := rfl
@[simp] theorem addFld_pwr (g : Fld) (n : Nat) : (s.addFld g n).pwr = s.pwr := rfl
@[simp] theorem addFld_seq (g : Fld) (n : Nat) : (s.addFld g n).seq = s.seq := rfl
@[simp] theorem addFld_ctx (g : Fld) (n : Nat) : (s.addFld g n).ctx = s.ctx := rfl
@[simp] theorem addFld_port (g : Fld) (n : Nat) : (s.addFld g n).port = s.port := rfl
@[simp] theorem addFld_spi (g : Fld) (n : Nat) : (s.addFld g n).spi = s.spi := rfl
@[simp] theorem addFld_can (g : Fld) (n : Nat) : (s.addFld g n).can = s.can := rfl
@[simp] theorem addFld_outq (g : Fld) (n : Nat) : (s.addFld g n).outq = s.outq := rfl
@[simp] theorem addFld_rxF (g : Fld) (n : Nat) : (s.addFld g n).rxF = s.rxF := rfl
@[simp] theorem addFld_rxM (g : Fld) (n : Nat) : (s.addFld g n).rxM = s.rxM := rfl
@[simp] theorem addFld_opens (g : Fld) (n : Nat) : (s.addFld g n).opens = s.opens := rfl
@[simp] theorem addFld_after (g : Fld) (n : Nat) : (s.addFld g n).after = s.after := rfl
@[simp] theorem addFld_finals (g : Fld) (n : Nat) : (s.addFld g n).finals = s.finals := rfl
@[simp] theorem addFld_nextId (g : Fld) (n : Nat) : (s.addFld g n).nextId = s.nextId := rfl
@[simp] theorem addFld_long (g : Fld) (n : Nat) : (s.addFld g n).long = s.long := rfl
@[simp] theorem addFld_br (g : Fld) (n : Nat) : (s.addFld g n).br = s.br := rfl
@[simp] theorem addFld_ffn (g : Fld) (n : Nat) : (s.addFld g n).ffn = s.ffn := rfl
@[simp] theorem addFld_engA (g : Fld) (n : Nat) : (s.addFld g n).engA = s.engA := rfl
@[simp] theorem addFld_engB (g : Fld) (n : Nat) : (s.addFld g n).engB = s.engB := rfl
@[simp] theorem addFld_stk (g : Fld) (n : Nat) : (s.addFld g n).stk = s.stk := rfl
@[simp] theorem addFld_tl (g : Fld) (n : Nat) : (s.addFld g n).tl = s.tl := rfl
@[simp] theorem addFld_rail (g : Fld) (n : Nat) : (s.addFld g n).rail = s.rail := rfl
@[simp] theorem addFld_dplx (g : Fld) (n : Nat) : (s.addFld g n).dplx = s.dplx := rfl
@[simp] theorem addFld_safe (g : Fld) (n : Nat) : (s.addFld g n).safe = s.safe := rfl
@[simp] theorem addFld_diag (g : Fld) (n : Nat) : (s.addFld g n).diag = s.diag := rfl
@[simp] theorem addFld_cal (g : Fld) (n : Nat) : (s.addFld g n).cal = s.cal := rfl
@[simp] theorem addFld_therm (g : Fld) (n : Nat) : (s.addFld g n).therm = s.therm := rfl
@[simp] theorem addFld_clk (g : Fld) (n : Nat) : (s.addFld g n).clk = s.clk := rfl
@[simp] theorem addFld_store (g : Fld) (n : Nat) : (s.addFld g n).store = s.store := rfl
@[simp] theorem addFld_mode (g : Fld) (n : Nat) : (s.addFld g n).mode = s.mode := rfl
@[simp] theorem addFld_eng (g : Fld) (n : Nat) (x : Side) : (s.addFld g n).eng x = s.eng x := by cases x <;> rfl
@[simp] theorem addFld_cluster (g : Fld) (n : Nat) (x : Side) (y : Cluster) : (s.addFld g n).cluster x y = s.cluster x y := by cases x <;> rfl

/-! `inc` -/

@[simp] theorem inc_pending (g : Fld) : (s.inc g).pending = s.pending := rfl
@[simp] theorem inc_now (g : Fld) : (s.inc g).now = s.now := rfl
@[simp] theorem inc_free (g : Fld) : (s.inc g).free = s.free := rfl
@[simp] theorem inc_raised (g : Fld) : (s.inc g).raised = s.raised := rfl
@[simp] theorem inc_pwr (g : Fld) : (s.inc g).pwr = s.pwr := rfl
@[simp] theorem inc_seq (g : Fld) : (s.inc g).seq = s.seq := rfl
@[simp] theorem inc_ctx (g : Fld) : (s.inc g).ctx = s.ctx := rfl
@[simp] theorem inc_port (g : Fld) : (s.inc g).port = s.port := rfl
@[simp] theorem inc_spi (g : Fld) : (s.inc g).spi = s.spi := rfl
@[simp] theorem inc_can (g : Fld) : (s.inc g).can = s.can := rfl
@[simp] theorem inc_outq (g : Fld) : (s.inc g).outq = s.outq := rfl
@[simp] theorem inc_rxF (g : Fld) : (s.inc g).rxF = s.rxF := rfl
@[simp] theorem inc_rxM (g : Fld) : (s.inc g).rxM = s.rxM := rfl
@[simp] theorem inc_opens (g : Fld) : (s.inc g).opens = s.opens := rfl
@[simp] theorem inc_after (g : Fld) : (s.inc g).after = s.after := rfl
@[simp] theorem inc_finals (g : Fld) : (s.inc g).finals = s.finals := rfl
@[simp] theorem inc_nextId (g : Fld) : (s.inc g).nextId = s.nextId := rfl
@[simp] theorem inc_long (g : Fld) : (s.inc g).long = s.long := rfl
@[simp] theorem inc_br (g : Fld) : (s.inc g).br = s.br := rfl
@[simp] theorem inc_ffn (g : Fld) : (s.inc g).ffn = s.ffn := rfl
@[simp] theorem inc_engA (g : Fld) : (s.inc g).engA = s.engA := rfl
@[simp] theorem inc_engB (g : Fld) : (s.inc g).engB = s.engB := rfl
@[simp] theorem inc_stk (g : Fld) : (s.inc g).stk = s.stk := rfl
@[simp] theorem inc_tl (g : Fld) : (s.inc g).tl = s.tl := rfl
@[simp] theorem inc_rail (g : Fld) : (s.inc g).rail = s.rail := rfl
@[simp] theorem inc_dplx (g : Fld) : (s.inc g).dplx = s.dplx := rfl
@[simp] theorem inc_safe (g : Fld) : (s.inc g).safe = s.safe := rfl
@[simp] theorem inc_diag (g : Fld) : (s.inc g).diag = s.diag := rfl
@[simp] theorem inc_cal (g : Fld) : (s.inc g).cal = s.cal := rfl
@[simp] theorem inc_therm (g : Fld) : (s.inc g).therm = s.therm := rfl
@[simp] theorem inc_clk (g : Fld) : (s.inc g).clk = s.clk := rfl
@[simp] theorem inc_store (g : Fld) : (s.inc g).store = s.store := rfl
@[simp] theorem inc_mode (g : Fld) : (s.inc g).mode = s.mode := rfl
@[simp] theorem inc_eng (g : Fld) (x : Side) : (s.inc g).eng x = s.eng x := by cases x <;> rfl
@[simp] theorem inc_cluster (g : Fld) (x : Side) (y : Cluster) : (s.inc g).cluster x y = s.cluster x y := by cases x <;> rfl

/-! `incWrap` -/

@[simp] theorem incWrap_pending (g : Fld) : (s.incWrap g).pending = s.pending := rfl
@[simp] theorem incWrap_now (g : Fld) : (s.incWrap g).now = s.now := rfl
@[simp] theorem incWrap_free (g : Fld) : (s.incWrap g).free = s.free := rfl
@[simp] theorem incWrap_raised (g : Fld) : (s.incWrap g).raised = s.raised := rfl
@[simp] theorem incWrap_pwr (g : Fld) : (s.incWrap g).pwr = s.pwr := rfl
@[simp] theorem incWrap_seq (g : Fld) : (s.incWrap g).seq = s.seq := rfl
@[simp] theorem incWrap_ctx (g : Fld) : (s.incWrap g).ctx = s.ctx := rfl
@[simp] theorem incWrap_port (g : Fld) : (s.incWrap g).port = s.port := rfl
@[simp] theorem incWrap_spi (g : Fld) : (s.incWrap g).spi = s.spi := rfl
@[simp] theorem incWrap_can (g : Fld) : (s.incWrap g).can = s.can := rfl
@[simp] theorem incWrap_outq (g : Fld) : (s.incWrap g).outq = s.outq := rfl
@[simp] theorem incWrap_rxF (g : Fld) : (s.incWrap g).rxF = s.rxF := rfl
@[simp] theorem incWrap_rxM (g : Fld) : (s.incWrap g).rxM = s.rxM := rfl
@[simp] theorem incWrap_opens (g : Fld) : (s.incWrap g).opens = s.opens := rfl
@[simp] theorem incWrap_after (g : Fld) : (s.incWrap g).after = s.after := rfl
@[simp] theorem incWrap_finals (g : Fld) : (s.incWrap g).finals = s.finals := rfl
@[simp] theorem incWrap_nextId (g : Fld) : (s.incWrap g).nextId = s.nextId := rfl
@[simp] theorem incWrap_long (g : Fld) : (s.incWrap g).long = s.long := rfl
@[simp] theorem incWrap_br (g : Fld) : (s.incWrap g).br = s.br := rfl
@[simp] theorem incWrap_ffn (g : Fld) : (s.incWrap g).ffn = s.ffn := rfl
@[simp] theorem incWrap_engA (g : Fld) : (s.incWrap g).engA = s.engA := rfl
@[simp] theorem incWrap_engB (g : Fld) : (s.incWrap g).engB = s.engB := rfl
@[simp] theorem incWrap_stk (g : Fld) : (s.incWrap g).stk = s.stk := rfl
@[simp] theorem incWrap_tl (g : Fld) : (s.incWrap g).tl = s.tl := rfl
@[simp] theorem incWrap_rail (g : Fld) : (s.incWrap g).rail = s.rail := rfl
@[simp] theorem incWrap_dplx (g : Fld) : (s.incWrap g).dplx = s.dplx := rfl
@[simp] theorem incWrap_safe (g : Fld) : (s.incWrap g).safe = s.safe := rfl
@[simp] theorem incWrap_diag (g : Fld) : (s.incWrap g).diag = s.diag := rfl
@[simp] theorem incWrap_cal (g : Fld) : (s.incWrap g).cal = s.cal := rfl
@[simp] theorem incWrap_therm (g : Fld) : (s.incWrap g).therm = s.therm := rfl
@[simp] theorem incWrap_clk (g : Fld) : (s.incWrap g).clk = s.clk := rfl
@[simp] theorem incWrap_store (g : Fld) : (s.incWrap g).store = s.store := rfl
@[simp] theorem incWrap_mode (g : Fld) : (s.incWrap g).mode = s.mode := rfl
@[simp] theorem incWrap_eng (g : Fld) (x : Side) : (s.incWrap g).eng x = s.eng x := by cases x <;> rfl
@[simp] theorem incWrap_cluster (g : Fld) (x : Side) (y : Cluster) : (s.incWrap g).cluster x y = s.cluster x y := by cases x <;> rfl

/-! `draw` -/

@[simp] theorem draw_pending  : (s.draw.2).pending = s.pending := rfl
@[simp] theorem draw_now  : (s.draw.2).now = s.now := rfl
@[simp] theorem draw_regs  : (s.draw.2).regs = s.regs := rfl
@[simp] theorem draw_raised  : (s.draw.2).raised = s.raised := rfl
@[simp] theorem draw_old  : (s.draw.2).old = s.old := rfl
@[simp] theorem draw_pwr  : (s.draw.2).pwr = s.pwr := rfl
@[simp] theorem draw_seq  : (s.draw.2).seq = s.seq := rfl
@[simp] theorem draw_ctx  : (s.draw.2).ctx = s.ctx := rfl
@[simp] theorem draw_port  : (s.draw.2).port = s.port := rfl
@[simp] theorem draw_spi  : (s.draw.2).spi = s.spi := rfl
@[simp] theorem draw_can  : (s.draw.2).can = s.can := rfl
@[simp] theorem draw_outq  : (s.draw.2).outq = s.outq := rfl
@[simp] theorem draw_rxF  : (s.draw.2).rxF = s.rxF := rfl
@[simp] theorem draw_rxM  : (s.draw.2).rxM = s.rxM := rfl
@[simp] theorem draw_opens  : (s.draw.2).opens = s.opens := rfl
@[simp] theorem draw_after  : (s.draw.2).after = s.after := rfl
@[simp] theorem draw_finals  : (s.draw.2).finals = s.finals := rfl
@[simp] theorem draw_nextId  : (s.draw.2).nextId = s.nextId := rfl
@[simp] theorem draw_long  : (s.draw.2).long = s.long := rfl
@[simp] theorem draw_br  : (s.draw.2).br = s.br := rfl
@[simp] theorem draw_ffn  : (s.draw.2).ffn = s.ffn := rfl
@[simp] theorem draw_engA  : (s.draw.2).engA = s.engA := rfl
@[simp] theorem draw_engB  : (s.draw.2).engB = s.engB := rfl
@[simp] theorem draw_stk  : (s.draw.2).stk = s.stk := rfl
@[simp] theorem draw_tl  : (s.draw.2).tl = s.tl := rfl
@[simp] theorem draw_rail  : (s.draw.2).rail = s.rail := rfl
@[simp] theorem draw_dplx  : (s.draw.2).dplx = s.dplx := rfl
@[simp] theorem draw_safe  : (s.draw.2).safe = s.safe := rfl
@[simp] theorem draw_diag  : (s.draw.2).diag = s.diag := rfl
@[simp] theorem draw_cal  : (s.draw.2).cal = s.cal := rfl
@[simp] theorem draw_therm  : (s.draw.2).therm = s.therm := rfl
@[simp] theorem draw_clk  : (s.draw.2).clk = s.clk := rfl
@[simp] theorem draw_store  : (s.draw.2).store = s.store := rfl
@[simp] theorem draw_reg  (x : Nat) : (s.draw.2).reg x = s.reg x := rfl
@[simp] theorem draw_fld  (x : Fld) : (s.draw.2).fld x = s.fld x := rfl
@[simp] theorem draw_bit  (x : Fld) : (s.draw.2).bit x = s.bit x := rfl
@[simp] theorem draw_mode  : (s.draw.2).mode = s.mode := rfl
@[simp] theorem draw_eng  (x : Side) : (s.draw.2).eng x = s.eng x := by cases x <;> rfl
@[simp] theorem draw_cluster  (x : Side) (y : Cluster) : (s.draw.2).cluster x y = s.cluster x y := by cases x <;> rfl

/-! `updCtx` -/

@[simp] theorem updCtx_pending (c : Ctx) (f : CtxState → CtxState) : (s.updCtx c f).pending = s.pending := rfl
@[simp] theorem updCtx_now (c : Ctx) (f : CtxState → CtxState) : (s.updCtx c f).now = s.now := rfl
@[simp] theorem updCtx_free (c : Ctx) (f : CtxState → CtxState) : (s.updCtx c f).free = s.free := rfl
@[simp] theorem updCtx_regs (c : Ctx) (f : CtxState → CtxState) : (s.updCtx c f).regs = s.regs := rfl
@[simp] theorem updCtx_raised (c : Ctx) (f : CtxState → CtxState) : (s.updCtx c f).raised = s.raised := rfl
@[simp] theorem updCtx_old (c : Ctx) (f : CtxState → CtxState) : (s.updCtx c f).old = s.old := rfl
@[simp] theorem updCtx_pwr (c : Ctx) (f : CtxState → CtxState) : (s.updCtx c f).pwr = s.pwr := rfl
@[simp] theorem updCtx_seq (c : Ctx) (f : CtxState → CtxState) : (s.updCtx c f).seq = s.seq := rfl
@[simp] theorem updCtx_port (c : Ctx) (f : CtxState → CtxState) : (s.updCtx c f).port = s.port := rfl
@[simp] theorem updCtx_spi (c : Ctx) (f : CtxState → CtxState) : (s.updCtx c f).spi = s.spi := rfl
@[simp] theorem updCtx_can (c : Ctx) (f : CtxState → CtxState) : (s.updCtx c f).can = s.can := rfl
@[simp] theorem updCtx_outq (c : Ctx) (f : CtxState → CtxState) : (s.updCtx c f).outq = s.outq := rfl
@[simp] theorem updCtx_rxF (c : Ctx) (f : CtxState → CtxState) : (s.updCtx c f).rxF = s.rxF := rfl
@[simp] theorem updCtx_rxM (c : Ctx) (f : CtxState → CtxState) : (s.updCtx c f).rxM = s.rxM := rfl
@[simp] theorem updCtx_opens (c : Ctx) (f : CtxState → CtxState) : (s.updCtx c f).opens = s.opens := rfl
@[simp] theorem updCtx_after (c : Ctx) (f : CtxState → CtxState) : (s.updCtx c f).after = s.after := rfl
@[simp] theorem updCtx_finals (c : Ctx) (f : CtxState → CtxState) : (s.updCtx c f).finals = s.finals := rfl
@[simp] theorem updCtx_nextId (c : Ctx) (f : CtxState → CtxState) : (s.updCtx c f).nextId = s.nextId := rfl
@[simp] theorem updCtx_long (c : Ctx) (f : CtxState → CtxState) : (s.updCtx c f).long = s.long := rfl
@[simp] theorem updCtx_br (c : Ctx) (f : CtxState → CtxState) : (s.updCtx c f).br = s.br := rfl
@[simp] theorem updCtx_ffn (c : Ctx) (f : CtxState → CtxState) : (s.updCtx c f).ffn = s.ffn := rfl
@[simp] theorem updCtx_engA (c : Ctx) (f : CtxState → CtxState) : (s.updCtx c f).engA = s.engA := rfl
@[simp] theorem updCtx_engB (c : Ctx) (f : CtxState → CtxState) : (s.updCtx c f).engB = s.engB := rfl
@[simp] theorem updCtx_stk (c : Ctx) (f : CtxState → CtxState) : (s.updCtx c f).stk = s.stk := rfl
@[simp] theorem updCtx_tl (c : Ctx) (f : CtxState → CtxState) : (s.updCtx c f).tl = s.tl := rfl
@[simp] theorem updCtx_rail (c : Ctx) (f : CtxState → CtxState) : (s.updCtx c f).rail = s.rail := rfl
@[simp] theorem updCtx_dplx (c : Ctx) (f : CtxState → CtxState) : (s.updCtx c f).dplx = s.dplx := rfl
@[simp] theorem updCtx_safe (c : Ctx) (f : CtxState → CtxState) : (s.updCtx c f).safe = s.safe := rfl
@[simp] theorem updCtx_diag (c : Ctx) (f : CtxState → CtxState) : (s.updCtx c f).diag = s.diag := rfl
@[simp] theorem updCtx_cal (c : Ctx) (f : CtxState → CtxState) : (s.updCtx c f).cal = s.cal := rfl
@[simp] theorem updCtx_therm (c : Ctx) (f : CtxState → CtxState) : (s.updCtx c f).therm = s.therm := rfl
@[simp] theorem updCtx_clk (c : Ctx) (f : CtxState → CtxState) : (s.updCtx c f).clk = s.clk := rfl
@[simp] theorem updCtx_store (c : Ctx) (f : CtxState → CtxState) : (s.updCtx c f).store = s.store := rfl
@[simp] theorem updCtx_reg (c : Ctx) (f : CtxState → CtxState) (x : Nat) : (s.updCtx c f).reg x = s.reg x := rfl
@[simp] theorem updCtx_fld (c : Ctx) (f : CtxState → CtxState) (x : Fld) : (s.updCtx c f).fld x = s.fld x := rfl
@[simp] theorem updCtx_bit (c : Ctx) (f : CtxState → CtxState) (x : Fld) : (s.updCtx c f).bit x = s.bit x := rfl
@[simp] theorem updCtx_mode (c : Ctx) (f : CtxState → CtxState) : (s.updCtx c f).mode = s.mode := rfl
@[simp] theorem updCtx_eng (c : Ctx) (f : CtxState → CtxState) (x : Side) : (s.updCtx c f).eng x = s.eng x := by cases x <;> rfl
@[simp] theorem updCtx_cluster (c : Ctx) (f : CtxState → CtxState) (x : Side) (y : Cluster) : (s.updCtx c f).cluster x y = s.cluster x y := by cases x <;> rfl

/-! `updOut` -/

@[simp] theorem updOut_pending (i : Iface) (f : OutQ → OutQ) : (s.updOut i f).pending = s.pending := rfl
@[simp] theorem updOut_now (i : Iface) (f : OutQ → OutQ) : (s.updOut i f).now = s.now := rfl
@[simp] theorem updOut_free (i : Iface) (f : OutQ → OutQ) : (s.updOut i f).free = s.free := rfl
@[simp] theorem updOut_regs (i : Iface) (f : OutQ → OutQ) : (s.updOut i f).regs = s.regs := rfl
@[simp] theorem updOut_raised (i : Iface) (f : OutQ → OutQ) : (s.updOut i f).raised = s.raised := rfl
@[simp] theorem updOut_old (i : Iface) (f : OutQ → OutQ) : (s.updOut i f).old = s.old := rfl
@[simp] theorem updOut_pwr (i : Iface) (f : OutQ → OutQ) : (s.updOut i f).pwr = s.pwr := rfl
@[simp] theorem updOut_seq (i : Iface) (f : OutQ → OutQ) : (s.updOut i f).seq = s.seq := rfl
@[simp] theorem updOut_ctx (i : Iface) (f : OutQ → OutQ) : (s.updOut i f).ctx = s.ctx := rfl
@[simp] theorem updOut_port (i : Iface) (f : OutQ → OutQ) : (s.updOut i f).port = s.port := rfl
@[simp] theorem updOut_spi (i : Iface) (f : OutQ → OutQ) : (s.updOut i f).spi = s.spi := rfl
@[simp] theorem updOut_can (i : Iface) (f : OutQ → OutQ) : (s.updOut i f).can = s.can := rfl
@[simp] theorem updOut_rxF (i : Iface) (f : OutQ → OutQ) : (s.updOut i f).rxF = s.rxF := rfl
@[simp] theorem updOut_rxM (i : Iface) (f : OutQ → OutQ) : (s.updOut i f).rxM = s.rxM := rfl
@[simp] theorem updOut_opens (i : Iface) (f : OutQ → OutQ) : (s.updOut i f).opens = s.opens := rfl
@[simp] theorem updOut_after (i : Iface) (f : OutQ → OutQ) : (s.updOut i f).after = s.after := rfl
@[simp] theorem updOut_finals (i : Iface) (f : OutQ → OutQ) : (s.updOut i f).finals = s.finals := rfl
@[simp] theorem updOut_nextId (i : Iface) (f : OutQ → OutQ) : (s.updOut i f).nextId = s.nextId := rfl
@[simp] theorem updOut_long (i : Iface) (f : OutQ → OutQ) : (s.updOut i f).long = s.long := rfl
@[simp] theorem updOut_br (i : Iface) (f : OutQ → OutQ) : (s.updOut i f).br = s.br := rfl
@[simp] theorem updOut_ffn (i : Iface) (f : OutQ → OutQ) : (s.updOut i f).ffn = s.ffn := rfl
@[simp] theorem updOut_engA (i : Iface) (f : OutQ → OutQ) : (s.updOut i f).engA = s.engA := rfl
@[simp] theorem updOut_engB (i : Iface) (f : OutQ → OutQ) : (s.updOut i f).engB = s.engB := rfl
@[simp] theorem updOut_stk (i : Iface) (f : OutQ → OutQ) : (s.updOut i f).stk = s.stk := rfl
@[simp] theorem updOut_tl (i : Iface) (f : OutQ → OutQ) : (s.updOut i f).tl = s.tl := rfl
@[simp] theorem updOut_rail (i : Iface) (f : OutQ → OutQ) : (s.updOut i f).rail = s.rail := rfl
@[simp] theorem updOut_dplx (i : Iface) (f : OutQ → OutQ) : (s.updOut i f).dplx = s.dplx := rfl
@[simp] theorem updOut_safe (i : Iface) (f : OutQ → OutQ) : (s.updOut i f).safe = s.safe := rfl
@[simp] theorem updOut_diag (i : Iface) (f : OutQ → OutQ) : (s.updOut i f).diag = s.diag := rfl
@[simp] theorem updOut_cal (i : Iface) (f : OutQ → OutQ) : (s.updOut i f).cal = s.cal := rfl
@[simp] theorem updOut_therm (i : Iface) (f : OutQ → OutQ) : (s.updOut i f).therm = s.therm := rfl
@[simp] theorem updOut_clk (i : Iface) (f : OutQ → OutQ) : (s.updOut i f).clk = s.clk := rfl
@[simp] theorem updOut_store (i : Iface) (f : OutQ → OutQ) : (s.updOut i f).store = s.store := rfl
@[simp] theorem updOut_reg (i : Iface) (f : OutQ → OutQ) (x : Nat) : (s.updOut i f).reg x = s.reg x := rfl
@[simp] theorem updOut_fld (i : Iface) (f : OutQ → OutQ) (x : Fld) : (s.updOut i f).fld x = s.fld x := rfl
@[simp] theorem updOut_bit (i : Iface) (f : OutQ → OutQ) (x : Fld) : (s.updOut i f).bit x = s.bit x := rfl
@[simp] theorem updOut_mode (i : Iface) (f : OutQ → OutQ) : (s.updOut i f).mode = s.mode := rfl
@[simp] theorem updOut_eng (i : Iface) (f : OutQ → OutQ) (x : Side) : (s.updOut i f).eng x = s.eng x := by cases x <;> rfl
@[simp] theorem updOut_cluster (i : Iface) (f : OutQ → OutQ) (x : Side) (y : Cluster) : (s.updOut i f).cluster x y = s.cluster x y := by cases x <;> rfl

/-! `updPort` -/

@[simp] theorem updPort_pending (p : Port) (f : PortState → PortState) : (s.updPort p f).pending = s.pending := rfl
@[simp] theorem updPort_now (p : Port) (f : PortState → PortState) : (s.updPort p f).now = s.now := rfl
@[simp] theorem updPort_free (p : Port) (f : PortState → PortState) : (s.updPort p f).free = s.free := rfl
@[simp] theorem updPort_regs (p : Port) (f : PortState → PortState) : (s.updPort p f).regs = s.regs := rfl
@[simp] theorem updPort_raised (p : Port) (f : PortState → PortState) : (s.updPort p f).raised = s.raised := rfl
@[simp] theorem updPort_old (p : Port) (f : PortState → PortState) : (s.updPort p f).old = s.old := rfl
@[simp] theorem updPort_pwr (p : Port) (f : PortState → PortState) : (s.updPort p f).pwr = s.pwr := rfl
@[simp] theorem updPort_seq (p : Port) (f : PortState → PortState) : (s.updPort p f).seq = s.seq := rfl
@[simp] theorem updPort_ctx (p : Port) (f : PortState → PortState) : (s.updPort p f).ctx = s.ctx := rfl
@[simp] theorem updPort_spi (p : Port) (f : PortState → PortState) : (s.updPort p f).spi = s.spi := rfl
@[simp] theorem updPort_can (p : Port) (f : PortState → PortState) : (s.updPort p f).can = s.can := rfl
@[simp] theorem updPort_outq (p : Port) (f : PortState → PortState) : (s.updPort p f).outq = s.outq := rfl
@[simp] theorem updPort_rxF (p : Port) (f : PortState → PortState) : (s.updPort p f).rxF = s.rxF := rfl
@[simp] theorem updPort_rxM (p : Port) (f : PortState → PortState) : (s.updPort p f).rxM = s.rxM := rfl
@[simp] theorem updPort_opens (p : Port) (f : PortState → PortState) : (s.updPort p f).opens = s.opens := rfl
@[simp] theorem updPort_after (p : Port) (f : PortState → PortState) : (s.updPort p f).after = s.after := rfl
@[simp] theorem updPort_finals (p : Port) (f : PortState → PortState) : (s.updPort p f).finals = s.finals := rfl
@[simp] theorem updPort_nextId (p : Port) (f : PortState → PortState) : (s.updPort p f).nextId = s.nextId := rfl
@[simp] theorem updPort_long (p : Port) (f : PortState → PortState) : (s.updPort p f).long = s.long := rfl
@[simp] theorem updPort_br (p : Port) (f : PortState → PortState) : (s.updPort p f).br = s.br := rfl
@[simp] theorem updPort_ffn (p : Port) (f : PortState → PortState) : (s.updPort p f).ffn = s.ffn := rfl
@[simp] theorem updPort_engA (p : Port) (f : PortState → PortState) : (s.updPort p f).engA = s.engA := rfl
@[simp] theorem updPort_engB (p : Port) (f : PortState → PortState) : (s.updPort p f).engB = s.engB := rfl
@[simp] theorem updPort_stk (p : Port) (f : PortState → PortState) : (s.updPort p f).stk = s.stk := rfl
@[simp] theorem updPort_tl (p : Port) (f : PortState → PortState) : (s.updPort p f).tl = s.tl := rfl
@[simp] theorem updPort_rail (p : Port) (f : PortState → PortState) : (s.updPort p f).rail = s.rail := rfl
@[simp] theorem updPort_dplx (p : Port) (f : PortState → PortState) : (s.updPort p f).dplx = s.dplx := rfl
@[simp] theorem updPort_safe (p : Port) (f : PortState → PortState) : (s.updPort p f).safe = s.safe := rfl
@[simp] theorem updPort_diag (p : Port) (f : PortState → PortState) : (s.updPort p f).diag = s.diag := rfl
@[simp] theorem updPort_cal (p : Port) (f : PortState → PortState) : (s.updPort p f).cal = s.cal := rfl
@[simp] theorem updPort_therm (p : Port) (f : PortState → PortState) : (s.updPort p f).therm = s.therm := rfl
@[simp] theorem updPort_clk (p : Port) (f : PortState → PortState) : (s.updPort p f).clk = s.clk := rfl
@[simp] theorem updPort_store (p : Port) (f : PortState → PortState) : (s.updPort p f).store = s.store := rfl
@[simp] theorem updPort_reg (p : Port) (f : PortState → PortState) (x : Nat) : (s.updPort p f).reg x = s.reg x := rfl
@[simp] theorem updPort_fld (p : Port) (f : PortState → PortState) (x : Fld) : (s.updPort p f).fld x = s.fld x := rfl
@[simp] theorem updPort_bit (p : Port) (f : PortState → PortState) (x : Fld) : (s.updPort p f).bit x = s.bit x := rfl
@[simp] theorem updPort_mode (p : Port) (f : PortState → PortState) : (s.updPort p f).mode = s.mode := rfl
@[simp] theorem updPort_eng (p : Port) (f : PortState → PortState) (x : Side) : (s.updPort p f).eng x = s.eng x := by cases x <;> rfl
@[simp] theorem updPort_cluster (p : Port) (f : PortState → PortState) (x : Side) (y : Cluster) : (s.updPort p f).cluster x y = s.cluster x y := by cases x <;> rfl

/-! `updRail` -/

@[simp] theorem updRail_pending (z : Zone) (f : ZoneRail → ZoneRail) : (s.updRail z f).pending = s.pending := rfl
@[simp] theorem updRail_now (z : Zone) (f : ZoneRail → ZoneRail) : (s.updRail z f).now = s.now := rfl
@[simp] theorem updRail_free (z : Zone) (f : ZoneRail → ZoneRail) : (s.updRail z f).free = s.free := rfl
@[simp] theorem updRail_regs (z : Zone) (f : ZoneRail → ZoneRail) : (s.updRail z f).regs = s.regs := rfl
@[simp] theorem updRail_raised (z : Zone) (f : ZoneRail → ZoneRail) : (s.updRail z f).raised = s.raised := rfl
@[simp] theorem updRail_old (z : Zone) (f : ZoneRail → ZoneRail) : (s.updRail z f).old = s.old := rfl
@[simp] theorem updRail_pwr (z : Zone) (f : ZoneRail → ZoneRail) : (s.updRail z f).pwr = s.pwr := rfl
@[simp] theorem updRail_seq (z : Zone) (f : ZoneRail → ZoneRail) : (s.updRail z f).seq = s.seq := rfl
@[simp] theorem updRail_ctx (z : Zone) (f : ZoneRail → ZoneRail) : (s.updRail z f).ctx = s.ctx := rfl
@[simp] theorem updRail_port (z : Zone) (f : ZoneRail → ZoneRail) : (s.updRail z f).port = s.port := rfl
@[simp] theorem updRail_spi (z : Zone) (f : ZoneRail → ZoneRail) : (s.updRail z f).spi = s.spi := rfl
@[simp] theorem updRail_can (z : Zone) (f : ZoneRail → ZoneRail) : (s.updRail z f).can = s.can := rfl
@[simp] theorem updRail_outq (z : Zone) (f : ZoneRail → ZoneRail) : (s.updRail z f).outq = s.outq := rfl
@[simp] theorem updRail_rxF (z : Zone) (f : ZoneRail → ZoneRail) : (s.updRail z f).rxF = s.rxF := rfl
@[simp] theorem updRail_rxM (z : Zone) (f : ZoneRail → ZoneRail) : (s.updRail z f).rxM = s.rxM := rfl
@[simp] theorem updRail_opens (z : Zone) (f : ZoneRail → ZoneRail) : (s.updRail z f).opens = s.opens := rfl
@[simp] theorem updRail_after (z : Zone) (f : ZoneRail → ZoneRail) : (s.updRail z f).after = s.after := rfl
@[simp] theorem updRail_finals (z : Zone) (f : ZoneRail → ZoneRail) : (s.updRail z f).finals = s.finals := rfl
@[simp] theorem updRail_nextId (z : Zone) (f : ZoneRail → ZoneRail) : (s.updRail z f).nextId = s.nextId := rfl
@[simp] theorem updRail_long (z : Zone) (f : ZoneRail → ZoneRail) : (s.updRail z f).long = s.long := rfl
@[simp] theorem updRail_br (z : Zone) (f : ZoneRail → ZoneRail) : (s.updRail z f).br = s.br := rfl
@[simp] theorem updRail_ffn (z : Zone) (f : ZoneRail → ZoneRail) : (s.updRail z f).ffn = s.ffn := rfl
@[simp] theorem updRail_engA (z : Zone) (f : ZoneRail → ZoneRail) : (s.updRail z f).engA = s.engA := rfl
@[simp] theorem updRail_engB (z : Zone) (f : ZoneRail → ZoneRail) : (s.updRail z f).engB = s.engB := rfl
@[simp] theorem updRail_stk (z : Zone) (f : ZoneRail → ZoneRail) : (s.updRail z f).stk = s.stk := rfl
@[simp] theorem updRail_tl (z : Zone) (f : ZoneRail → ZoneRail) : (s.updRail z f).tl = s.tl := rfl
@[simp] theorem updRail_dplx (z : Zone) (f : ZoneRail → ZoneRail) : (s.updRail z f).dplx = s.dplx := rfl
@[simp] theorem updRail_safe (z : Zone) (f : ZoneRail → ZoneRail) : (s.updRail z f).safe = s.safe := rfl
@[simp] theorem updRail_diag (z : Zone) (f : ZoneRail → ZoneRail) : (s.updRail z f).diag = s.diag := rfl
@[simp] theorem updRail_cal (z : Zone) (f : ZoneRail → ZoneRail) : (s.updRail z f).cal = s.cal := rfl
@[simp] theorem updRail_therm (z : Zone) (f : ZoneRail → ZoneRail) : (s.updRail z f).therm = s.therm := rfl
@[simp] theorem updRail_clk (z : Zone) (f : ZoneRail → ZoneRail) : (s.updRail z f).clk = s.clk := rfl
@[simp] theorem updRail_store (z : Zone) (f : ZoneRail → ZoneRail) : (s.updRail z f).store = s.store := rfl
@[simp] theorem updRail_reg (z : Zone) (f : ZoneRail → ZoneRail) (x : Nat) : (s.updRail z f).reg x = s.reg x := rfl
@[simp] theorem updRail_fld (z : Zone) (f : ZoneRail → ZoneRail) (x : Fld) : (s.updRail z f).fld x = s.fld x := rfl
@[simp] theorem updRail_bit (z : Zone) (f : ZoneRail → ZoneRail) (x : Fld) : (s.updRail z f).bit x = s.bit x := rfl
@[simp] theorem updRail_mode (z : Zone) (f : ZoneRail → ZoneRail) : (s.updRail z f).mode = s.mode := rfl
@[simp] theorem updRail_eng (z : Zone) (f : ZoneRail → ZoneRail) (x : Side) : (s.updRail z f).eng x = s.eng x := by cases x <;> rfl
@[simp] theorem updRail_cluster (z : Zone) (f : ZoneRail → ZoneRail) (x : Side) (y : Cluster) : (s.updRail z f).cluster x y = s.cluster x y := by cases x <;> rfl

/-! `updEng` -/

@[simp] theorem updEng_pending (e : Side) (f : EngineState → EngineState) : (s.updEng e f).pending = s.pending := by cases e <;> rfl
@[simp] theorem updEng_now (e : Side) (f : EngineState → EngineState) : (s.updEng e f).now = s.now := by cases e <;> rfl
@[simp] theorem updEng_free (e : Side) (f : EngineState → EngineState) : (s.updEng e f).free = s.free := by cases e <;> rfl
@[simp] theorem updEng_regs (e : Side) (f : EngineState → EngineState) : (s.updEng e f).regs = s.regs := by cases e <;> rfl
@[simp] theorem updEng_raised (e : Side) (f : EngineState → EngineState) : (s.updEng e f).raised = s.raised := by cases e <;> rfl
@[simp] theorem updEng_old (e : Side) (f : EngineState → EngineState) : (s.updEng e f).old = s.old := by cases e <;> rfl
@[simp] theorem updEng_pwr (e : Side) (f : EngineState → EngineState) : (s.updEng e f).pwr = s.pwr := by cases e <;> rfl
@[simp] theorem updEng_seq (e : Side) (f : EngineState → EngineState) : (s.updEng e f).seq = s.seq := by cases e <;> rfl
@[simp] theorem updEng_ctx (e : Side) (f : EngineState → EngineState) : (s.updEng e f).ctx = s.ctx := by cases e <;> rfl
@[simp] theorem updEng_port (e : Side) (f : EngineState → EngineState) : (s.updEng e f).port = s.port := by cases e <;> rfl
@[simp] theorem updEng_spi (e : Side) (f : EngineState → EngineState) : (s.updEng e f).spi = s.spi := by cases e <;> rfl
@[simp] theorem updEng_can (e : Side) (f : EngineState → EngineState) : (s.updEng e f).can = s.can := by cases e <;> rfl
@[simp] theorem updEng_outq (e : Side) (f : EngineState → EngineState) : (s.updEng e f).outq = s.outq := by cases e <;> rfl
@[simp] theorem updEng_rxF (e : Side) (f : EngineState → EngineState) : (s.updEng e f).rxF = s.rxF := by cases e <;> rfl
@[simp] theorem updEng_rxM (e : Side) (f : EngineState → EngineState) : (s.updEng e f).rxM = s.rxM := by cases e <;> rfl
@[simp] theorem updEng_opens (e : Side) (f : EngineState → EngineState) : (s.updEng e f).opens = s.opens := by cases e <;> rfl
@[simp] theorem updEng_after (e : Side) (f : EngineState → EngineState) : (s.updEng e f).after = s.after := by cases e <;> rfl
@[simp] theorem updEng_finals (e : Side) (f : EngineState → EngineState) : (s.updEng e f).finals = s.finals := by cases e <;> rfl
@[simp] theorem updEng_nextId (e : Side) (f : EngineState → EngineState) : (s.updEng e f).nextId = s.nextId := by cases e <;> rfl
@[simp] theorem updEng_long (e : Side) (f : EngineState → EngineState) : (s.updEng e f).long = s.long := by cases e <;> rfl
@[simp] theorem updEng_br (e : Side) (f : EngineState → EngineState) : (s.updEng e f).br = s.br := by cases e <;> rfl
@[simp] theorem updEng_ffn (e : Side) (f : EngineState → EngineState) : (s.updEng e f).ffn = s.ffn := by cases e <;> rfl
@[simp] theorem updEng_stk (e : Side) (f : EngineState → EngineState) : (s.updEng e f).stk = s.stk := by cases e <;> rfl
@[simp] theorem updEng_tl (e : Side) (f : EngineState → EngineState) : (s.updEng e f).tl = s.tl := by cases e <;> rfl
@[simp] theorem updEng_rail (e : Side) (f : EngineState → EngineState) : (s.updEng e f).rail = s.rail := by cases e <;> rfl
@[simp] theorem updEng_dplx (e : Side) (f : EngineState → EngineState) : (s.updEng e f).dplx = s.dplx := by cases e <;> rfl
@[simp] theorem updEng_safe (e : Side) (f : EngineState → EngineState) : (s.updEng e f).safe = s.safe := by cases e <;> rfl
@[simp] theorem updEng_diag (e : Side) (f : EngineState → EngineState) : (s.updEng e f).diag = s.diag := by cases e <;> rfl
@[simp] theorem updEng_cal (e : Side) (f : EngineState → EngineState) : (s.updEng e f).cal = s.cal := by cases e <;> rfl
@[simp] theorem updEng_therm (e : Side) (f : EngineState → EngineState) : (s.updEng e f).therm = s.therm := by cases e <;> rfl
@[simp] theorem updEng_clk (e : Side) (f : EngineState → EngineState) : (s.updEng e f).clk = s.clk := by cases e <;> rfl
@[simp] theorem updEng_store (e : Side) (f : EngineState → EngineState) : (s.updEng e f).store = s.store := by cases e <;> rfl
@[simp] theorem updEng_reg (e : Side) (f : EngineState → EngineState) (x : Nat) : (s.updEng e f).reg x = s.reg x := by cases e <;> rfl
@[simp] theorem updEng_fld (e : Side) (f : EngineState → EngineState) (x : Fld) : (s.updEng e f).fld x = s.fld x := by cases e <;> rfl
@[simp] theorem updEng_bit (e : Side) (f : EngineState → EngineState) (x : Fld) : (s.updEng e f).bit x = s.bit x := by cases e <;> rfl
@[simp] theorem updEng_mode (e : Side) (f : EngineState → EngineState) : (s.updEng e f).mode = s.mode := by cases e <;> rfl

/-! `updCl` -/

@[simp] theorem updCl_pending (e : Side) (c : Cluster) (f : ClusterState → ClusterState) : (s.updCl e c f).pending = s.pending := by cases e <;> rfl
@[simp] theorem updCl_now (e : Side) (c : Cluster) (f : ClusterState → ClusterState) : (s.updCl e c f).now = s.now := by cases e <;> rfl
@[simp] theorem updCl_free (e : Side) (c : Cluster) (f : ClusterState → ClusterState) : (s.updCl e c f).free = s.free := by cases e <;> rfl
@[simp] theorem updCl_regs (e : Side) (c : Cluster) (f : ClusterState → ClusterState) : (s.updCl e c f).regs = s.regs := by cases e <;> rfl
@[simp] theorem updCl_raised (e : Side) (c : Cluster) (f : ClusterState → ClusterState) : (s.updCl e c f).raised = s.raised := by cases e <;> rfl
@[simp] theorem updCl_old (e : Side) (c : Cluster) (f : ClusterState → ClusterState) : (s.updCl e c f).old = s.old := by cases e <;> rfl
@[simp] theorem updCl_pwr (e : Side) (c : Cluster) (f : ClusterState → ClusterState) : (s.updCl e c f).pwr = s.pwr := by cases e <;> rfl
@[simp] theorem updCl_seq (e : Side) (c : Cluster) (f : ClusterState → ClusterState) : (s.updCl e c f).seq = s.seq := by cases e <;> rfl
@[simp] theorem updCl_ctx (e : Side) (c : Cluster) (f : ClusterState → ClusterState) : (s.updCl e c f).ctx = s.ctx := by cases e <;> rfl
@[simp] theorem updCl_port (e : Side) (c : Cluster) (f : ClusterState → ClusterState) : (s.updCl e c f).port = s.port := by cases e <;> rfl
@[simp] theorem updCl_spi (e : Side) (c : Cluster) (f : ClusterState → ClusterState) : (s.updCl e c f).spi = s.spi := by cases e <;> rfl
@[simp] theorem updCl_can (e : Side) (c : Cluster) (f : ClusterState → ClusterState) : (s.updCl e c f).can = s.can := by cases e <;> rfl
@[simp] theorem updCl_outq (e : Side) (c : Cluster) (f : ClusterState → ClusterState) : (s.updCl e c f).outq = s.outq := by cases e <;> rfl
@[simp] theorem updCl_rxF (e : Side) (c : Cluster) (f : ClusterState → ClusterState) : (s.updCl e c f).rxF = s.rxF := by cases e <;> rfl
@[simp] theorem updCl_rxM (e : Side) (c : Cluster) (f : ClusterState → ClusterState) : (s.updCl e c f).rxM = s.rxM := by cases e <;> rfl
@[simp] theorem updCl_opens (e : Side) (c : Cluster) (f : ClusterState → ClusterState) : (s.updCl e c f).opens = s.opens := by cases e <;> rfl
@[simp] theorem updCl_after (e : Side) (c : Cluster) (f : ClusterState → ClusterState) : (s.updCl e c f).after = s.after := by cases e <;> rfl
@[simp] theorem updCl_finals (e : Side) (c : Cluster) (f : ClusterState → ClusterState) : (s.updCl e c f).finals = s.finals := by cases e <;> rfl
@[simp] theorem updCl_nextId (e : Side) (c : Cluster) (f : ClusterState → ClusterState) : (s.updCl e c f).nextId = s.nextId := by cases e <;> rfl
@[simp] theorem updCl_long (e : Side) (c : Cluster) (f : ClusterState → ClusterState) : (s.updCl e c f).long = s.long := by cases e <;> rfl
@[simp] theorem updCl_br (e : Side) (c : Cluster) (f : ClusterState → ClusterState) : (s.updCl e c f).br = s.br := by cases e <;> rfl
@[simp] theorem updCl_ffn (e : Side) (c : Cluster) (f : ClusterState → ClusterState) : (s.updCl e c f).ffn = s.ffn := by cases e <;> rfl
@[simp] theorem updCl_stk (e : Side) (c : Cluster) (f : ClusterState → ClusterState) : (s.updCl e c f).stk = s.stk := by cases e <;> rfl
@[simp] theorem updCl_tl (e : Side) (c : Cluster) (f : ClusterState → ClusterState) : (s.updCl e c f).tl = s.tl := by cases e <;> rfl
@[simp] theorem updCl_rail (e : Side) (c : Cluster) (f : ClusterState → ClusterState) : (s.updCl e c f).rail = s.rail := by cases e <;> rfl
@[simp] theorem updCl_dplx (e : Side) (c : Cluster) (f : ClusterState → ClusterState) : (s.updCl e c f).dplx = s.dplx := by cases e <;> rfl
@[simp] theorem updCl_safe (e : Side) (c : Cluster) (f : ClusterState → ClusterState) : (s.updCl e c f).safe = s.safe := by cases e <;> rfl
@[simp] theorem updCl_diag (e : Side) (c : Cluster) (f : ClusterState → ClusterState) : (s.updCl e c f).diag = s.diag := by cases e <;> rfl
@[simp] theorem updCl_cal (e : Side) (c : Cluster) (f : ClusterState → ClusterState) : (s.updCl e c f).cal = s.cal := by cases e <;> rfl
@[simp] theorem updCl_therm (e : Side) (c : Cluster) (f : ClusterState → ClusterState) : (s.updCl e c f).therm = s.therm := by cases e <;> rfl
@[simp] theorem updCl_clk (e : Side) (c : Cluster) (f : ClusterState → ClusterState) : (s.updCl e c f).clk = s.clk := by cases e <;> rfl
@[simp] theorem updCl_store (e : Side) (c : Cluster) (f : ClusterState → ClusterState) : (s.updCl e c f).store = s.store := by cases e <;> rfl
@[simp] theorem updCl_reg (e : Side) (c : Cluster) (f : ClusterState → ClusterState) (x : Nat) : (s.updCl e c f).reg x = s.reg x := by cases e <;> rfl
@[simp] theorem updCl_fld (e : Side) (c : Cluster) (f : ClusterState → ClusterState) (x : Fld) : (s.updCl e c f).fld x = s.fld x := by cases e <;> rfl
@[simp] theorem updCl_bit (e : Side) (c : Cluster) (f : ClusterState → ClusterState) (x : Fld) : (s.updCl e c f).bit x = s.bit x := by cases e <;> rfl
@[simp] theorem updCl_mode (e : Side) (c : Cluster) (f : ClusterState → ClusterState) : (s.updCl e c f).mode = s.mode := by cases e <;> rfl

/-! `updBerth` -/

@[simp] theorem updBerth_pending (n : BerthNo) (f : Berth → Berth) : (s.updBerth n f).pending = s.pending := rfl
@[simp] theorem updBerth_now (n : BerthNo) (f : Berth → Berth) : (s.updBerth n f).now = s.now := rfl
@[simp] theorem updBerth_free (n : BerthNo) (f : Berth → Berth) : (s.updBerth n f).free = s.free := rfl
@[simp] theorem updBerth_regs (n : BerthNo) (f : Berth → Berth) : (s.updBerth n f).regs = s.regs := rfl
@[simp] theorem updBerth_raised (n : BerthNo) (f : Berth → Berth) : (s.updBerth n f).raised = s.raised := rfl
@[simp] theorem updBerth_old (n : BerthNo) (f : Berth → Berth) : (s.updBerth n f).old = s.old := rfl
@[simp] theorem updBerth_pwr (n : BerthNo) (f : Berth → Berth) : (s.updBerth n f).pwr = s.pwr := rfl
@[simp] theorem updBerth_seq (n : BerthNo) (f : Berth → Berth) : (s.updBerth n f).seq = s.seq := rfl
@[simp] theorem updBerth_ctx (n : BerthNo) (f : Berth → Berth) : (s.updBerth n f).ctx = s.ctx := rfl
@[simp] theorem updBerth_port (n : BerthNo) (f : Berth → Berth) : (s.updBerth n f).port = s.port := rfl
@[simp] theorem updBerth_spi (n : BerthNo) (f : Berth → Berth) : (s.updBerth n f).spi = s.spi := rfl
@[simp] theorem updBerth_can (n : BerthNo) (f : Berth → Berth) : (s.updBerth n f).can = s.can := rfl
@[simp] theorem updBerth_outq (n : BerthNo) (f : Berth → Berth) : (s.updBerth n f).outq = s.outq := rfl
@[simp] theorem updBerth_rxF (n : BerthNo) (f : Berth → Berth) : (s.updBerth n f).rxF = s.rxF := rfl
@[simp] theorem updBerth_rxM (n : BerthNo) (f : Berth → Berth) : (s.updBerth n f).rxM = s.rxM := rfl
@[simp] theorem updBerth_opens (n : BerthNo) (f : Berth → Berth) : (s.updBerth n f).opens = s.opens := rfl
@[simp] theorem updBerth_after (n : BerthNo) (f : Berth → Berth) : (s.updBerth n f).after = s.after := rfl
@[simp] theorem updBerth_finals (n : BerthNo) (f : Berth → Berth) : (s.updBerth n f).finals = s.finals := rfl
@[simp] theorem updBerth_nextId (n : BerthNo) (f : Berth → Berth) : (s.updBerth n f).nextId = s.nextId := rfl
@[simp] theorem updBerth_long (n : BerthNo) (f : Berth → Berth) : (s.updBerth n f).long = s.long := rfl
@[simp] theorem updBerth_ffn (n : BerthNo) (f : Berth → Berth) : (s.updBerth n f).ffn = s.ffn := rfl
@[simp] theorem updBerth_engA (n : BerthNo) (f : Berth → Berth) : (s.updBerth n f).engA = s.engA := rfl
@[simp] theorem updBerth_engB (n : BerthNo) (f : Berth → Berth) : (s.updBerth n f).engB = s.engB := rfl
@[simp] theorem updBerth_stk (n : BerthNo) (f : Berth → Berth) : (s.updBerth n f).stk = s.stk := rfl
@[simp] theorem updBerth_tl (n : BerthNo) (f : Berth → Berth) : (s.updBerth n f).tl = s.tl := rfl
@[simp] theorem updBerth_rail (n : BerthNo) (f : Berth → Berth) : (s.updBerth n f).rail = s.rail := rfl
@[simp] theorem updBerth_dplx (n : BerthNo) (f : Berth → Berth) : (s.updBerth n f).dplx = s.dplx := rfl
@[simp] theorem updBerth_safe (n : BerthNo) (f : Berth → Berth) : (s.updBerth n f).safe = s.safe := rfl
@[simp] theorem updBerth_diag (n : BerthNo) (f : Berth → Berth) : (s.updBerth n f).diag = s.diag := rfl
@[simp] theorem updBerth_cal (n : BerthNo) (f : Berth → Berth) : (s.updBerth n f).cal = s.cal := rfl
@[simp] theorem updBerth_therm (n : BerthNo) (f : Berth → Berth) : (s.updBerth n f).therm = s.therm := rfl
@[simp] theorem updBerth_clk (n : BerthNo) (f : Berth → Berth) : (s.updBerth n f).clk = s.clk := rfl
@[simp] theorem updBerth_store (n : BerthNo) (f : Berth → Berth) : (s.updBerth n f).store = s.store := rfl
@[simp] theorem updBerth_reg (n : BerthNo) (f : Berth → Berth) (x : Nat) : (s.updBerth n f).reg x = s.reg x := rfl
@[simp] theorem updBerth_fld (n : BerthNo) (f : Berth → Berth) (x : Fld) : (s.updBerth n f).fld x = s.fld x := rfl
@[simp] theorem updBerth_bit (n : BerthNo) (f : Berth → Berth) (x : Fld) : (s.updBerth n f).bit x = s.bit x := rfl
@[simp] theorem updBerth_mode (n : BerthNo) (f : Berth → Berth) : (s.updBerth n f).mode = s.mode := rfl
@[simp] theorem updBerth_eng (n : BerthNo) (f : Berth → Berth) (x : Side) : (s.updBerth n f).eng x = s.eng x := by cases x <;> rfl
@[simp] theorem updBerth_cluster (n : BerthNo) (f : Berth → Berth) (x : Side) (y : Cluster) : (s.updBerth n f).cluster x y = s.cluster x y := by cases x <;> rfl

/-! Engines and clusters -/

@[simp] theorem eng_updEng_same (e : Side) (f : EngineState → EngineState) : (s.updEng e f).eng e = f (s.eng e) := by
  cases e <;> rfl

theorem eng_updEng_ne {d e : Side} (f : EngineState → EngineState) (h : d ≠ e) : (s.updEng e f).eng d = s.eng d := by
  cases d <;> cases e <;> first | rfl | exact absurd rfl h

@[simp] theorem cluster_updCl_same (e : Side) (c : Cluster) (f : ClusterState → ClusterState) :
    (s.updCl e c f).cluster e c = f (s.cluster e c) := by
  simp [State.cluster, State.updCl]

theorem cluster_updCl_ne {d e : Side} {b c : Cluster} (f : ClusterState → ClusterState) (h : d ≠ e ∨ b ≠ c) :
    (s.updCl e c f).cluster d b = s.cluster d b := by
  cases d <;> cases e <;> first
    | rfl
    | (have hb : b ≠ c := by tauto
       have hv : ¬ c.val = b.val := fun h' => hb (Fin.ext h'.symm)
       simp [State.cluster, State.eng, State.updCl, State.updEng, hv])

@[simp] theorem updCl_codeWords (e : Side) (c : Cluster) (f : ClusterState → ClusterState) (d : Side) :
    ((s.updCl e c f).eng d).codeWords = (s.eng d).codeWords := by
  cases d <;> cases e <;> rfl

@[simp] theorem updCl_role (e : Side) (c : Cluster) (f : ClusterState → ClusterState) (d : Side) :
    ((s.updCl e c f).eng d).role = (s.eng d).role := by
  cases d <;> cases e <;> rfl

/-- Two changes of one cluster are one. -/
theorem updCl_updCl (e : Side) (c : Cluster) (f g : ClusterState → ClusterState) :
    (s.updCl e c f).updCl e c g = s.updCl e c fun k => g (f k) := by
  cases e <;> simp [State.updCl, State.updEng]

/-! Contexts, ports, berths, rails -/

@[simp] theorem ctx_updCtx_same (c : Ctx) (f : CtxState → CtxState) : (s.updCtx c f).ctx[c] = f s.ctx[c] := by
  simp [State.updCtx]

theorem ctx_updCtx_ne {b c : Ctx} (f : CtxState → CtxState) (h : b ≠ c) : (s.updCtx c f).ctx[b] = s.ctx[b] := by
  simp only [State.updCtx, Fin.getElem_fin]
  rw [Vector.getElem_set_ne]
  intro h'; exact h (Fin.ext h'.symm)

@[simp] theorem port_updPort_same (p : Port) (f : PortState → PortState) : (s.updPort p f).port[p] = f s.port[p] := by
  simp [State.updPort]

@[simp] theorem berth_updBerth_same (n : BerthNo) (f : Berth → Berth) : (s.updBerth n f).berth n = f (s.berth n) := by
  simp [State.berth, State.updBerth]

theorem berth_updBerth_ne {m n : BerthNo} (f : Berth → Berth) (h : m ≠ n) : (s.updBerth n f).berth m = s.berth m := by
  simp only [State.berth, State.updBerth, Fin.getElem_fin]
  rw [Vector.getElem_set_ne]
  intro h'; exact h (Fin.ext h'.symm)

@[simp] theorem rail_updRail_same (z : Zone) (f : ZoneRail → ZoneRail) : (s.updRail z f).rail.z[z] = f s.rail.z[z] := by
  simp [State.updRail]

theorem rail_updRail_ne {y z : Zone} (f : ZoneRail → ZoneRail) (h : y ≠ z) : (s.updRail z f).rail.z[y] = s.rail.z[y] := by
  simp only [State.updRail, Fin.getElem_fin]
  rw [Vector.getElem_set_ne]
  intro h'; exact h (Fin.ext h'.symm)

@[simp] theorem updRail_bus (z : Zone) (f : ZoneRail → ZoneRail) : (s.updRail z f).rail.bus = s.rail.bus := rfl

end Sys2Proof.Machine
end

