-- ==== Sys2Proof/Laws/Finish.lean ====
section
/-! SUPPORT. What the end of a step can change: event handling (R435 to R437) and the outputs that follow from the
state (R344, R345). Everything else is as the command left it. -/

namespace Sys2Proof.Machine

@[simp] theorem blank_setReg (s : State) (a : Nat) (w : Word) : blank (s.setReg a w) = blank s := rfl
@[simp] theorem blank_setFld (s : State) (f : Fld) (v : Nat) : blank (s.setFld f v) = blank s := rfl
@[simp] theorem blank_setBit (s : State) (f : Fld) (b : Bool) : blank (s.setBit f b) = blank s := rfl
@[simp] theorem blank_inc (s : State) (f : Fld) : blank (s.inc f) = blank s := rfl

theorem blank_updCtx (s : State) (c : Ctx) (f : CtxState → CtxState)
    (h : { f s.ctx[c] with pend := 0, ovf := false } = { s.ctx[c] with pend := 0, ovf := false }) :
    blank (s.updCtx c f) = blank s := by
  have : (s.ctx.set c (f s.ctx[c])).map (fun c => { c with pend := 0, ovf := false })
      = s.ctx.map fun c => { c with pend := 0, ovf := false } := by
    ext i hi
    · rw [Vector.getElem_map, Vector.getElem_map, Vector.getElem_set]
      split
      · rename_i h'; subst h'; exact h
      · rfl
  simp only [blank, State.updCtx, this]

theorem blank_updOut (s : State) (i : Iface) (f : OutQ → OutQ)
    (h : (f s.outq[ifaceIx i]).resps = s.outq[ifaceIx i].resps) : blank (s.updOut i f) = blank s := by
  have : (s.outq.set (ifaceIx i) (f s.outq[ifaceIx i])).map (fun q => { q with events := [] })
      = s.outq.map fun q => { q with events := [] } := by
    apply Vector.ext
    intro j hj
    rw [Vector.getElem_map, Vector.getElem_map, Vector.getElem_set]
    split
    · rename_i h'; subst h'; simp only [OutQ.mk.injEq, true_and]; exact h
    · rfl
  simp only [blank, State.updOut, this]

theorem blank_queueEvent (e : Nat) (info : Word) (c : Ctx) (s : State) : blank (queueEvent e info c s) = blank s := by
  unfold queueEvent
  cases s.ifaceOf c with
  | none => rfl
  | some i =>
    cases i <;> dsimp only <;> split <;> first
      | (rw [blank_updCtx, blank_updOut] <;> rfl)
      | (rw [blank_inc, blank_updCtx]; rfl)

/-- Folding a change that keeps `p` keeps `p`. -/
theorem forEach_keeps {α β : Type} (p : State → β) (l : List α) (f : α → State → State)
    (h : ∀ a ∈ l, ∀ s, p (f a s) = p s) (s : State) : p (s.forEach l f) = p s := by
  unfold State.forEach
  induction l generalizing s with
  | nil => rfl
  | cons a l ih =>
    rw [List.foldl_cons, ih (fun b hb => h b (List.mem_cons_of_mem _ hb))]
    exact h a List.mem_cons_self s

theorem blank_handleRaise (r : Nat × Word × List Ctx) (s : State) : blank (handleRaise r s) = blank s := by
  unfold handleRaise
  dsimp only
  rw [forEach_keeps blank]
  · simp
  · intro c _ s
    split
    · rw [blank_queueEvent, blank_updCtx]; rfl
    · rw [blank_updCtx]; rfl

theorem blank_flushEvents (s : State) : blank (flushEvents s) = blank s := by
  unfold flushEvents
  dsimp only
  rw [forEach_keeps blank _ _ (fun r _ s => blank_handleRaise r s)]
  rfl

theorem blank_settle (s : State) : blank (settle s) = blank s := by
  unfold settle
  dsimp only
  split <;> split <;> rfl

/-- The end of a step leaves everything else as the command left it. -/
theorem blank_finish (s : State) : blank (settle (flushEvents s)) = blank s := by
  rw [blank_settle, blank_flushEvents]

/-! ### Registers -/

theorem reg_inc_ne (s : State) (f : Fld) {a : Nat} (h : a ≠ f.addr) : (s.inc f).reg a = s.reg a := reg_setReg_ne _ _ h

theorem reg_queueEvent (e : Nat) (info : Word) (c : Ctx) (s : State) {a : Nat} (h : ¬ evReg a) :
    (queueEvent e info c s).reg a = s.reg a := by
  unfold evReg at h
  unfold queueEvent
  cases s.ifaceOf c with
  | none => rfl
  | some i =>
    cases i <;> dsimp only <;> split <;> first
      | simp
      | (rw [reg_inc_ne _ _ (by simp [F.LINK_EVTQ_EVT_DROP, evtDrop]; omega)]; simp)

theorem reg_handleRaise (r : Nat × Word × List Ctx) (s : State) {a : Nat} (h : ¬ evReg a) (hr : r.1 < 64) :
    (handleRaise r s).reg a = s.reg a := by
  have h' := h
  unfold evReg at h'
  obtain ⟨e, info, dst⟩ := r
  simp only at hr
  unfold handleRaise
  dsimp only
  rw [forEach_keeps (fun s => s.reg a)]
  · rw [reg_setFld_ne _ _ _ (by simp [F.EVT_CNT_FRAME_LO]; omega), reg_inc_ne _ _ (by simp [F.EVT_CNT_COUNT]; omega),
      reg_setReg_ne _ _ (by omega)]
  · intro c _ s
    split
    · rw [reg_queueEvent _ _ _ _ h]; simp
    · simp

theorem mem_insertRaise (x r : Nat × Word × List Ctx) (l : List (Nat × Word × List Ctx)) :
    x ∈ insertRaise r l ↔ x = r ∨ x ∈ l := by
  induction l with
  | nil => simp [insertRaise]
  | cons q qs ih =>
    unfold insertRaise
    split
    · simp
    · simp only [List.mem_cons, ih]; tauto

theorem mem_insertRaises (x : Nat × Word × List Ctx) (l m : List (Nat × Word × List Ctx)) :
    x ∈ l.foldl (fun l r => insertRaise r l) m ↔ x ∈ l ∨ x ∈ m := by
  induction l generalizing m with
  | nil => simp
  | cons r l ih => rw [List.foldl_cons, ih, mem_insertRaise, List.mem_cons]; tauto

/-- Every event raised in the cycle has a number of R441's table. -/
def raisesOk (s : State) : Prop := ∀ r ∈ s.raised, r.1 < 64

theorem reg_flushEvents (s : State) {a : Nat} (h : ¬ evReg a) (hr : raisesOk s) : (flushEvents s).reg a = s.reg a := by
  unfold flushEvents
  dsimp only
  rw [forEach_keeps (fun s => s.reg a)]
  · rfl
  · intro r hm s
    exact reg_handleRaise r s h (hr r (by rw [mem_insertRaises] at hm; simpa using hm))

theorem reg_settle (s : State) {a : Nat} (h : a ≠ 0x110000) : (settle s).reg a = s.reg a := by
  have h1 : ∀ (t : State) b, (t.setBit F.SAFE_STAT_FALLBACK b).reg a = t.reg a :=
    fun t b => reg_setFld_ne _ _ _ (by simpa [F.SAFE_STAT_FALLBACK] using h)
  have h2 : ∀ (t : State) b, (t.setBit F.SAFE_STAT_SAFE_OK_RUN b).reg a = t.reg a :=
    fun t b => reg_setFld_ne _ _ _ (by simpa [F.SAFE_STAT_SAFE_OK_RUN] using h)
  unfold settle
  dsimp only
  split <;> split <;> first
    | rw [h2, h1]
    | rw [h2]
    | (show (State.setBit _ _ _).reg a = _; rw [h2, h1])
    | (show (State.setBit _ _ _).reg a = _; rw [h2])

/-- A register that the end of a step cannot change. -/
theorem reg_finish (s : State) {a : Nat} (h : ¬ evReg a) (hr : raisesOk s) :
    (settle (flushEvents s)).reg a = s.reg a := by
  rw [reg_settle _ (fun h' => h (Or.inl h')), reg_flushEvents s h hr]

theorem fld_finish (s : State) (f : Fld) (h : ¬ evReg f.addr) (hr : raisesOk s) :
    (settle (flushEvents s)).fld f = s.fld f := by
  simp only [State.fld, reg_finish s h hr]

theorem bit_finish (s : State) (f : Fld) (h : ¬ evReg f.addr) (hr : raisesOk s) :
    (settle (flushEvents s)).bit f = s.bit f := by
  simp only [State.bit, fld_finish s f h hr]

@[simp] theorem flushEvents_of_nil (s : State) (h : s.raised = []) : flushEvents s = s := by
  unfold flushEvents
  rw [h]
  cases s
  simp_all [State.forEach]

/-- Nothing raised: the step ends with the outputs alone. -/
theorem finish_quiet (s : State) (h : s.raised = []) : finish s = .next (settle s) := by
  simp [finish, h]

/-! ### Field by field -/

@[simp] theorem pending_finish (s : State) : (settle (flushEvents s)).pending = s.pending := by
  have h := congrArg State.pending (blank_finish s); exact h
@[simp] theorem now_finish (s : State) : (settle (flushEvents s)).now = s.now := by
  have h := congrArg State.now (blank_finish s); exact h
@[simp] theorem free_finish (s : State) : (settle (flushEvents s)).free = s.free := by
  have h := congrArg State.free (blank_finish s); exact h
@[simp] theorem pwr_finish (s : State) : (settle (flushEvents s)).pwr = s.pwr := by
  have h := congrArg State.pwr (blank_finish s); exact h
@[simp] theorem seq_finish (s : State) : (settle (flushEvents s)).seq = s.seq := by
  have h := congrArg State.seq (blank_finish s); exact h
@[simp] theorem port_finish (s : State) : (settle (flushEvents s)).port = s.port := by
  have h := congrArg State.port (blank_finish s); exact h
@[simp] theorem spi_finish (s : State) : (settle (flushEvents s)).spi = s.spi := by
  have h := congrArg State.spi (blank_finish s); exact h
@[simp] theorem can_finish (s : State) : (settle (flushEvents s)).can = s.can := by
  have h := congrArg State.can (blank_finish s); exact h
@[simp] theorem rxF_finish (s : State) : (settle (flushEvents s)).rxF = s.rxF := by
  have h := congrArg State.rxF (blank_finish s); exact h
@[simp] theorem rxM_finish (s : State) : (settle (flushEvents s)).rxM = s.rxM := by
  have h := congrArg State.rxM (blank_finish s); exact h
@[simp] theorem opens_finish (s : State) : (settle (flushEvents s)).opens = s.opens := by
  have h := congrArg State.opens (blank_finish s); exact h
@[simp] theorem nextId_finish (s : State) : (settle (flushEvents s)).nextId = s.nextId := by
  have h := congrArg State.nextId (blank_finish s); exact h
@[simp] theorem long_finish (s : State) : (settle (flushEvents s)).long = s.long := by
  have h := congrArg State.long (blank_finish s); exact h
@[simp] theorem br_finish (s : State) : (settle (flushEvents s)).br = s.br := by
  have h := congrArg State.br (blank_finish s); exact h
@[simp] theorem ffn_finish (s : State) : (settle (flushEvents s)).ffn = s.ffn := by
  have h := congrArg State.ffn (blank_finish s); exact h
@[simp] theorem engA_finish (s : State) : (settle (flushEvents s)).engA = s.engA := by
  have h := congrArg State.engA (blank_finish s); exact h
@[simp] theorem engB_finish (s : State) : (settle (flushEvents s)).engB = s.engB := by
  have h := congrArg State.engB (blank_finish s); exact h
@[simp] theorem stk_finish (s : State) : (settle (flushEvents s)).stk = s.stk := by
  have h := congrArg State.stk (blank_finish s); exact h
@[simp] theorem tl_finish (s : State) : (settle (flushEvents s)).tl = s.tl := by
  have h := congrArg State.tl (blank_finish s); exact h
@[simp] theorem rail_finish (s : State) : (settle (flushEvents s)).rail = s.rail := by
  have h := congrArg State.rail (blank_finish s); exact h
@[simp] theorem dplx_finish (s : State) : (settle (flushEvents s)).dplx = s.dplx := by
  have h := congrArg State.dplx (blank_finish s); exact h
@[simp] theorem diag_finish (s : State) : (settle (flushEvents s)).diag = s.diag := by
  have h := congrArg State.diag (blank_finish s); exact h
@[simp] theorem cal_finish (s : State) : (settle (flushEvents s)).cal = s.cal := by
  have h := congrArg State.cal (blank_finish s); exact h
@[simp] theorem therm_finish (s : State) : (settle (flushEvents s)).therm = s.therm := by
  have h := congrArg State.therm (blank_finish s); exact h
@[simp] theorem clk_finish (s : State) : (settle (flushEvents s)).clk = s.clk := by
  have h := congrArg State.clk (blank_finish s); exact h
@[simp] theorem store_finish (s : State) : (settle (flushEvents s)).store = s.store := by
  have h := congrArg State.store (blank_finish s); exact h

@[simp] theorem mode_finish (s : State) : (settle (flushEvents s)).mode = s.mode := by
  simp only [State.mode, pwr_finish]

@[simp] theorem eng_finish (s : State) (e : Side) : (settle (flushEvents s)).eng e = s.eng e := by
  cases e <;> simp [State.eng]

@[simp] theorem cluster_finish (s : State) (e : Side) (c : Cluster) :
    (settle (flushEvents s)).cluster e c = s.cluster e c := by
  cases e <;> simp [State.cluster, State.eng]

@[simp] theorem berth_finish (s : State) (n : BerthNo) : (settle (flushEvents s)).berth n = s.berth n := by
  simp [State.berth]

theorem ctx_blank_finish (s : State) (c : Ctx) :
    { (settle (flushEvents s)).ctx[c] with pend := 0, ovf := false } = { s.ctx[c] with pend := 0, ovf := false } := by
  have h := congrArg State.ctx (blank_finish s)
  simp only [blank] at h
  have h' : (Vector.map (fun c : CtxState => { c with pend := 0, ovf := false }) (settle (flushEvents s)).ctx)[c]
      = (Vector.map (fun c : CtxState => { c with pend := 0, ovf := false }) s.ctx)[c] := by rw [h]
  simpa only [Fin.getElem_fin, Vector.getElem_map] using h'

@[simp] theorem mask_finish (s : State) (c : Ctx) : ((settle (flushEvents s)).ctx[c]).mask = (s.ctx[c]).mask := by
  have h := congrArg CtxState.mask (ctx_blank_finish s c); exact h
@[simp] theorem shadow_finish (s : State) (c : Ctx) : ((settle (flushEvents s)).ctx[c]).shadow = (s.ctx[c]).shadow := by
  have h := congrArg CtxState.shadow (ctx_blank_finish s c); exact h
@[simp] theorem commit_finish (s : State) (c : Ctx) : ((settle (flushEvents s)).ctx[c]).commit = (s.ctx[c]).commit := by
  have h := congrArg CtxState.commit (ctx_blank_finish s c); exact h
@[simp] theorem objNew_finish (s : State) (c : Ctx) : ((settle (flushEvents s)).ctx[c]).objNew = (s.ctx[c]).objNew := by
  have h := congrArg CtxState.objNew (ctx_blank_finish s c); exact h
@[simp] theorem objList_finish (s : State) (c : Ctx) : ((settle (flushEvents s)).ctx[c]).objList = (s.ctx[c]).objList := by
  have h := congrArg CtxState.objList (ctx_blank_finish s c); exact h
@[simp] theorem objFresh_finish (s : State) (c : Ctx) : ((settle (flushEvents s)).ctx[c]).objFresh = (s.ctx[c]).objFresh := by
  have h := congrArg CtxState.objFresh (ctx_blank_finish s c); exact h
@[simp] theorem objApplied_finish (s : State) (c : Ctx) : ((settle (flushEvents s)).ctx[c]).objApplied = (s.ctx[c]).objApplied := by
  have h := congrArg CtxState.objApplied (ctx_blank_finish s c); exact h
@[simp] theorem polyBad_finish (s : State) (c : Ctx) : ((settle (flushEvents s)).ctx[c]).polyBad = (s.ctx[c]).polyBad := by
  have h := congrArg CtxState.polyBad (ctx_blank_finish s c); exact h
@[simp] theorem tracked_finish (s : State) (c : Ctx) : ((settle (flushEvents s)).ctx[c]).tracked = (s.ctx[c]).tracked := by
  have h := congrArg CtxState.tracked (ctx_blank_finish s c); exact h

@[simp] theorem resps_finish (s : State) (i : Fin 4) :
    ((settle (flushEvents s)).outq[i]).resps = (s.outq[i]).resps := by
  have h := congrArg State.outq (blank_finish s)
  simp only [blank] at h
  have h' : ((Vector.map (fun q : OutQ => { q with events := [] }) (settle (flushEvents s)).outq)[i]).resps
      = ((Vector.map (fun q : OutQ => { q with events := [] }) s.outq)[i]).resps := by rw [h]
  simpa only [Fin.getElem_fin, Vector.getElem_map] using h'

@[simp] theorem lastUptime_finish (s : State) : (settle (flushEvents s)).safe.lastUptime = s.safe.lastUptime := by
  have h := congrArg (fun t : State => t.safe.lastUptime) (blank_finish s); exact h
@[simp] theorem cntA_finish (s : State) : (settle (flushEvents s)).safe.cntA = s.safe.cntA := by
  have h := congrArg (fun t : State => t.safe.cntA) (blank_finish s); exact h
@[simp] theorem cntB_finish (s : State) : (settle (flushEvents s)).safe.cntB = s.safe.cntB := by
  have h := congrArg (fun t : State => t.safe.cntB) (blank_finish s); exact h
@[simp] theorem inhCut_finish (s : State) : (settle (flushEvents s)).safe.inhCut = s.safe.inhCut := by
  have h := congrArg (fun t : State => t.safe.inhCut) (blank_finish s); exact h
@[simp] theorem held_finish (s : State) : (settle (flushEvents s)).safe.held = s.safe.held := by
  have h := congrArg (fun t : State => t.safe.held) (blank_finish s); exact h
@[simp] theorem shown_finish (s : State) : (settle (flushEvents s)).safe.shown = s.safe.shown := by
  have h := congrArg (fun t : State => t.safe.shown) (blank_finish s); exact h
@[simp] theorem seen_finish (s : State) : (settle (flushEvents s)).safe.seen = s.safe.seen := by
  have h := congrArg (fun t : State => t.safe.seen) (blank_finish s); exact h
@[simp] theorem blind_finish (s : State) : (settle (flushEvents s)).safe.blind = s.safe.blind := by
  have h := congrArg (fun t : State => t.safe.blind) (blank_finish s); exact h
@[simp] theorem gwCut_finish (s : State) : (settle (flushEvents s)).safe.gwCut = s.safe.gwCut := by
  have h := congrArg (fun t : State => t.safe.gwCut) (blank_finish s); exact h
@[simp] theorem gwEn_finish (s : State) : (settle (flushEvents s)).safe.gwEn = s.safe.gwEn := by
  have h := congrArg (fun t : State => t.safe.gwEn) (blank_finish s); exact h
@[simp] theorem strapLock_finish (s : State) : (settle (flushEvents s)).safe.strapLock = s.safe.strapLock := by
  have h := congrArg (fun t : State => t.safe.strapLock) (blank_finish s); exact h
@[simp] theorem faultTimes_finish (s : State) : (settle (flushEvents s)).safe.faultTimes = s.safe.faultTimes := by
  have h := congrArg (fun t : State => t.safe.faultTimes) (blank_finish s); exact h
@[simp] theorem qAt_finish (s : State) : (settle (flushEvents s)).safe.qAt = s.safe.qAt := by
  have h := congrArg (fun t : State => t.safe.qAt) (blank_finish s); exact h
@[simp] theorem cmpRun_finish (s : State) : (settle (flushEvents s)).safe.cmpRun = s.safe.cmpRun := by
  have h := congrArg (fun t : State => t.safe.cmpRun) (blank_finish s); exact h
@[simp] theorem selfBad_finish (s : State) : (settle (flushEvents s)).safe.selfBad = s.safe.selfBad := by
  have h := congrArg (fun t : State => t.safe.selfBad) (blank_finish s); exact h
@[simp] theorem oscStop_finish (s : State) : (settle (flushEvents s)).safe.oscStop = s.safe.oscStop := by
  have h := congrArg (fun t : State => t.safe.oscStop) (blank_finish s); exact h
@[simp] theorem optFail_finish (s : State) : (settle (flushEvents s)).safe.optFail = s.safe.optFail := by
  have h := congrArg (fun t : State => t.safe.optFail) (blank_finish s); exact h
@[simp] theorem ev36_finish (s : State) : (settle (flushEvents s)).safe.ev36 = s.safe.ev36 := by
  have h := congrArg (fun t : State => t.safe.ev36) (blank_finish s); exact h
@[simp] theorem devBad_finish (s : State) : (settle (flushEvents s)).safe.devBad = s.safe.devBad := by
  have h := congrArg (fun t : State => t.safe.devBad) (blank_finish s); exact h
@[simp] theorem cfgBad_finish (s : State) : (settle (flushEvents s)).safe.cfgBad = s.safe.cfgBad := by
  have h := congrArg (fun t : State => t.safe.cfgBad) (blank_finish s); exact h
@[simp] theorem sealByte_finish (s : State) : (settle (flushEvents s)).safe.sealByte = s.safe.sealByte := by
  have h := congrArg (fun t : State => t.safe.sealByte) (blank_finish s); exact h
@[simp] theorem cfgFlags_finish (s : State) : (settle (flushEvents s)).safe.cfgFlags = s.safe.cfgFlags := by
  have h := congrArg (fun t : State => t.safe.cfgFlags) (blank_finish s); exact h
@[simp] theorem molKeys_finish (s : State) : (settle (flushEvents s)).safe.molKeys = s.safe.molKeys := by
  have h := congrArg (fun t : State => t.safe.molKeys) (blank_finish s); exact h

theorem raised_queueEvent (e : Nat) (info : Word) (c : Ctx) (s : State) : (queueEvent e info c s).raised = s.raised := by
  unfold queueEvent
  cases s.ifaceOf c with
  | none => rfl
  | some i => cases i <;> dsimp only <;> split <;> simp

theorem raised_handleRaise (r : Nat × Word × List Ctx) (s : State) : (handleRaise r s).raised = s.raised := by
  unfold handleRaise
  dsimp only
  rw [forEach_keeps State.raised]
  · simp
  · intro c _ s
    split
    · rw [raised_queueEvent]; simp
    · simp

/-- Every raise of the cycle has been handled at the end of the step. -/
@[simp] theorem raised_finish (s : State) : (settle (flushEvents s)).raised = [] := by
  have h : ∀ t : State, (settle t).raised = t.raised := by
    intro t
    unfold settle
    dsimp only
    split <;> split <;> rfl
  rw [h]
  unfold flushEvents
  dsimp only
  rw [forEach_keeps State.raised _ _ (fun r _ s => raised_handleRaise r s)]

end Sys2Proof.Machine
end

