-- ==== Sys2Proof/Laws/Host.lean ====
section
/-! SUPPORT. Running one host command: what its row answers once the command itself has been judged. -/

namespace Sys2Proof.Machine

theorem find_open {os : List OpenResp} {k : Nat} (h : ∀ o ∈ os, o.id < k) (o : OpenResp) (ho : o.id = k)
    (hh : o.held = 0) (room : OpenResp → Prop) [DecidablePred room] (hm : room o) :
    (os ++ [o]).find? (fun o => decide (o.id = k) && decide (o.held = 0) && decide (room o)) = some o := by
  rw [List.find?_append]
  have : os.find? (fun o => decide (o.id = k) && decide (o.held = 0) && decide (room o)) = none := by
    rw [List.find?_eq_none]
    intro x hx
    have := h x hx
    simp; omega
  rw [this]
  simp [ho, hh, hm]

theorem filter_open {os : List OpenResp} {k : Nat} (h : ∀ o ∈ os, o.id < k) (o : OpenResp) (ho : o.id = k) :
    (os ++ [o]).filter (fun o => decide (o.id ≠ k)) = os := by
  rw [List.filter_append]
  have : os.filter (fun o => decide (o.id ≠ k)) = os := by
    rw [List.filter_eq_self]
    intro x hx
    have := h x hx
    simp; omega
  rw [this]
  simp [ho]

theorem map_open {os : List OpenResp} {k : Nat} (h : ∀ o ∈ os, o.id < k) (o : OpenResp) (ho : o.id = k)
    (f : OpenResp → OpenResp) :
    (os ++ [o]).map (fun o => if o.id = k then f o else o) = os ++ [f o] := by
  rw [List.map_append]
  have : os.map (fun o => if o.id = k then f o else o) = os := by
    rw [List.map_congr_left (g := id)]
    · simp
    · intro x hx
      have := h x hx
      rw [if_neg (by omega)]; rfl
  rw [this]
  simp [ho]

/-- The open response with the newest number is the last of the list. -/
theorem updOpen_last {os : List OpenResp} {k : Nat} (h : ∀ o ∈ os, o.id < k) {o : OpenResp} (ho : o.id = k)
    (f : OpenResp → OpenResp) {v : State} (hv : v.opens = os ++ [o]) : updOpen k f v = { v with opens := os ++ [f o] } := by
  unfold updOpen
  rw [hv, map_open h o ho]

/-- It is sent once nothing of its manifest waits and there is room for it. -/
theorem closeResp_last {os : List OpenResp} {k : Nat} (h : ∀ o ∈ os, o.id < k) {o : OpenResp} (ho : o.id = k)
    (hh : o.held = 0) {v : State} (hv : v.opens = os ++ [o]) (hu : unsent v o.ctx < 32) :
    closeResp k v = queueResp o.ctx (respBytes o.mseq o.gap false o.m o.recs) { v with opens := os } := by
  unfold closeResp
  rw [hv, find_open h o ho hh (fun x => unsent v x.ctx < 32) hu]
  dsimp only
  rw [filter_open h o ho]

/-- The response of a manifest whose one command has been carried out. -/
theorem closeResp_record {os : List OpenResp} {k : Nat} (hk : ∀ o ∈ os, o.id < k) {o : OpenResp} (ho : o.id = k)
    (hh : o.held = 1) (hr : o.recs = []) {v : State} (hv : v.opens = os ++ [o]) (hu : unsent v o.ctx < 32)
    (h : HostHdr) (code : Nat) (r : Reply) :
    closeResp k (updOpen k (fun o => { o with held := o.held - 1 }) (addRecord k h.ackAll code 0 r v))
      = queueResp o.ctx (respBytes o.mseq o.gap false o.m (records h code r)) { v with opens := os } := by
  unfold addRecord records
  split
  · rw [updOpen_last hk ho _ hv,
      updOpen_last (o := { o with recs := insertRec ⟨code, 0, r.st, r.final, r.data⟩ o.recs }) hk ho _ rfl,
      closeResp_last (o := { o with recs := insertRec ⟨code, 0, r.st, r.final, r.data⟩ o.recs, held := o.held - 1 })
        (v := { v with opens := os ++ [{ o with
        recs := insertRec ⟨code, 0, r.st, r.final, r.data⟩ o.recs, held := o.held - 1 }] }) hk ho (show o.held - 1 = 0 by omega) rfl hu]
    simp only [hr, insertRec]
  · rw [updOpen_last hk ho _ hv,
      closeResp_last (o := { o with held := o.held - 1 })
        (v := { v with opens := os ++ [{ o with held := o.held - 1 }] }) hk ho (show o.held - 1 = 0 by omega) rfl hu]
    simp only [hr]

/-- A command that asks for nothing that waits for its response leaves no note. -/
theorem noteAfter_quiet (id : Nat) (c : Ctx) (u : State) (hp : ∀ p : Port, (u.port[p]).reconfig = false)
    (hs : u.pwr.swReset = false) (hq : ∀ r, u.pwr.req = some r → r.target ≠ .sleep) : noteAfter id c u = u := by
  have hf : ([0, 1] : List Port).filter (fun p => (u.port[p]).reconfig) = [] :=
    List.filter_eq_nil_iff.mpr fun p _ => by rw [hp p]; exact Bool.false_ne_true
  have hr : ((u.pwr.req.map (·.target)) == some Mode.sleep) = false := by
    cases h : u.pwr.req with
    | none => rfl
    | some r => simpa using hq r h
  unfold noteAfter
  simp only [hf, hs, hr, List.isEmpty_nil, Bool.not_false, Bool.false_and, Bool.and_self, if_true]

/-- With nothing that waits for a response nothing happens. -/
theorem runAfter_none {u : State} (h : u.after = []) : runAfter u = u := by
  unfold runAfter
  rw [h]
  rfl

theorem after_queueResp (c : Ctx) (b : List Byte) (s : State) : (queueResp c b s).after = s.after := by
  unfold queueResp; split <;> rfl

/-- A command's record touches open responses alone. -/
theorem addRecord_eq (id : Nat) (a : Bool) (code idx : Nat) (r : Reply) (s : State) :
    ∃ o, addRecord id a code idx r s = { s with opens := o } := by
  unfold addRecord updOpen
  split
  · exact ⟨_, rfl⟩
  · exact ⟨s.opens, rfl⟩

theorem waitsFor_opens (s : State) (k : Nat) (o : List OpenResp) (w : CanState) (c : Ctx) (code : Nat) (p : List Byte) :
    waitsFor { s with nextId := k, opens := o, can := w } c code p = waitsFor s c code p := rfl

/-- Freeing a berth that is not under fill, and that nothing waits for, ends no fill. -/
theorem freeHeld_none {n : BerthNo} {s : State} (hz : (s.berth n).zfill = false) (hh : (s.berth n).held = []) :
    freeHeld n s = s := by
  have h1 : fillDone n s = s := by unfold fillDone; rw [if_neg (by rw [hz]; exact Bool.false_ne_true)]
  have h2 : { s.berth n with held := [] } = s.berth n := by rw [← hh]
  unfold freeHeld
  simp only [h1, hh, List.filter_nil, State.forEach, List.foldl_nil]
  show { s with br := { s.br with tab := s.br.tab.set n { s.berth n with held := [] } } } = s
  rw [h2]
  show { s with br := { s.br with tab := s.br.tab.set n s.br.tab[n] } } = s
  simp only [Fin.getElem_fin, Vector.set_getElem_self]

/-- Only the window of CAN FD can change where a manifest enters it (R280). -/
theorem enterWindow_eq (c : Ctx) (m : Bool) (s : State) : ∃ w, enterWindow c m s = { s with can := w }
    ∧ ∀ u : State, u.can = s.can → u.ifaceOf c = s.ifaceOf c → enterWindow c m u = { u with can := w } := by
  unfold enterWindow
  by_cases h : s.ifaceOf c = some .can
  · refine ⟨_, by rw [if_neg (not_not.mpr h)], fun u hu hi => ?_⟩
    rw [if_neg (not_not.mpr (hi ▸ h)), hu]
  · refine ⟨s.can, by rw [if_pos h], fun u hu hi => ?_⟩
    rw [if_pos (hi ▸ h), ← hu]

/-- A host command row: the command as R270 judges it, then its response. -/
theorem hostRow_judged {h : HostHdr} {code : Nat} {p : List Byte} {s v : State} {r : Reply} (hr : HostReady h s)
    (hw : queueOk code h.m = true → waitsFor s h.ctx code p = [])
    (hf : code = 0x11 → (s.berth (Fin.ofNat 64 (pbits p 0 5 0))).zfill = false
      ∧ (s.berth (Fin.ofNat 64 (pbits p 0 5 0))).held = [])
    (hj : judgeCmd h code 0 p { enterWindow h.ctx h.m s with nextId := s.nextId + 1, opens := s.opens ++ [
      { id := s.nextId, ctx := h.ctx, m := h.m, mseq := h.mseq, gap := false, recs := [], held := 1 } ] } = (r, v))
    (ho : v.opens = s.opens ++ [
      { id := s.nextId, ctx := h.ctx, m := h.m, mseq := h.mseq, gap := false, recs := [], held := 1 } ])
    (hu : unsent v h.ctx < 32) (ha : v.after = [])
    (hp : ∀ p : Port, (v.port[p]).reconfig = false) (hs : v.pwr.swReset = false)
    (hq : ∀ r, v.pwr.req = some r → r.target ≠ .sleep) :
    hostRow code h p s = .next (settle (flushEvents
      (queueResp h.ctx (respBytes h.mseq false false h.m (records h code r)) { v with opens := s.opens }))) := by
  obtain ⟨h1, h3, -⟩ := hr
  obtain ⟨w, hwin, -⟩ := enterWindow_eq h.ctx h.m s
  rw [hwin] at hj
  unfold hostRow finish
  rw [if_pos h1, hwin]
  congr 3
  unfold runManifest
  simp only [State.forEach, List.zipIdx_cons, List.zipIdx_nil, List.foldl_cons, List.foldl_nil]
  have hw2 : (if queueOk code h.m = true then waitsFor s h.ctx code p else []) = [] := by
    by_cases hc : queueOk code h.m = true
    · rw [if_pos hc]; exact hw hc
    · rw [if_neg hc]
  have run : ∀ k o, runCommand s.nextId h code 0 p { s with nextId := k, opens := o, can := w }
      = addRecord s.nextId h.ackAll code 0 (judgeCmd h code 0 p { s with nextId := k, opens := o, can := w }).1
          (judgeCmd h code 0 p { s with nextId := k, opens := o, can := w }).2 := by
    intro k o
    unfold runCommand
    have hw3 : (if queueOk code h.m = true then waitsFor { s with nextId := k, opens := o, can := w } h.ctx code p
        else []) = [] := by
      rw [waitsFor_opens, hw2]
    rw [hw3, if_pos List.isEmpty_nil]
    have hfill : (if code = 0x11 ∧ (berthArg p).isSome = true
          ∧ (!othersBerth { s with nextId := k, opens := o, can := w } h.ctx (Fin.ofNat 64 (pbits p 0 5 0))) = true
        then freeHeld (Fin.ofNat 64 (pbits p 0 5 0)) { s with nextId := k, opens := o, can := w }
        else { s with nextId := k, opens := o, can := w }) = { s with nextId := k, opens := o, can := w } := by
      split
      · rename_i hc
        exact freeHeld_none (s := { s with nextId := k, opens := o, can := w }) (hf hc.1).1 (hf hc.1).2
      · rfl
    simp only [hfill]
  have hrecs : closeResp s.nextId (updOpen s.nextId (fun o => { o with held := o.held - 1 })
        (addRecord s.nextId h.ackAll code 0 r v))
        = queueResp h.ctx (respBytes h.mseq false false h.m (records h code r)) { v with opens := s.opens } :=
    closeResp_record (o := ⟨s.nextId, h.ctx, h.m, h.mseq, false, [], 1⟩) h3 rfl rfl rfl ho hu h code r
  obtain ⟨o, ho'⟩ := addRecord_eq s.nextId h.ackAll code 0 r v
  have hn : noteAfter s.nextId h.ctx (addRecord s.nextId h.ackAll code 0 r v) = addRecord s.nextId h.ackAll code 0 r v :=
    noteAfter_quiet _ _ _ (by rw [ho']; exact hp) (by rw [ho']; exact hs) (by rw [ho']; exact hq)
  rw [run, hj, hn, hrecs]
  exact runAfter_none (by rw [after_queueResp]; exact ha)

/-- A host command row whose command, judged by R270, answers `r` with the effect `u`. -/
theorem hostRow_answer {h : HostHdr} {code : Nat} {p : List Byte} {s u : State} {r : Reply} (hr : HostReady h s)
    (hw : queueOk code h.m = true → waitsFor s h.ctx code p = [])
    (hf : code = 0x11 → (s.berth (Fin.ofNat 64 (pbits p 0 5 0))).zfill = false
      ∧ (s.berth (Fin.ofNat 64 (pbits p 0 5 0))).held = [])
    (hj : ∀ k o w, judgeCmd h code 0 p { s with nextId := k, opens := o, can := w }
      = (r, { u with nextId := k, opens := o, can := w }))
    (hk : u.nextId = s.nextId) (ho : u.opens = s.opens) (hc : u.can = s.can) (hi : u.ifaceOf h.ctx = s.ifaceOf h.ctx)
    (hu : unsent u h.ctx < 32) (ha : u.after = [])
    (hp : ∀ p : Port, (u.port[p]).reconfig = false) (hs : u.pwr.swReset = false)
    (hq : ∀ r, u.pwr.req = some r → r.target ≠ .sleep) :
    hostRow code h p s = .next (settle (flushEvents (answer h code r u))) := by
  obtain ⟨w, hwin, hwinU⟩ := enterWindow_eq h.ctx h.m s
  have hj' := hj (s.nextId + 1) (s.opens ++ [
    { id := s.nextId, ctx := h.ctx, m := h.m, mseq := h.mseq, gap := false, recs := [], held := 1 } ]) w
  rw [hostRow_judged (v := { u with nextId := s.nextId + 1, can := w, opens := s.opens ++ [
    { id := s.nextId, ctx := h.ctx, m := h.m, mseq := h.mseq, gap := false, recs := [], held := 1 } ] }) hr hw hf
    (by rw [hwin]; exact hj') rfl hu ha hp hs hq]
  congr 3
  unfold answer queueResp
  rw [hwinU u hc hi]
  have hi : ∀ k o, State.ifaceOf { u with nextId := k, opens := o, can := w } h.ctx = State.ifaceOf u h.ctx :=
    fun _ _ => rfl
  have hi2 : State.ifaceOf { u with can := w } h.ctx = State.ifaceOf u h.ctx := rfl
  rw [hi, hi2, ← ho, hk]
  cases State.ifaceOf u h.ctx <;> rfl

end Sys2Proof.Machine
end

