-- ==== Sys2Proof/Laws/Molia.lean ====
section
/-! SUPPORT. Running one Molia instruction: what `molia` answers on a ready cluster, and the register writes. -/

namespace Sys2Proof.Machine

theorem updCl_congr (s : State) (e : Side) (c : Cluster) {f g : ClusterState → ClusterState}
    (h : f (s.cluster e c) = g (s.cluster e c)) : s.updCl e c f = s.updCl e c g := by
  cases e <;> simp only [State.updCl, State.updEng, State.cluster, State.eng] at h ⊢ <;> rw [h]

theorem retire_eq (e : Side) (c : Cluster) (n : Nat) (s : State) :
    retire e c n s = s.updCl e c fun k => k.after n := rfl

@[simp] theorem cluster_addFld (s : State) (f : Fld) (n : Nat) (e : Side) (c : Cluster) :
    (s.addFld f n).cluster e c = s.cluster e c := by cases e <;> rfl

@[simp] theorem cluster_countPm (s : State) (e e' : Side) (c : Cluster) (n : Nat) (x : EngEcc) :
    (countPm e' n x s).cluster e c = s.cluster e c := cluster_addFld ..

/-- A ready cluster issues its instruction: what follows is decided by the body on the state after the fetch. -/
theorem molia_issued {e : Side} {c : Cluster} {n : Nat} {i : Instr} {x : EngEcc} {body : State → MolRes} {s : State}
    (hr : MolReady e c n i s) :
    molia e c n i x true body s
      = match body (countPm e n x s) with
        | .exc cause => finish (programExc e c cause (s.cluster e c).pc x.scr (countPm e n x s))
        | .stall => finish s
        | .done t target =>
          let m := target.getD ((s.cluster e c).pc + n)
          if m < (s.eng e).codeWords then finish (retire e c m t)
          else finish (programExc e c 2 (s.cluster e c).pc (x.scr - (t.fld (F.ENG_ECC_SCR_CORR (sideIx e))
            - (countPm e n x s).fld (F.ENG_ECC_SCR_CORR (sideIx e)))) (retire e c m t))
        | .ends t after => finish (after (retire e c ((s.cluster e c).pc + n) t)) := by
  obtain ⟨h1, hg, h2, h3, h4, h5, h6⟩ := hr
  unfold molia
  simp only [h1, hg, h4, h5, h6, bne_self_eq_false, Bool.or_false, Bool.false_eq_true, if_false, Bool.not_true,
    Nat.not_le.mpr (show (s.cluster e c).pc < (s.eng e).codeWords by omega), Nat.not_lt.mpr (Nat.le_of_lt h2),
    Nat.not_lt.mpr (show (s.cluster e c).count + 1 ≤ tileLimit s e from h3), decide_false] <;>
    cases body (countPm e n x s) <;> simp only

/-- An instruction of a ready cluster that completes: its own effect, then retirement. -/
theorem molia_done {e : Side} {c : Cluster} {n : Nat} {i : Instr} {x : EngEcc} {legal : Bool} {body : State → MolRes}
    {s t : State} {target : Option Nat} (hr : MolReady e c n i s) (hl : legal = true)
    (hb : body (countPm e n x s) = .done t target) (hn : ∀ y, target = some y → y < (s.eng e).codeWords) :
    molia e c n i x legal body s
      = .next (settle (flushEvents (t.updCl e c fun k => k.after (target.getD ((s.cluster e c).pc + n))))) := by
  have h4 : target.getD ((s.cluster e c).pc + n) < (s.eng e).codeWords := by
    cases target with
    | none => exact hr.2.2.1
    | some y => exact hn y rfl
  rw [hl, molia_issued hr, hb]
  simp only [h4, if_true]
  rfl

/-- An instruction of a ready cluster that stalls leaves everything as it is (R157). -/
theorem molia_stall {e : Side} {c : Cluster} {n : Nat} {i : Instr} {x : EngEcc} {legal : Bool} {body : State → MolRes}
    {s : State} (hr : MolReady e c n i s) (hl : legal = true) (hb : body (countPm e n x s) = .stall) :
    molia e c n i x legal body s = .next (settle (flushEvents s)) := by
  rw [hl, molia_issued hr, hb]
  rfl

/-- An instruction of a ready cluster that ends or holds its routine. -/
theorem molia_ends {e : Side} {c : Cluster} {n : Nat} {i : Instr} {x : EngEcc} {legal : Bool} {body : State → MolRes}
    {s t : State} {after : State → State} (hr : MolReady e c n i s) (hl : legal = true)
    (hb : body (countPm e n x s) = .ends t after) :
    molia e c n i x legal body s
      = .next (settle (flushEvents (after (t.updCl e c fun k => k.after ((s.cluster e c).pc + n))))) := by
  rw [hl, molia_issued hr, hb]
  rfl

@[simp] theorem setS_pc (k : ClusterState) (n : BitVec 4) (w : Word) : (k.setS n w).pc = k.pc := by
  unfold ClusterState.setS; split <;> rfl

@[simp] theorem setV_pc (k : ClusterState) (n : BitVec 5) (v : Vector Half 64) : (k.setV n v).pc = k.pc := rfl

@[simp] theorem setP_pc (k : ClusterState) (n : BitVec 3) (v : BitVec 64) : (k.setP n v).pc = k.pc := rfl

end Sys2Proof.Machine
end

