-- ==== Sys2Proof/Tests/Slice0.lean ====
section
/-! SUPPORT. Tests: an ill-formed term for each check of WellFormed, results that the spec writes out, and for every
statement with hypotheses a concrete state and operands that meet them. -/

set_option maxRecDepth 100000
set_option synthInstance.maxSize 2000
set_option Elab.async false

namespace Sys2Proof.Tests

open Sys2Proof Sys2Proof.Machine

/-- A device in mode `m` with two engines, C0 to C3 bound to the four interfaces and every permission given to C0. -/
def device (m : Mode) : State :=
  let s : State := { State.reset with pwr := { State.reset.pwr with mode := m }, nextId := 5 }
  let s := s.setReg 0x40000 (1 + 8 * 2 + 64 * 3 + 512 * 4)
  let s := (s.setReg 0x40040 0xFF).setReg 0x40044 0x3FFFFF
  settle { s with
    engA := { s.engA with role := .active, powered := true, imgValid := true, codeWords := 100, tileEntry := 4 }
    engB := { s.engB with role := .standby, powered := true, imgValid := true, codeWords := 100 }
    stk := { s.stk with powered := true } }

/-! ### Well-formedness: an ill-formed term for each check -/

/-- Host context C0, queue F; and its queue M. -/
def hd : HostHdr := ⟨0, false, 1, false, {}⟩
def hm : HostHdr := ⟨0, true, 1, false, {}⟩

def tile0 : TilePkt := ⟨true, 1, 0, 0, 0, 0, List.replicate 4096 0, 0⟩
def zc (cmd code : Nat) (data : List Byte) : ZcmdPkt :=
  let k : ZcmdPkt := ⟨true, 2, BitVec.ofNat 8 cmd, 0, BitVec.ofNat 16 code, 0, data, 0⟩
  { k with crc := crc32c (zcmdBytes k) }
def rec0 : Record := ⟨1, 0, 0, 0, [], 0⟩
def e0 : EngEcc := ⟨0, 0⟩
def fs0 : FS := ⟨1, 2, 3, false, 0, 0, e0⟩
def fv0 : FV := ⟨false, 1, 2, 3, 16, 0, e0⟩

theorem test_wf_payload : WellFormed (.ping hd [1, 2, 3]) = false ∧ WellFormed (.ping hd [1, 2, 3, 4]) = true := by decide
theorem test_wf_wire : WellFormed (.manifest 0 [⟨true, [0]⟩] {}) = false
    ∧ WellFormed (.manifest 0 (List.replicate 1027 ⟨true, List.replicate 8 0⟩) {}) = false := by decide +kernel
theorem test_wf_spi : WellFormed (.spiWrite [] {}) = false := by decide
theorem test_wf_can : WellFormed (.canFrame ⟨2048, false, true, true, false, [], []⟩ {}) = false
    ∧ WellFormed (.canFrame ⟨0, false, false, false, false, List.replicate 9 0, []⟩ {}) = false := by decide
theorem test_wf_regAddr : WellFormed (.cntClr 0 2 0) = false ∧ WellFormed (.cntClr 0 0x1000000 0) = false := by decide
theorem test_wf_tile : WellFormed (.tilePkt .a 0 { tile0 with codes := [0] }) = false := by decide +kernel
theorem test_wf_zcmd : WellFormed (.trimCmd .a 0 { zc 1 0 [] with data := List.replicate 8193 0 }) = false := by
  decide +kernel
theorem test_wf_calrun : WellFormed (.calrun .a 0 (zc 3 2 []) ⟨[(512, ⟨0, [], 0, false, []⟩)], 0⟩) = false := by
  decide +kernel
theorem test_wf_record : WellFormed (.ack .rtn0 { rec0 with data := List.replicate 65 0 }) = false := by decide +kernel
theorem test_wf_ist : WellFormed (.inServiceTest [⟨3, false, false, 0, 0, 0⟩, ⟨3, true, true, 1, 1, 1⟩]) = false := by decide
theorem test_wf_beacon : WellFormed (.beacon .beA (.bus [0])) = false := by decide
theorem test_wf_berthOff : WellFormed (.scrub 4 []) = false ∧ WellFormed (.scrub 0x1800000 []) = false := by decide
theorem test_wf_scalarExt : WellFormed (.sadd .a 0 { fs0 with ext := 5 }) = false := by decide
theorem test_wf_vectorExt : WellFormed (.vadd .a 0 { fv0 with ext := 5 }) = false := by decide

/-! ### Words and results that the spec writes out -/

def ascii9 : List Byte := [0x31, 0x32, 0x33, 0x34, 0x35, 0x36, 0x37, 0x38, 0x39]

/-- Check values of R203, R232 and R248 over "123456789". -/
theorem test_crc_check_values : crc32 ascii9 = 0xCBF43926 ∧ crc32c ascii9 = 0xE3069283 ∧ crc16 ascii9 = 0x29B1 := by
  decide +kernel

/-- The example of R37: pixel (1203, 700). -/
theorem test_geometry : strOfPix 1203 700 = 179350 ∧ tileOfStr 179350 = 338 ∧ zoneOfStr 179350 = 10
    ∧ strInTile 179350 = 486 ∧ tileInZone 338 = 18 ∧ zoneOfTile 338 = 10 ∧ tileOfZone 10 18 = 338
    ∧ strOfTile 338 486 = 179350 ∧ pixX 179350 3 = 1203 ∧ pixY 179350 = 700 := by decide

/-- The example of R96: the request of eight LEDs of 2.95 V is 24.06 V. -/
theorem test_rail_request : vNeed 8 2950 * 20 = 24060 := by decide

/-- The example of R225: knots 3,104 and 3,111, and 3,106 at I = 16,388 on the 2.2 curve. -/
theorem test_gamma_curve : gammaKnot 1024 = 3104 ∧ gammaKnot 1025 = 3111
    ∧ curveStage (State.reset.setFld F.FFN_CTRL_CURVE_SEL 1) 16388 = 3106 := by decide +kernel

/-- The example of the uniformity and neighbour fill stages: gain 230, one bypassed neighbour, FILL_GAIN 192. -/
theorem test_uniformity_and_fill :
    let s := State.reset.setFld F.FFN_CTRL_FILL_GAIN 192
    let s := { s with br := { s.br with mem := [(uniOff 1203 700, 230)] }
                      ffn := { s.ffn with bypass := [(179350, 0x10)] } }
    uniformityStage s 1203 700 3106 = 2801 ∧ fillStage s 1203 700 2801 = 3326 := by decide +kernel

/-- The example of R220: the enlarged box covers (316, −221), and not (316, −171). -/
theorem test_glare_box :
    let g : Shape := ⟨⟨[0, 0] ++ toLe 2 250 ++ toLe 2 400 ++ toLe 2 (65536 - 260) ++ toLe 2 (65536 - 200)
      ++ [10, 0] ++ toLe 2 1024 ++ [0, 0]⟩, 16388, []⟩
    covers g 316 (-221) = true ∧ covers g 316 (-171) = false ∧ covers g 240 (-270) = true ∧ covers g 239 (-270) = false := by
  decide

/-- The examples of R241: 0.15 UI and 110 mV give FOM 55, 90 mV gives 45. -/
theorem test_fom :
    let s := (device .dark).setFld (F.LINK_PSTAT_STATE 0) 2 |>.setBit (F.LINK_LANE_LOCK 0 0) true
    (∃ t, exec (.fom 0 0 150000 110000 5 9) s = .next t ∧ t.fld (F.LINK_LANE_FOM 0 0) = 55)
      ∧ (∃ t, exec (.fom 0 0 150000 90000 5 9) s = .next t ∧ t.fld (F.LINK_LANE_FOM 0 0) = 45) :=
  ⟨⟨_, rfl, by decide +kernel⟩, ⟨_, rfl, by decide +kernel⟩⟩

/-- The example of R80: four sub-pulses of 10,000 slots; in sub-period 0 slots 10,240 to 16,383 and 0 to 3,855. -/
theorem test_spread : litAt 16 2 10 40000 10239 = false ∧ litAt 16 2 10 40000 10240 = true
    ∧ litAt 16 2 10 40000 16383 = true ∧ litAt 16 2 10 40000 0 = true ∧ litAt 16 2 10 40000 3855 = true
    ∧ litAt 16 2 10 40000 3856 = false := by decide

/-- The example of R387: the throttle scale at 130.1 °C with T_THR 110 °C and KTH 20. -/
theorem test_throttle :
    let s := ((State.reset.setFld F.THRM_CTRL_KTH 20).setFld F.THRM_CTRL_T_THR 110)
    scaleOf s 1301 = 39190 := by decide +kernel
/-! ### Witnesses: the whole machine -/

theorem meets_StepRunsFrontCommand : ({ State.reset with pending := [.powerOn, .trstN] } : State).pending = .powerOn :: [.trstN] := rfl
theorem meets_EmptyQueueIdles : State.reset.pending = [] := rfl

/-- A step whose state before meets both invariants, one of a queue and one of the empty queue. -/
theorem meets_OutputsAndCutsKept :
    let s := { device .beam with pending := [.wakeN 20000, .tick ⟨false, 0⟩], seq := { (device .beam).seq with running := true } }
    (OutputsFollow s ∧ LocksCut s ∧ ∃ t, step s = .next t)
      ∧ OutputsFollow State.reset ∧ LocksCut State.reset ∧ ∃ t, step State.reset = .next t :=
  ⟨⟨by decide +kernel, by unfold LocksCut; decide +kernel, _, rfl⟩, by decide +kernel, by unfold LocksCut; decide +kernel, _, rfl⟩

theorem meets_RegisterLaws :
    (let f : Fld := ⟨0x80014, 0, 32⟩; 0 < f.width ∧ f.lo + f.width ≤ 32)
      ∧ (let f : Fld := ⟨0x40044, 31, 1⟩; 0 < f.width ∧ f.lo + f.width ≤ 32)
      ∧ Sparse.wf regReset State.reset.regs ∧ Sparse.wf regReset (device .beam).regs := by decide +kernel

/-- One instruction of several formats, with fields at their bounds. -/
theorem meets_MoliaDecodeOfEncode :
    ∀ i ∈ ([.sadd .b 7 ⟨15, 15, 0, true, 127, 0xFFFFFFFF, e0⟩, .yield .a 0 ⟨255, 0xFFF, e0⟩, .vadd .a 3 ⟨true, 31, 31, 16, 31, 0xFFFF, e0⟩
      , .bdec .b 1 ⟨15, 15, 32767, e0⟩, .sld .a 0 ⟨15, 15, 1, 0x1FFFF, e0⟩, .vrs .b 7 ⟨31, 3, 31, true, 8191, e0⟩
      , .vout .a 2 ⟨31, 15, 31, 63, 63, e0⟩, .tugl .b 5 ⟨15, 15, 15, 15, 255, e0⟩, .prange .a 1 ⟨7, 15, 15, 511, e0⟩] : List Instr),
      (Molia.encode i).isSome = true ∧ (Molia.moliaPlace i).isSome = true ∧ WellFormed i = true ∧ noEcc i = true := by
  decide +kernel

/-! ### Witnesses: Molia -/

/-- Cluster 0 of engine A runs at instruction `pc` with the S registers `s`. -/
def mol (pc : Nat) (s : List (Nat × Word)) : State :=
  (device .beam).updCl .a 0 fun k => { k with run := .running, pc := pc, pos := 1, tile := 3, s := s }

/-- The same with a tug queue. -/
def molTugs (s : List (Nat × Word)) (ts : List Tug) : State := (mol 10 s).updCl .a 0 fun k => { k with tugs := ts }

/-- State `s` with the words of `i` where cluster 0 of engine A fetches next. -/
def issue (i : Instr) (s : State) : State :=
  let n := (s.cluster .a 0).pc
  s.updEng .a fun g => { g with pm := [(n, (Molia.encode i).getD 0), (n + 1, Molia.extOf i)] }

def tugAt (dst : Nat) : Tug := ⟨dst, 0, 16, none⟩

theorem meets_ScalarArithmetic : ∀ p ∈ scalarTable.map (·.1), ∀ f ∈ [fs0, { fs0 with xi := true, sb := 0, ext := 0xFFFFFFFF }],
    let n := if f.xi then 2 else 1
    f.rsv = 0 ∧ (f.xi = true → f.sb = 0) ∧ MolReady .a 0 n (p .a 0 f) (issue (p .a 0 f) (mol (99 - n) [])) := by
  decide +kernel

theorem meets_ImmediateAndSpecialReads :
    (let f : FSI := ⟨15, 0, 0, 0x8000, e0⟩
     f.rsv = 0 ∧ f.sa = 0 ∧ MolReady .a 0 1 (.saddi .a 0 f) (issue (.saddi .a 0 f) (mol 98 []))
       ∧ MolReady .a 0 1 (.slui .a 0 f) (issue (.slui .a 0 f) (mol 98 [])))
      ∧ (∀ sel ∈ [SgetSel.tile, .frm, .cluster, .rowY0, .colX0], let f : FG := ⟨0, 0, e0⟩
          f.rsv = 0 ∧ MolReady .a 0 1 (.sget .a 0 sel f) (issue (.sget .a 0 sel f) (mol 0 [])))
      ∧ (∀ b : Bool, let i := Instr.prof .a 0 b ⟨0, 0, e0⟩
          let s := (issue i (mol 10 [])).setBit (F.ENG_CTRL_PROFILE (sideIx .a)) true
          MolReady .a 0 1 i s ∧ s.bit (F.ENG_CTRL_PROFILE (sideIx .a)) = true)
      ∧ (let f : FC := ⟨0, 0, e0⟩; let s := issue (.tugwait .a 0 f) (molTugs [] [tugAt 0])
         f.rsv = 0 ∧ f.imm8 = 0 ∧ f.imm8.toNat ≤ 7 ∧ MolReady .a 0 1 (.tugwait .a 0 f) s
          ∧ f.imm8.toNat < (s.cluster .a 0).tugs.length ∧ MolReady .a 0 1 (.nop .a 0 f) (issue (.nop .a 0 f) s))
      ∧ (∀ n ∈ [7, 8], let f : FC := ⟨7, 0, e0⟩; let s := issue (.tugwait .a 0 f) (molTugs [] (List.replicate n (tugAt 0)))
         f.imm8.toNat ≤ 7 ∧ MolReady .a 0 1 (.tugwait .a 0 f) s
           ∧ (if n = 7 then (s.cluster .a 0).tugs.length ≤ f.imm8.toNat else f.imm8.toNat < (s.cluster .a 0).tugs.length)) := by
  decide +kernel

theorem meets_BranchesGoWhereTheySay :
    (∀ p ∈ branchTable, let f : FB := ⟨0, 0, 99, e0⟩; let s := issue (p.1 .a 0 f) (mol 98 [])
      f.rsv = 0 ∧ p.2.1 f = true ∧ MolReady .a 0 1 (p.1 .a 0 f) s ∧ f.target.toNat < (s.eng .a).codeWords)
      ∧ (let f : FB := ⟨7, 0, 0, e0⟩; let s := issue (.bdec .a 0 f) (mol 98 [(7, 1)])
         f.rsv = 0 ∧ f.sa ≠ 0 ∧ MolReady .a 0 1 (.bdec .a 0 f) s ∧ f.target.toNat < (s.eng .a).codeWords)
      ∧ (let f : FJ := ⟨14, 0, 0, 99, e0⟩; let s := issue (.call .a 0 f) (mol 98 [])
         f.rsv = 0 ∧ f.sa = 0 ∧ MolReady .a 0 1 (.call .a 0 f) s ∧ f.target.toNat < (s.eng .a).codeWords)
      ∧ (let f : FJ := ⟨0, 14, 0, 0, e0⟩; let s := issue (.jr .a 0 f) (mol 0 [(14, 99)])
         f.rsv = 0 ∧ f.sd = 0 ∧ f.target = 0 ∧ MolReady .a 0 1 (.jr .a 0 f) s
           ∧ ((s.cluster .a 0).sreg f.sa).toNat < (s.eng .a).codeWords) := by
  decide +kernel

/-- A load of the last bytes of the latch page, with a tug entry that ends where it begins. -/
theorem meets_ScalarLoads : ∀ p ∈ scalarLoads,
    let f : FSM := ⟨3, 2, 0, 0, e0⟩
    let s := issue (p.1 .a 0 f) (molTugs [(2, BitVec.ofNat 32 (0x41000 - p.2))] [tugAt 0x3FFF0])
    let a := scalarAddr (s.cluster .a 0) f
    f.rsv = 0 ∧ MolReady .a 0 1 (p.1 .a 0 f) s ∧ a % p.2 = 0 ∧ a + p.2 ≤ 0x41000
      ∧ (∀ t ∈ (s.cluster .a 0).tugs, t.dst + t.len ≤ a ∨ a + p.2 ≤ t.dst) := by decide +kernel

/-- A store to the last bytes of scratch, between a tug entry's source and another's destination. -/
theorem meets_ScalarStores : ∀ p ∈ scalarStores,
    let f : FSM := ⟨3, 2, 0, 0x1FFFF &&& BitVec.ofInt 17 (-4), e0⟩
    let s := issue (p.1 .a 0 f) (molTugs [(2, BitVec.ofNat 32 (0x40004 - p.2))] [⟨0x3FFEC, 0x3FFEC, 16, none⟩])
    let a := scalarAddr (s.cluster .a 0) f
    f.rsv = 0 ∧ MolReady .a 0 1 (p.1 .a 0 f) s ∧ a % p.2 = 0 ∧ a + p.2 = 0x40000
      ∧ (∀ t ∈ (s.cluster .a 0).tugs, (t.dst + t.len ≤ a ∨ a + p.2 ≤ t.dst)
        ∧ (t.berth = none → t.src + t.len ≤ a ∨ a + p.2 ≤ t.src)) := by decide +kernel

def fvx : FV := ⟨true, 31, 0, 16, 0, 0xFFFF, e0⟩

theorem meets_VectorArithmetic :
    (∀ p ∈ vectorTable.map (·.1), ∀ f ∈ [fv0, fvx],
      vectorFields f ∧ vectorWords f = (if f.bcast then 2 else 1)
        ∧ MolReady .a 0 (vectorWords f) (p .a 0 f) (issue (p .a 0 f) (mol (99 - vectorWords f) [])))
      ∧ (fvx.va = 0 ∧ MolReady .a 0 (vectorWords fvx) (.vmov .a 0 fvx) (issue (.vmov .a 0 fvx) (mol 97 [])))
      ∧ (let f : FV := ⟨false, 31, 0, 0, 31, 0, e0⟩
         vectorFields f ∧ f.bcast = false ∧ f.va = 0 ∧ f.vb = 0 ∧ f.pred.getLsbD 4 = true
           ∧ MolReady .a 0 1 (.vidx .a 0 f) (issue (.vidx .a 0 f) (mol 98 []))
           ∧ MolReady .a 0 (vectorWords f) (.vsel .a 0 f) (issue (.vsel .a 0 f) (mol 98 []))) := by decide +kernel

theorem meets_VectorCompares :
    ∀ i ∈ [Instr.vcmpeq .a 0, .vcmpne .a 0, .vcmpltu .a 0, .vcmpleu .a 0, .vcmplts .a 0, .vcmples .a 0],
    let f : FV := ⟨true, 7, 31, 15, 31, 0, e0⟩
    vectorFields f ∧ f.vd.toNat < 8 ∧ MolReady .a 0 (vectorWords f) (i f) (issue (i f) (mol 98 [])) := by decide +kernel

theorem meets_VectorReductions : ∀ i ∈ [Instr.vrmaxu .a 0, .vrminu .a 0, .vrsum .a 0],
    let f : FV := ⟨false, 15, 31, 0, 0, 0, e0⟩
    f.bcast = false ∧ f.vb = 0 ∧ f.vd.toNat < 16 ∧ (f.pred.getLsbD 4 = true ∨ f.pred = 0)
      ∧ MolReady .a 0 1 (i f) (issue (i f) (mol 98 [])) := by decide +kernel

theorem meets_PredicateOperations :
    (∀ i ∈ [Instr.pand .a 0, .por .a 0, .pxor .a 0, .pandn .a 0, .pnot .a 0, .pset .a 0, .pclr .a 0],
      let f : FP := ⟨7, 0, 0, 0, e0⟩
      f.rsv = 0 ∧ f.pa = 0 ∧ f.pb = 0 ∧ MolReady .a 0 1 (i f) (issue (i f) (mol 98 [])))
      ∧ (let f : FPR := ⟨7, 1, 2, 0, e0⟩
         f.rsv = 0 ∧ MolReady .a 0 1 (.prange .a 0 f) (issue (.prange .a 0 f) (mol 98 [(1, 0xFFFFFFFF), (2, 64)]))) := by
  decide +kernel

theorem meets_VectorLoads :
    let f : FVM := ⟨31, 2, 31, 0, e0⟩
    let s (i : Instr) (n : Nat) := issue i (molTugs [(2, BitVec.ofNat 32 (0x41000 - n))] [tugAt 0x3FFF0])
    let w := s (.vldw .a 0 f) 128
    let b := s (.vldb .a 0 f) 64
    (f.pred.getLsbD 4 = true ∨ f.pred = 0) ∧ MolReady .a 0 1 (.vldw .a 0 f) w ∧ MolReady .a 0 1 (.vldb .a 0 f) b
      ∧ vectorAddr (w.cluster .a 0) f 2 % 2 = 0 ∧ vectorAddr (w.cluster .a 0) f 2 + 128 ≤ 0x41000
      ∧ (∀ t ∈ (w.cluster .a 0).tugs, t.dst + t.len ≤ vectorAddr (w.cluster .a 0) f 2)
      ∧ vectorAddr (b.cluster .a 0) f 1 + 64 ≤ 0x41000
      ∧ (∀ t ∈ (b.cluster .a 0).tugs, t.dst + t.len ≤ vectorAddr (b.cluster .a 0) f 1) := by decide +kernel

theorem meets_VectorStores :
    let f : FVM := ⟨31, 2, 0, 0xFFF, e0⟩
    let s (i : Instr) (n : Nat) := issue i (molTugs [(2, BitVec.ofNat 32 (0x40000 - n))] [])
    let w := s (.vstw .a 0 f) 126
    let b := s (.vstb .a 0 f) 63
    (f.pred.getLsbD 4 = true ∨ f.pred = 0) ∧ MolReady .a 0 1 (.vstw .a 0 f) w ∧ MolReady .a 0 1 (.vstb .a 0 f) b
      ∧ vectorAddr (w.cluster .a 0) f 2 % 2 = 0 ∧ vectorAddr (w.cluster .a 0) f 2 + 128 = 0x40000
      ∧ (w.cluster .a 0).tugs = [] ∧ (b.cluster .a 0).tugs = [] ∧ vectorAddr (b.cluster .a 0) f 1 + 64 = 0x40000 := by
  decide +kernel

/-- Tables that end at the end of the latch page: two entries with shift 15, three for interpolation. -/
theorem meets_TableLookups :
    (let f : FL := ⟨31, 0, 2, 15, 31, 0, e0⟩
     let s (i : Instr) (n : Nat) := issue i (mol 98 [(2, BitVec.ofNat 32 (0x41000 - n))])
     let t := s (.vlut .a 0 f) 4
     let u := s (.vluti .a 0 f) 6
     f.rsv = 0 ∧ (f.pred.getLsbD 4 = true ∨ f.pred = 0) ∧ MolReady .a 0 1 (.vlut .a 0 f) t
       ∧ MolReady .a 0 1 (.vluti .a 0 f) u ∧ f.sh.toNat ≠ 0
       ∧ ((t.cluster .a 0).sreg f.sb).toNat % 2 = 0 ∧ ((u.cluster .a 0).sreg f.sb).toNat % 2 = 0
       ∧ ((t.cluster .a 0).sreg f.sb).toNat + 2 * (65536 / 2 ^ f.sh.toNat) ≤ 0x41000
       ∧ ((u.cluster .a 0).sreg f.sb).toNat + 2 * (65536 / 2 ^ f.sh.toNat + 1) ≤ 0x41000
       ∧ (t.cluster .a 0).tugs = [] ∧ (u.cluster .a 0).tugs = [])
      ∧ (let f : FL := ⟨0, 0, 0, 0, 0, 0, e0⟩
         let s := issue (.vlut .a 0 f) (mol 98 [])
         MolReady .a 0 1 (.vlut .a 0 f) s ∧ ((s.cluster .a 0).sreg f.sb).toNat + 2 * (65536 / 2 ^ f.sh.toNat) ≤ 0x41000) := by
  decide +kernel

theorem meets_VoutWritesRow :
    let f : FO := ⟨31, 2, 31, 0, 63, e0⟩
    let s := issue (.vout .a 0 f) (mol 98 [])
    let s0 := s.updCl .a 0 fun k => { k with pos := 0 }
    f.rsv = 0 ∧ (f.pred.getLsbD 4 = true ∨ f.pred = 0) ∧ MolReady .a 0 1 (.vout .a 0 f) s ∧ (s.cluster .a 0).pos ≠ 0
      ∧ ((s.cluster .a 0).sreg f.sr + f.row.setWidth 32).toNat ≤ 63
      ∧ MolReady .a 0 1 (.vout .a 0 f) s0 ∧ (s0.cluster .a 0).pos = 0 := by decide +kernel

/-- TUGL of the last 16 bytes of a layer of 32 bytes, TUGS of the last of the latch page; a full queue less one; a
berth entry whose bytes the other engine's read has served. -/
theorem meets_TugsQueueAndCopy :
    (let f : FT := ⟨1, 2, 3, 15, 0, e0⟩
     let d := 0x40 + 32 * f.layer.toNat
     let s := issue (.tugl .a 0 f) (molTugs [(1, 0x3FFF0), (2, 16), (3, 16)] (List.replicate 7 (tugAt 0)))
     let s : State := { s with ffn := { s.ffn with page := [(d, 0x80), (d + 2, 5), (d + 24, 32)] } }
     f.rsv = 0 ∧ MolReady .a 0 1 (.tugl .a 0 f) s ∧ tugOk 0x3FFF0 16 16 ∧ ((s.cluster .a 0).sreg 1).toNat = 0x3FFF0
       ∧ (s.cluster .a 0).tugs.length < 8 ∧ (pageByte s d).getLsbD 7 = true ∧ 16 + 16 ≤ (pageByte s (d + 24)).toNat)
      ∧ (let f : FT := ⟨1, 2, 3, 0, 0, e0⟩
         let s := issue (.tugs .a 0 f) (molTugs [(2, 0x40FFC), (3, 4)] [])
         f.rsv = 0 ∧ f.layer = 0 ∧ MolReady .a 0 1 (.tugs .a 0 f) s ∧ tugOk 0 0x40FFC 4
           ∧ ((s.cluster .a 0).sreg 2).toNat + 4 ≤ 0x41000)
      ∧ (let s := molTugs [] [tugAt 64, tugAt 0]
         (s.cluster .a 0).tugs = tugAt 64 :: [tugAt 0] ∧ (tugAt 64).berth = none)
      ∧ (let t : Tug := ⟨0, 0, 4, some 5⟩
         let s := (molTugs [] [t]).updEng .a fun g => { g with served := g.served.set 0 [(t, [1, 2, 3, 4])] }
         (s.cluster .a 0).tugs = t :: [] ∧ (s.eng .a).served[(0 : Fin 8)] = (t, [1, 2, 3, 4]) :: []
           ∧ [1, 2, 3, 4].length = t.len) := by decide +kernel

theorem meets_RoutineEnds :
    (∀ i ∈ [Instr.yield .a 0, .tickwait .a 0], let f : FC := ⟨0, 0, e0⟩; let s := issue (i f) (molTugs [] [tugAt 0])
      f.rsv = 0 ∧ f.imm8 = 0 ∧ MolReady .a 0 1 (i f) s ∧ (s.cluster .a 0).tugs ≠ [])
      ∧ (∀ i ∈ [Instr.yield .a 0, .tickwait .a 0], ∀ pos ∈ [1, 63, 64], let f : FC := ⟨0, 0, e0⟩
          let s := (issue (i f) (mol 10 [])).updCl .a 0 fun k => { k with pos := pos }
          let k := s.cluster .a 0
          MolReady .a 0 1 (i f) s ∧ k.tugs = [] ∧ 1 ≤ k.pos ∧ k.pos ≤ 64 ∧ k.full.length = 0)
      ∧ (let f : FC := ⟨255, 0, e0⟩
         let s := issue (.bar .a 0 f) ((mol 10 []).updCl .a 7 fun k => { k with run := .running })
         f.rsv = 0 ∧ MolReady .a 0 1 (.bar .a 0 f) s ∧ ∃ b : Cluster, b ≠ 0 ∧ (s.cluster .a b).run = .running
           ∧ (Sparse.get (Sparse.all 0) (s.eng .a).bar f.imm8.toNat).getLsbD b.val = false) := by decide +kernel

/-- A reserved field set, and the word 0. -/
theorem meets_IllegalRaisesException :
    let f : FS := { fs0 with rsv := 1 }
    let ok (s : State) : Prop := OutputsFollow s ∧ s.dplx.hot = none ∧ (s.cluster .a 0).tugs = []
      ∧ 1 ≤ (s.cluster .a 0).pos ∧ (s.cluster .a 0).pos < 64 ∧ (s.cluster .a 0).full = [] ∧ (s.cluster .a 0).tile < 512
      ∧ (s.cluster .a 0).pc < 32768 ∧ s.raised = []
    let s := issue (.sadd .a 0 f) (mol 10 [])
    ok s ∧ MolReady .a 0 1 (.sadd .a 0 f) s ∧ f.rsv ≠ 0
      ∧ ok (mol 10 []) ∧ spellsInstr (mol 10 []) .a 0 = false ∧ ((mol 10 []).cluster .a 0).run = .running
      ∧ ((mol 10 []).cluster .a 0).pc < ((mol 10 []).eng .a).codeWords := by decide +kernel

theorem meets_OverrunAndHardwareException :
    (let s := (mol 10 []).updCl .a 0 fun k => { k with count := tileLimit (mol 10 []) .a, pos := 63, tile := 511 }
     s.dplx.hot = none ∧ (s.cluster .a 0).run = .running ∧ tileLimit s .a ≤ (s.cluster .a 0).count
       ∧ (s.cluster .a 0).tugs = [] ∧ 1 ≤ (s.cluster .a 0).pos ∧ (s.cluster .a 0).pos < 64 ∧ (s.cluster .a 0).full = []
       ∧ (s.cluster .a 0).tile < 512 ∧ OutputsFollow s)
      ∧ (let s := ((device .dark).updEng .b fun g => { g with role := .offline }).setBit F.DPLX_CTRL_AUTO_RECOV false
         OutputsFollow s ∧ (s.eng .b).powered = true ∧ (s.eng .b).role = .offline ∧ s.dplx.hot = none ∧ s.dplx.rsUnit = none
           ∧ s.bit F.DPLX_CTRL_AUTO_RECOV = false) := by decide +kernel
/-! ### Witnesses: host commands -/

theorem meets_RegisterReads :
    HostReady hd (device .dark) ∧ (device .dark).mode ≠ .boot ∧ canRead (device .dark) 0x40000
      ∧ (∀ i < 64, canRead (device .dark) (0x30100 + 4 * i)) ∧ 0x30100 + 4 * 64 ≤ 2 ^ 32
      ∧ placeOf 0x80010 = .reg ∧ accessOff (device .dark) 0x80010 = false ∧ (device .dark).long = none := by
  decide +kernel

/-- Every clause of RegisterWrites: no mask bit; another context's register; misaligned; unassigned; no power; mode;
value; and a write that passes. -/
theorem meets_RegisterWrites :
    let s := device .dark
    let b := device .beam
    (HostReady hd s ∧ s.mode ≠ .boot ∧ OutputsFollow s ∧ HostReady hd b ∧ b.mode ≠ .boot)
      ∧ (∀ a ∈ [0x90140, 0x140002, 0x100, 0x90000, 0x140004, 0x80004, 0x100000],
          a < 0x150000 ∧ canon a = a ∧ placeOf a = .reg ∧ maskOk s 0 a = true)
      ∧ (let t := s.setReg 0x40044 0; HostReady hd t ∧ maskOk t 0 0x140004 = false)
      ∧ ownerOk 0 0x90140 = false
      ∧ (ownerOk 0 0x140002 = true ∧ 0x140002 % 4 ≠ 0) ∧ (ownerOk 0 0x100 = true ∧ assigned 0x100 = false)
      ∧ (let t := { s with engA := { s.engA with powered := false } }
         HostReady hd t ∧ maskOk t 0 0x90000 = true ∧ ownerOk 0 0x90000 = true ∧ assigned 0x90000 = true
           ∧ accessOff t 0x90000 = true)
      ∧ (maskOk b 0 0x140004 = true ∧ ownerOk 0 0x140004 = true ∧ assigned 0x140004 = true
          ∧ accessOff b 0x140004 = false ∧ modeRefuses b 0 0x140004 (b.reg 0x140004 ^^^ 1) = true)
      ∧ (ownerOk 0 0x80004 = true ∧ assigned 0x80004 = true ∧ accessOff s 0x80004 = false
          ∧ modeRefuses s 0 0x80004 999 = false ∧ valueOk s 0x80004 999 = false
          ∧ modeRefuses s 0 0x80004 4001 = false ∧ valueOk s 0x80004 4001 = false)
      ∧ ((regRow 0x100000).any (fun r => r.rws == 0 && r.w1c == 0) = true ∧ rwsMask 0x100000 = 0)
      ∧ (ownerOk 0 0x100000 = true ∧ assigned 0x100000 = true ∧ accessOff s 0x100000 = false
          ∧ valueOk s 0x100000 0x0096646E = true
          ∧ modeRefuses s 0 0x100000 0x0096646E = false ∧ counterFields 0x100000 = [] ∧ actsOnWrite 0x100000 = false) := by
  refine ⟨?_, ?_, ?_, ?_, ?_, ?_, ?_, ?_, ?_, ?_, ?_⟩ <;> decide +kernel

theorem meets_EventCommandsAndPing :
    HostReady hd (device .dark) ∧ (device .dark).mode ≠ .boot ∧ (List.replicate 8 (0xFF : Byte)).length = 8
      ∧ (List.replicate 64 (0 : Byte)).length ≤ 64 := by decide +kernel

/-- C0 with the event masked out, with it let through, and with one place left in the queue of its interface. -/
theorem meets_EventRaise :
    let s := device .dark
    let t := { s with ctx := s.ctx.set 0 { mask := BitVec.allOnes 64 } }
    let e : EvtPkt := ⟨0, false, 0, 0, 0, 0⟩
    let u := { t with outq := t.outq.set 0 ⟨List.replicate 31 e, []⟩ }
    s.bound 0 = true ∧ s.ifaceOf 0 = some .portA ∧ (s.ctx[(0 : Ctx)]).mask.getLsbD 0 = false
      ∧ (t.ctx[(0 : Ctx)]).mask.getLsbD 0 = true ∧ (t.ctx[(0 : Ctx)]).mask.getLsbD 63 = true
      ∧ (u.outq[ifaceIx .portA]).events.length < 32 ∧ u.bound 0 = true := by decide +kernel

/-- The device with quotas for C0 and berths as listed. -/
def withBerths (m : Mode) (l : List (BerthNo × Berth)) : State :=
  let s := ((device m).setFld (F.BRTH_QUOTA_GRAN_QUOTA 0) 5632).setFld (F.BRTH_BCNT_BERTH_QUOTA 0) 64
  l.foldl (fun s x => s.updBerth x.1 fun _ => x.2) s

/-- Base 0 is taken and one granule of the pool is left at its end. -/
def nearlyFull : State := withBerths .dark [(0, { st := .ready, base := 0, size := 5631 })]

theorem meets_BerthAllocation_fits :
    HostReady hd nearlyFull ∧ nearlyFull.mode ≠ .boot ∧ (nearlyFull.berth 1).st = .free
      ∧ (∀ m < (1 : BerthNo), (nearlyFull.berth m).st ≠ .free)
      ∧ granUsed nearlyFull 0 + 1 ≤ nearlyFull.fld (F.BRTH_QUOTA_GRAN_QUOTA 0)
      ∧ berthsUsed nearlyFull 0 + 1 ≤ nearlyFull.fld (F.BRTH_BCNT_BERTH_QUOTA 0)
      ∧ (5631 + 1 ≤ 5632 ∧ ∀ m : BerthNo, (nearlyFull.berth m).st ≠ .free →
          5631 + 1 ≤ (nearlyFull.berth m).base ∨ (nearlyFull.berth m).base + (nearlyFull.berth m).size ≤ 5631) := by
  decide +kernel

/-- No base below 5,631 is clear in that state, and none at all for two granules. -/
theorem meets_BerthAllocation_lowest : (∀ b < 5631, ¬ clearAt nearlyFull b 1) ∧ ∀ b, ¬ clearAt nearlyFull b 2 := by
  have h : (nearlyFull.berth 0).st ≠ .free ∧ (nearlyFull.berth 0).base = 0 ∧ (nearlyFull.berth 0).size = 5631 := by
    decide +kernel
  constructor
  · intro b hb hc
    have := hc.2 0 h.1
    omega
  · intro b hc
    have := hc.2 0 h.1
    have := hc.1
    omega

/-- Sizes 0 and 5,633 fail; no berth free; no quota left. -/
theorem meets_BerthAllocation_fails :
    HostReady hd (device .dark) ∧ (0 = 0 ∨ 5632 < 5633) ∧ 5633 < 8192
      ∧ (let s := withBerths .dark ((List.finRange 64).map fun n => (n, { st := .ready, base := n.val, size := 1 }))
         HostReady hd s ∧ ∀ n, (s.berth n).st ≠ .free)
      ∧ (let s := (withBerths .dark []).setFld (F.BRTH_QUOTA_GRAN_QUOTA 0) 5631
         HostReady hd s ∧ (s.berth 0).st = .free
           ∧ ¬ (granUsed s 0 + 5632 ≤ s.fld (F.BRTH_QUOTA_GRAN_QUOTA 0)
             ∧ berthsUsed s 0 + 1 ≤ s.fld (F.BRTH_BCNT_BERTH_QUOTA 0))) := by decide +kernel

theorem meets_BerthReadyAndFree :
    let s := withBerths .dark [(0, { st := .filling, base := 0, size := 1 }), (1, { st := .ready, base := 1, size := 1 })
      , (2, { st := .inFlight, base := 2, size := 1 }), (3, { st := .retiring, base := 3, size := 1 })
      , (63, { st := .ready, owner := 1, base := 4, size := 1, fence := true })]
    HostReady hd s ∧ HostReady hm s ∧ s.mode ≠ .boot ∧ hd.m = false ∧ OutputsFollow s
      ∧ ((s.berth 63).st ≠ .free ∧ (s.berth 63).owner ≠ hd.ctx ∧ (s.berth 63).zfill = false)
      ∧ ((s.berth 4).st = .free ∧ (s.berth 4).zfill = false)
      ∧ (∀ n ∈ [(0 : BerthNo), 1, 2, 3], (s.berth n).owner = hd.ctx ∧ (s.berth n).zfill = false)
      ∧ (s.berth 0).st = .filling ∧ (s.berth 1).st = .ready ∧ (s.berth 2).st = .inFlight ∧ (s.berth 3).st = .retiring := by
  decide +kernel

/-- Writes of the last word of berths in each state. -/
theorem meets_BerthWrites :
    let s := withBerths .dark [(0, { st := .filling, base := 0, size := 1 }), (1, { st := .ready, base := 1, size := 1 })
      , (2, { st := .inFlight, base := 2, size := 1 }), (3, { st := .retiring, base := 3, size := 1 })
      , (4, { st := .filling, base := 4, size := 1, zfill := true })]
    let bs : List Byte := [1, 2, 3, 4]
    HostReady hd s ∧ s.mode ≠ .boot ∧ hd.m = false ∧ 4092 % 4 = 0 ∧ bs.length % 4 = 0 ∧ s.br.poison = []
      ∧ (∀ n ∈ [(0 : BerthNo), 1, 2, 3, 4], 4092 + bs.length ≤ (s.berth n).size * 4096 ∧ (s.berth n).owner = hd.ctx)
      ∧ ((s.berth 0).zfill = false ∧ (s.berth 0).st = .filling)
      ∧ ((s.berth 1).zfill = false ∧ (s.berth 1).st = .ready ∧ pendingNames s 1 = false)
      ∧ ((s.berth 2).zfill = false ∧ (s.berth 2).st = .inFlight) ∧ ((s.berth 3).zfill = false ∧ (s.berth 3).st = .retiring)
      ∧ (s.berth 4).zfill = true ∧ s.job = none := by decide +kernel

theorem meets_BerthMemoryByItself :
    let s := withBerths .dark [(0, { st := .filling, base := 5631, size := 1, zfill := true })]
    s.mode.dieOn = true ∧ s.pwr.inReset = false ∧ (s.berth 0).zfill = true ∧ (s.berth 0).held = []
      ∧ 0x17FFFF8 < 0x1800000 ∧ s.br.poison = [] ∧ s.job = none ∧ OutputsFollow s := by decide +kernel

/-- The payload of LAYER_SET for layer `l` and berth 5: 2,048 by 300 samples of I8, DST at its least and greatest. -/
def layerBytes (flags l : Nat) : List Byte :=
  [BitVec.ofNat 8 (flags + l), 0, 5, 0] ++ toLe 2 2048 ++ toLe 2 300 ++ toLe 2 2048 ++ [0, 0, 0, 0, 0, 0]
    ++ toLe 2 (65536 - 2048) ++ toLe 2 2047 ++ toLe 2 512 ++ toLe 2 75 ++ List.replicate 8 0

/-- C0 owns layer 15 and C3 layer 2; a berth of 150 granules is READY. -/
def layered : State :=
  let s := withBerths .dark [(5, { st := .ready, base := 0, size := 150 })]
  { s with br := { s.br with owner := (s.br.owner.set 15 (some 0)).set 2 (some 3) } }

/-- LAYER_SET of a free, an own and another context's layer; 64 objects; a fade of every zone; extreme angles. -/
theorem meets_ShadowCommands :
    HostReady hd layered ∧ layered.mode ≠ .boot ∧ hd.m = false ∧ hasPerm layered 0 5 = true ∧ hasPerm layered 0 6 = true
      ∧ ((layered.br.owner)[(layerPar (layerBytes 16 2)).layer] = some 3 ∧ (3 : Ctx) ≠ hd.ctx)
      ∧ (HostReady hd (layered.setReg 0x40040 0) ∧ hasPerm (layered.setReg 0x40040 0) 0 5 = false)
      ∧ (List.replicate 16 (0 : Byte)).length = 16 ∧ (0 < 65535 ∧ 65535 < 65536)
      ∧ (-600 ≤ (BitVec.ofInt 16 (-600)).toInt ∧ (BitVec.ofInt 16 1800).toInt ≤ 1800) := by decide +kernel

theorem meets_ShadowCommands_layerSet : ∀ p ∈ [layerBytes 16 0, layerBytes 16 15, layerBytes 0 15, layerBytes 32 15],
    layerOk (layerPar p) p = true ∧ pinAllows layered (layerPar p).layer hd.ctx = true
      ∧ ((layered.br.owner)[(layerPar p).layer] = none ∨ (layered.br.owner)[(layerPar p).layer] = some hd.ctx)
      ∧ ((layerPar p).enable = true → (layerPar p).release = false →
          othersBerth layered hd.ctx (layerPar p).berth = false
            ∧ fitsBerth (layerPar p) ((layered.berth (layerPar p).berth).size * 4096) = true) := by decide +kernel

/-- A COMMIT with the sequencer stopped; running, untargeted, 2 and 1,024 frames ahead, 1 ahead, 1,025 ahead. -/
theorem meets_CommitNamesFrame :
    let s := device .beam
    let r := { s with seq := { s.seq with running := true } }
    HostReady hd s ∧ s.mode ≠ .boot ∧ hd.m = false ∧ s.seq.running = false ∧ HostReady hd r ∧ r.seq.running = true
      ∧ r.reg 0x80014 = 0 ∧ (2 ≤ ((2 : Word) - 0).toInt ∧ ((1024 : Word) - 0).toInt ≤ 1024)
      ∧ ((1 : Word) - 0).toInt < 2 ∧ 1024 < ((1025 : Word) - 0).toInt := by decide +kernel
theorem meets_ModeRequests :
    let s := device .dark
    HostReady hm s ∧ s.mode ≠ .boot ∧ hm.m = true ∧ s.long = none
      ∧ (HostReady hm (s.setReg 0x40040 0) ∧ hasPerm (s.setReg 0x40040 0) 0 0 = false)
      ∧ hasPerm s 0 0 = true ∧ (.dark : Mode) = s.mode
      ∧ ((.dark : Mode) ≠ (device .hold).mode ∧ HostReady hm (device .calibrate) ∧ hasPerm (device .calibrate) 0 0 = true
          ∧ (.beam : Mode) ≠ (device .calibrate).mode ∧ acceptsTarget (device .calibrate).mode .beam = false)
      ∧ (let t := s.setBit F.THRM_STAT_THERM_STOP true
         HostReady hm t ∧ hasPerm t 0 0 = true ∧ acceptsTarget t.mode .beam = true ∧ t.bit F.THRM_STAT_THERM_STOP = true)
      ∧ (acceptsTarget s.mode .service = true ∧ s.bit F.THRM_STAT_THERM_STOP = false)
      ∧ (acceptsTarget (device .beam).mode .dark = true ∧ HostReady hm (device .beam)) := by decide +kernel

theorem meets_SafeDarkRequest :
    let s := device .dark
    HostReady hm s ∧ OutputsFollow s ∧ s.mode = .dark ∧ hm.m = true ∧ s.long = none ∧ hasPerm s 0 0 = true ∧ s.pwr.req = none
      ∧ s.dplx.hot = none ∧ s.dplx.rsUnit = none ∧ s.bit F.CAL_STAT_RUNNING = false ∧ s.pwr.brownOut = false
      ∧ s.raised = [] := by decide +kernel

theorem meets_SleepRequest :
    let s := (device .dark).setFld F.AON_PADCFG_LATCH 31
    HostReady hm s ∧ s.mode = .dark ∧ hm.m = true ∧ s.long = none ∧ hasPerm s 0 0 = true ∧ s.pwr.brownOut = false
      ∧ s.raised = [] := by decide +kernel

/-- A device whose zone 15 is locked out, with LOCK_SEQ 65,535. -/
def locked : State :=
  settle (((device .dark).setFld F.SAFE_ZONES_ZLOCK 0x8000).setFld F.SAFE_LOCK_LOCK_SEQ 65535)

theorem meets_UnlockClearsLocks :
    let s := locked
    let w := locked.setBit F.SAFE_LOCK_UNL_WIN true
    let p := settle (w.setFld F.SAFE_STRAP_LAST 1)
    (HostReady hm s ∧ s.mode ≠ .boot ∧ s.long = none ∧ hasPerm s 0 4 = true ∧ anyLock s = true
        ∧ s.fld F.SAFE_CORE_STATE ≠ 1 ∧ s.bit F.SAFE_LOCK_UNL_WIN = false)
      ∧ (HostReady hm w ∧ anyLock w = true ∧ w.bit F.SAFE_LOCK_UNL_WIN = true ∧ 0 ≠ w.fld F.SAFE_LOCK_LOCK_SEQ
          ∧ 65535 = w.fld F.SAFE_LOCK_LOCK_SEQ ∧ causePresent w = false ∧ OutputsFollow w)
      ∧ (HostReady hm p ∧ anyLock p = true ∧ p.bit F.SAFE_LOCK_UNL_WIN = true ∧ 65535 = p.fld F.SAFE_LOCK_LOCK_SEQ
          ∧ causePresent p = true) := by
  decide +kernel

/-- Legacy mode at the two ends of the answer window, with a right and a wrong answer. -/
theorem meets_SafetyStatus :
    let s := settle (((device .dark).setBit F.SAFE_STAT_ARCH_LEGACY true).setFld F.SAFE_LEGACY_Q 0x1234)
    let a := (crc16 (toLe 2 0x1234 ++ [s.safe.sealByte])).toNat
    let at_ (n : Nat) : State := { s with now := n }
    (HostReady hd s ∧ OutputsFollow s ∧ hasPerm s 0 4 = true ∧ s.bit F.SAFE_STAT_ARCH_LEGACY = true
        ∧ s.fld F.SAFE_LEGACY_Q ≠ 0 ∧ s.fld F.SAFE_LEGACY_QA_CONSEC < 2)
      ∧ (0x1234 = s.fld F.SAFE_LEGACY_Q ∧ a < 65536 ∧ 1000000 ≤ (at_ 1000000).now - s.safe.qAt
          ∧ (at_ 10000000).now - s.safe.qAt ≤ 10000000)
      ∧ ¬ 1000000 ≤ (at_ 999999).now - s.safe.qAt := by decide +kernel

/-- A Molia image of 96 bytes with four instruction words, without a signature, as R202 lays it out. -/
def image : List Byte :=
  [77, 79, 76, 73, 1, 0, 1, 0, 64, 0, 1, 0, 96, 0, 0, 0, 0, 0, 0, 0, 2, 0, 0, 0, 4, 0, 0, 0, 0, 0, 0, 0, 0, 0, 0, 0, 0, 0,
    0, 0, 129, 192, 63, 142, 0, 0, 0, 0, 0, 0, 0, 0, 0, 0, 0, 0, 0, 0, 0, 0, 0, 0, 0, 0] ++
  [1, 0, 0, 0, 80, 0, 0, 0, 16, 0, 0, 0, 0, 0, 0, 0, 1, 0, 0, 4, 0x40, 0, 0xE8, 0x11, 0, 0x80, 0, 0, 0, 0, 0, 4]

/-- Its commit record in slot A of MOL, for bank A (R410). -/
def record : List Byte :=
  [67, 77, 73, 84, 1, 0, 0, 0, 1, 0, 0, 0, 96, 0, 0, 0, 49, 95, 201, 12, 0, 0, 0, 0, 0, 0, 0, 0, 97, 118, 3, 53]

/-- Bytes at an address of the store, for those that are not erased. -/
def bytesAt (a : Nat) (bs : List Byte) : Sparse Byte := bs.zipIdx.map fun p => (a + p.2, p.1)

/-- The device with that image committed in MOL, and a cool store. -/
def imaged (m : Mode) : State :=
  let s := (device m).setFld F.THRM_TEMP_DIE 950
  { s with store := { s.store with mem := bytesAt 0x2000 record ++ bytesAt 0x300000 image } }

/-- State `s` with LONG command `code` of C0 whose work is `j`, its final record not yet due. -/
def busyWith (code : Nat) (j : LongJob) (s : State) : State := { s with long := working hm code 0 j }

/-- The command that `busyWith` leaves in the channel. -/
def busyCmd (code : Nat) (j : LongJob) : LongCmd := ⟨0, 1, code, 0, 0, none, some j⟩

/-- Accepted with a cool and a hot store; then the image under its own CRC, without one, and under another. -/
theorem meets_ProgramLoad :
    let s := imaged .dark
    let hot := s.setFld F.THRM_TEMP_DIE 951
    (HostReady hm s ∧ hm.m = true ∧ s.long = none ∧ hasPerm s 0 1 = true ∧ s.mode = .dark)
      ∧ (HostReady hm hot ∧ ¬ storeCool hot) ∧ storeCool s
      ∧ ∀ want ∈ [0, leAt image 0x28 4, 1],
        let j : LongJob := { kind := .progLoad, src := none, len := 0, want := want, data := image }
        Completes (busyWith 0x31 j s) (busyCmd 0x31 j) ∧ (busyWith 0x31 j s).raised = [] ∧ j.checked = false
          ∧ (j.want ≠ 0 → j.want ≠ 1 → j.want = leAt image 0x28 4) ∧ leAt image 0x28 4 ≠ 1 := by decide +kernel

theorem meets_ProgramLoad_bytes : molBytes (imaged .dark) = image := by decide +kernel

theorem meets_ProgramLoad_image : imageCheck (imaged .dark) image = 0 := by decide +kernel
/-- The image in a berth, BEAM, and the store cool. -/
def swappable : State :=
  let s := { imaged .beam with br := { (imaged .beam).br with mem := (bytesAt 0 image).filter (·.2 ≠ 0) } }
  s.updBerth 63 fun _ => { st := .ready, base := 0, size := 1 }

/-- Accepted, and its image read and written. -/
theorem meets_HotSwapStarts :
    let s := swappable
    (HostReady hm s ∧ hm.m = true ∧ s.long = none ∧ hasPerm s 0 1 = true ∧ s.mode = .beam ∧ storeCool s
      ∧ (s.eng .b).role = .standby ∧ (s.eng .a).role = .active ∧ (s.berth 63).st = .ready
      ∧ (s.berth 63).owner = hm.ctx ∧ (1 : Byte) ≠ 0)
      ∧ (let j : LongJob := { kind := .hotSwap, src := some 0, len := 4096, want := 0, bank := 1 }
         let s : State := { busyWith 0x32 j s with dplx := { s.dplx with hot := some ⟨.b, 1, 0, 0, 0, 0, 1, 0, false⟩ } }
         Completes s (busyCmd 0x32 j) ∧ s.active.isSome = true ∧ storeCool s ∧ s.br.poison = [] ∧ s.raised = []) := by
  decide +kernel

theorem meets_HotSwapStarts_image :
    imageCheck swappable ((List.range 4096).map fun i => memByte swappable i) = 0 := by decide +kernel

/-- The last sector of the HOST bank, and the first and last word of it; a full READY and a FILLING berth; a write and a
read under way. -/
theorem meets_StoreCommands :
    let s := (imaged .dark).updBerth 0 fun _ => { st := .ready, base := 0, size := 512 }
    let f := (imaged .dark).updBerth 0 fun _ => { st := .filling, base := 5631, size := 1 }
    (HostReady hm s ∧ hm.m = true ∧ s.long = none ∧ s.mode = .dark ∧ (s.berth 0).owner = hm.ctx ∧ s.br.poison = []
        ∧ storeCool s ∧ hasPerm s 0 2 = true ∧ (s.berth 0).st = .ready ∧ s.raised = [])
      ∧ (2097152 % 4 = 0 ∧ 2097152 ≤ (s.berth 0).size * 4096 ∧ 0x600000 % 4096 = 0 ∧ 0x600000 + 2097152 ≤ 0x800000)
      ∧ (HostReady hm f ∧ (f.berth 0).st = .filling ∧ (f.berth 0).zfill = false ∧ 4 ≤ (f.berth 0).size * 4096
          ∧ 0x7FFFFC % 4 = 0 ∧ 0x7FFFFC + 4 ≤ 0x800000)
      ∧ (let j : LongJob := { kind := .storeWrite, src := some 0, len := 2097152, part := 5, bank := 1, off := 0 }
         Completes (busyWith 0x33 j s) (busyCmd 0x33 j) ∧ storeCool (busyWith 0x33 j s)
           ∧ (busyWith 0x33 j s).br.poison = [] ∧ (busyWith 0x33 j s).raised = [])
      ∧ (let j : LongJob := { kind := .storeRead, src := none, len := 4, part := 5, checked := true, data := [1] }
         Completes (busyWith 0x34 j f) (busyCmd 0x34 j) ∧ (busyWith 0x34 j f).raised = []) := by decide +kernel

/-- A commit record of the HOST partition (R410), whose content is the erased bank's first 16 bytes. -/
def hostRecord : List Byte := 
  [67, 77, 73, 84, 5, 0, 0, 0, 1, 0, 0, 0, 16, 0, 0, 0, 26, 198, 179, 63, 0, 0, 0, 0, 0, 0, 0, 0, 70, 2, 77, 190]

theorem meets_StoreCommands_read :
    (latestRec { State.reset with store := { State.reset.store with mem := bytesAt 0xA000 hostRecord } } 5).isSome = true := by
  decide +kernel

theorem meets_CalZoneAndCompletion :
    (let s := device .service
     let s := { s with rail := { s.rail with z := s.rail.z.set 15 { reqA := true, reqB := true } } }
     HostReady hm s ∧ s.long = none ∧ s.mode = .service ∧ hasPerm s 0 3 = true ∧ isLocked s 15 = false
       ∧ isStranded s 15 = false ∧ zoneCut s 15 = false ∧ tilesIn s 15 (· ≥ 2) ≠ 32)
      ∧ (let l : LongCmd := ⟨0, 7, 0x31, 0, 0, some (8, []), none⟩
         Completes { device .dark with long := some l } l ∧ l.final = some (8, []) ∧ 8 ≤ 8) := by
  decide +kernel
/-! ### Witnesses: packets and interfaces -/

/-- Port A UP with full credits and CAN FD enabled; no harbourmaster, so nothing is dispatched. -/
def linked : State :=
  let s := ((device .dark).setFld (F.LINK_PSTAT_STATE 0) 2).setFld (F.LINK_PSTAT_STATE 1) 2
  { s with port := s.port.map (fun (p : PortState) => ({ p with limF := 1, limM := 1 } : PortState)), can := { s.can with ctrl := 0x1D } }

def waiting : State := { linked with dplx := { linked.dplx with hmA := .failed, hmB := .failed } }

/-- A packet of one payload word for a context, and one with a payload CRC that fails. -/
def pkt (c : Ctx) (m : Bool) : List Byte := packet 1 m c 0 [1, 2, 3, 4]

theorem meets_PacketsAreQueued :
    dispatchOpen waiting = false ∧ waiting.opens = [] ∧ 7 ≤ (pkt 0 true).length ∧ OutputsFollow waiting ∧ waiting.mode.dieOn = true
      ∧ (waiting.fld (F.LINK_PSTAT_STATE 0) = 2 ∧ goodPacket .portA (pkt 0 true) 0 true waiting
          ∧ room .portA (pkt 0 true) true waiting)
      ∧ (waiting.fld (F.LINK_PSTAT_STATE 1) = 2 ∧ goodPacket .portB (pkt 1 false) 1 false waiting
          ∧ room .portB (pkt 1 false) false waiting)
      ∧ (busServed waiting = true ∧ goodPacket .spi (pkt 2 false) 2 false waiting ∧ room .spi (pkt 2 false) false waiting)
      ∧ (canOn waiting = true ∧ goodPacket .can (pkt 3 true) 3 true waiting ∧ room .can (pkt 3 true) true waiting
          ∧ waiting.can.asm = none ∧ (pkt 3 true).length ≤ 63) := by decide +kernel

/-- A header CRC that fails, and a payload CRC that fails under a right header. -/
theorem meets_BadPacketsAreDiscarded :
    (linked.mode.dieOn = true ∧ linked.fld (F.LINK_PSTAT_STATE 0) = 2 ∧ OutputsFollow linked ∧ linked.raised = [])
      ∧ (let bs : List Byte := [0x10, 0, 4, 0, 0, 0, 0, 0, 1, 2, 3, 4, 0, 0, 0, 0]
         bs.length = leAt bs 2 2 + 12 ∧ leAt bs 6 2 ≠ (crc16 (bs.take 6)).toNat)
      ∧ (let bs := (pkt 0 false).take 12 ++ [0, 0, 0, 0]
         bs.length = leAt bs 2 2 + 12 ∧ leAt bs 6 2 = (crc16 (bs.take 6)).toNat ∧ byteAt bs 0 = 16 ∧ leAt bs 4 2 = 0
           ∧ leAt bs 2 2 % 4 = 0 ∧ 0 < leAt bs 2 2 ∧ linked.bound 0 = true
           ∧ leAt bs (8 + leAt bs 2 2) 4 ≠ (crc32c ((bs.drop 8).take (leAt bs 2 2))).toNat) := by decide +kernel

/-- A manifest of one PING of 64 bytes, and one without commands, of a context without ACK_ALL permission. -/
theorem meets_ManifestOfOneCommand :
    let s := linked.setReg 0x40040 0x7F
    let data : List Byte := List.replicate 64 0xA5
    let pl : List Byte := toLe 4 1 ++ [1, 0, 0, 0] ++ ([0x60, 0] ++ toLe 2 data.length ++ data)
    (data.length ≤ 64 ∧ data.length % 4 = 0)
      ∧ (dispatchOpen s = true ∧ s.fld (F.LINK_PSTAT_STATE 0) = 2 ∧ s.rxF[ifaceIx .portA] = [] ∧ s.rxM[ifaceIx .portA] = []
          ∧ unsent s 0 < 32 ∧ hasPerm s 0 7 = false ∧ s.opens = []
          ∧ (∀ q : Port, (s.port[q]).reconfig = false) ∧ s.pwr.swReset = false ∧ s.pwr.req = none ∧ OutputsFollow s)
      ∧ (goodPacket .portA (packet 1 false 0 0 pl) 0 false s ∧ room .portA (packet 1 false 0 0 pl) false s)
      ∧ (let bad : List Byte := toLe 4 1 ++ [0, 0, 0, 0]
         goodPacket .portA (packet 1 true 0 0 bad) 0 true s ∧ room .portA (packet 1 true 0 0 bad) true s) := by
  decide +kernel

/-- Nothing to send; a response alone; a response that was cut short, with an event behind it. -/
theorem meets_SpiTransactions :
    let r : RespPkt := ⟨2, [1, 2, 3, 4]⟩
    let e : EvtPkt := ⟨15, false, 2, 0, 0, 0⟩
    let s := { linked with outq := linked.outq.set 2 ⟨[], [r]⟩ }
    let x : State := { linked with outq := linked.outq.set 2 ⟨[e], [r]⟩, spi := { linked.spi with cutResp := true } }
    (busServed linked = true ∧ linked.outq[(2 : Fin 4)] = ⟨[], []⟩)
      ∧ (busServed s = true ∧ s.outq[(2 : Fin 4)] = ⟨[], r :: []⟩ ∧ s.rxF[(2 : Fin 4)] = []
          ∧ s.rxM[(2 : Fin 4)] = [] ∧ s.opens = [] ∧ (∀ q : Port, (s.port[q]).retrainAfter = none)
          ∧ (packet 2 false r.ctx s.spi.txSeq r.bytes).length = 16)
      ∧ (busServed x = true ∧ x.outq[(2 : Fin 4)] = ⟨[e], r :: []⟩ ∧ x.spi.cutResp = true) := by decide +kernel

theorem meets_CanController :
    let e : EvtPkt := ⟨15, false, 3, 0, 0, 0⟩
    let s := { linked with can := { linked.can with asm := some [1] }, outq := linked.outq.set 3 ⟨[e], []⟩ }
    let off := s.setFld F.CANF_ERRC_STATE 2
    (s.can.asm = some [1] ∧ OutputsFollow s ∧ linked.can.asm = none ∧ canOn s = true ∧ s.ifaceOf 3 = some .can)
      ∧ (let f : CanFrame := ⟨s.fld F.CANF_IDRX_ID % 2 ^ 29, true, true, false, false, [], []⟩
         f.remote = false ∧ f.ext = s.can.ctrl.getLsbD 2 ∧ f.id = s.fld F.CANF_IDRX_ID % (if f.ext then 2 ^ 29 else 2 ^ 11)
           ∧ f.brs = false)
      ∧ (s.outq[(3 : Fin 4)] = ⟨e :: [], []⟩ ∧ s.rxF[(3 : Fin 4)] = [] ∧ s.rxM[(3 : Fin 4)] = [] ∧ s.opens = [])
      ∧ (let r : RespPkt := ⟨3, [1, 2, 3, 4]⟩
         let x := { s with outq := linked.outq.set 3 ⟨[], [r]⟩ }
         x.outq[(3 : Fin 4)] = ⟨[], r :: []⟩ ∧ canOn x = true ∧ ∀ q : Port, (x.port[q]).retrainAfter = none)
      ∧ (busServed off = true ∧ off.can.ctrl.getLsbD 0 = true ∧ off.can.ctrl.getLsbD 3 = true ∧ off.fld F.CANF_ERRC_STATE = 2)
      ∧ (s.mode.dieOn = true ∧ s.fld F.CANF_ERRC_STATE ≠ 2) := by decide +kernel

/-- Port A in a state, with both lanes configured, LANE_FB and FIDLE_EN as given. -/
def port0 (st : Nat) (fidle : Bool) : State :=
  let s := ((device .dark).setFld (F.LINK_PSTAT_STATE 0) st).setBit (F.LINK_PCFG_LANES 0) true
  let s := (s.setBit (F.LINK_PCFG_EN 0) true).setBit (F.LINK_PCFG_LANE_FB 0) true
  (s.setBit (F.LINK_PCFG_FIDLE_EN 0) fidle).setBit (F.LINK_LANE_USED 0 0) true

theorem meets_PortTraining :
    let s := port0 1 false
    let good : LaneQuality := ⟨true, 255, 0, 0⟩
    let l := s.setBit (F.LINK_LANE_LOCK 0 0) true
    (s.mode.dieOn = true ∧ s.rxF[ifaceIx .portA] = [] ∧ s.rxM[ifaceIx .portA] = [] ∧ OutputsFollow s
        ∧ (s.port[(0 : Port)]).retrainReq = false)
      ∧ (s.fld (F.LINK_PSTAT_STATE 0) = 1 ∧ good.lock = true)
      ∧ s.bit (F.LINK_LANE_LOCK 0 0) = false
      ∧ (l.fld (F.LINK_PSTAT_STATE 0) = 1 ∧ l.bit (F.LINK_PCFG_LANES 0) = true ∧ OutputsFollow l
          ∧ l.bit (F.LINK_LANE_LOCK 0 1) = false ∧ l.bit (F.LINK_LANE_LOCK 0 0) = true ∧ l.bit (F.LINK_PCFG_LANE_FB 0) = true)
      ∧ (port0 4 false).fld (F.LINK_PSTAT_STATE 0) = 4
      ∧ (s.bit (F.LINK_PCFG_EN 0) = true ∧ s.fld (F.LINK_PSTAT_STATE 0) ≠ 3) := by decide +kernel

theorem meets_PortLockAndIdle :
    let s := port0 2 false
    let f := port0 2 true
    (s.mode.dieOn = true ∧ OutputsFollow s ∧ s.fld (F.LINK_PSTAT_STATE 0) = 2 ∧ s.bit (F.LINK_LANE_USED 0 0) = true
        ∧ s.bit (F.LINK_PCFG_FIDLE_EN 0) = false)
      ∧ (port0 1 false).fld (F.LINK_PSTAT_STATE 0) = 1
      ∧ (OutputsFollow f ∧ f.fld (F.LINK_PSTAT_STATE 0) = 2 ∧ f.bit (F.LINK_PCFG_FIDLE_EN 0) = true
          ∧ f.bit (F.LINK_LANE_USED 0 0) = true)
      ∧ (OutputsFollow (port0 3 true) ∧ (port0 3 true).fld (F.LINK_PSTAT_STATE 0) = 3
          ∧ (port0 3 true).bit (F.LINK_LANE_USED 0 0) = true)
      ∧ (let r := s.setFld (F.LINK_PCFG_RIDLE 0) 1
         r.fld (F.LINK_PCFG_RIDLE 0) ≠ 0 ∧ (r.port[(0 : Port)]).adapt = false ∧ (r.port[(0 : Port)]).status = false
           ∧ r.outq[ifaceIx .portA] = ⟨[], []⟩ ∧ r.bit (F.LINK_PSTAT_RET_IDLE 0) = false) := by decide +kernel

/-- A second low reading of an armed, used lane, at FOM 0 and at FOM 255. -/
theorem meets_FigureOfMerit :
    let s := (port0 2 false).setBit (F.LINK_LANE_LOCK 0 0) true
    let s := { s with port := s.port.map (fun (p : PortState) => ({ p with lowCnt := .replicate 2 1 } : PortState)) }
    s.mode.dieOn = true ∧ s.fld (F.LINK_PSTAT_STATE 0) = 2 ∧ s.bit (F.LINK_LANE_LOCK 0 0) = true ∧ OutputsFollow s
      ∧ min 255 (min (512 * 0 / 1000000) (0 / 2000)) < s.fld (F.LINK_PCFG_FOMTHR 0)
      ∧ ¬ min 255 (min (512 * 500000 / 1000000) (600000 / 2000)) < s.fld (F.LINK_PCFG_FOMTHR 0)
      ∧ 1 ≤ (s.port[(0 : Port)]).lowCnt[(0 : Fin 2)] ∧ (s.port[(0 : Port)]).fomArmed[(0 : Fin 2)] = true
      ∧ s.bit (F.LINK_LANE_USED 0 0) = true := by decide +kernel

theorem meets_ReturnTraffic :
    let s := port0 2 false
    let e : EvtPkt := ⟨12, false, 0, 0, 0, 0⟩
    let q := { s with outq := s.outq.set 0 ⟨[e], []⟩ }
    let a := { s with port := s.port.map (fun (p : PortState) => ({ p with adapt := true, status := true } : PortState)) }
    let st := { s with port := s.port.map (fun (p : PortState) => ({ p with status := true } : PortState)) }
    (s.mode.dieOn = true ∧ s.fld (F.LINK_PSTAT_STATE 0) = 2) ∧ (a.port[(0 : Port)]).adapt = true
      ∧ ((st.port[(0 : Port)]).adapt = false ∧ (st.port[(0 : Port)]).status = true)
      ∧ ((q.port[(0 : Port)]).adapt = false ∧ (q.port[(0 : Port)]).status = false ∧ q.outq[ifaceIx .portA] = ⟨[e], []⟩
          ∧ q.rxF[ifaceIx .portA] = [] ∧ q.rxM[ifaceIx .portA] = [] ∧ q.opens = [] ∧ OutputsFollow q)
      ∧ (let r : RespPkt := ⟨0, [1, 2, 3, 4]⟩
         let x := { s with outq := s.outq.set 0 ⟨[], [r]⟩ }
         x.outq[ifaceIx .portA] = ⟨[], r :: []⟩ ∧ OutputsFollow x ∧ ∀ q : Port, (x.port[q]).retrainAfter = none) := by decide +kernel
/-! ### Witnesses: register rows, supplies, BOOT and clocks -/

theorem meets_RegisterCommands :
    let s := device .dark
    let b := device .beam
    let f := settle { s with engA := { s.engA with role := .failed } }
    let x := settle ((s.setFld (F.RAIL_ZSTAT_STATE 0) 2).setFld F.STK_XOVER_CROSSED 1)
    let swap : Word := b.reg 0x120000 ||| 0x80000000
    let recov : Word := f.reg 0x120000 ||| 0x20000000
    (writeReady 0 8 0xC301 s ∧ (0xC301 : Word).getLsbD 0 = true ∧ s.job = none ∧ s.bit F.CAL_STAT_RUNNING = false)
      ∧ (writeReady 0 0x120000 swap b ∧ swap.getLsbD 31 = true ∧ swap.getLsbD 30 = false ∧ swap.getLsbD 29 = false)
      ∧ (writeReady 0 0x120000 recov f ∧ recov.getLsbD 31 = false ∧ recov.getLsbD 30 = false ∧ recov.getLsbD 29 = true)
      ∧ writeReady 0 0x2010C 0xFFFFFFFF s
      ∧ (writeReady 0 0x50124 0x100 s ∧ (0x100 : Word).getLsbD 8 = true)
      ∧ (writeReady 0 0x50100 0x05 s ∧ (0x05 : Word).getLsbD 0 = true
          ∧ ((0x05 : Word) ^^^ s.reg 0x50100) &&& 0x00FF00FF ≠ 0)
      ∧ (writeReady 0 0xD0010 0x100 x ∧ isCrossed x 0 = true ∧ (0x100 : Word).getLsbD (8 + (0 : Zone).val / 2) = true
          ∧ isCrossed x (partner 0) = false ∧ (x.rail.z[(0 : Zone)]).seq = .none) := by decide +kernel

theorem meets_CountersClear :
    let s := device .dark
    (0x80000000 : Word).getLsbD 31 = true ∧ writeReady 0 0x140008 0x80000000 s ∧ writeReady 0 0x70000 0x80000001 s
      ∧ (0x80000001 : Word).getLsbD 31 = true ∧ writeReady 0 0x30004 0x80000000 s
      ∧ writeReady 0 0xC0000 (s.reg 0xC0000 ||| 0x80000000) s ∧ (s.reg 0xC0000 ||| 0x80000000).getLsbD 31 = true := by
  decide +kernel

/-- The last register of the port, an offset past it, another address, and a wake in SLEEP. -/
theorem meets_MooringPort :
    let s := device .dark
    let z := State.reset.setBit F.AON_WAKECFG_MP_WAKE true
    (s.mode ≠ .off ∧ s.pwr.brownOut = false ∧ (0x38 : Byte).toNat = 0x38 + s.pwr.mpAddr.toNat
        ∧ ¬ (s.mode = .sleep ∧ s.bit F.AON_WAKECFG_MP_WAKE = true))
      ∧ ((20 : Byte).toNat % 4 = 0 ∧ (20 : Byte).toNat < 24) ∧ ¬ (24 : Byte).toNat < 24 ∧ ¬ (18 : Byte).toNat % 4 = 0
      ∧ (0x39 : Byte).toNat ≠ 0x38 + s.pwr.mpAddr.toNat ∧ ¬ crc8 ([0x70, 20] ++ toLe 4 7) = crc8 ([0x70, 20] ++ toLe 4 7) + 1
      ∧ (z.mode ≠ .off ∧ z.pwr.brownOut = false ∧ z.mode = .sleep ∧ z.bit F.AON_WAKECFG_MP_WAKE = true
          ∧ (0x38 : Byte).toNat = 0x38 + z.pwr.mpAddr.toNat) := by decide +kernel

/-- An erased SAFECFG bank does not pass; the first and the last word of a bank; the store cool and hot. -/
theorem meets_JtagRecovery :
    let s := device .safeDark
    let l := { s with store := { s.store with jtagWord := 0x3FFF } }
    s.mode.dieOn = true ∧ s.pwr.inReset = false ∧ s.store.jtagWord = 0 ∧ cfgCheck (storeBytes s (bankBase 3 0) 0) ≠ 0
      ∧ inactiveBank s 3 = 0 ∧ min (4 * s.store.jtagWord) 0x10000 = 0
      ∧ (l.mode.dieOn = true ∧ 0 < l.store.jtagWord ∧ l.store.jtagWord < 0x4000)
      ∧ storeCool s ∧ ¬ storeCool (s.setFld F.THRM_TEMP_DIE 951) := by decide +kernel

theorem meets_SuppliesAndResets :
    let s := device .dark
    let off : State := { State.reset with pwr := { State.reset.pwr with mode := .off } }
    let b := { s with pwr := { s.pwr with brownOut := true } }
    s.raised = [] ∧ s.job = none ∧ s.bit F.CAL_STAT_RUNNING = false ∧ s.mode ≠ .off ∧ off.mode = .off ∧ off.raised = [] ∧ (10 ≤ 10 ∧ 10 < 11)
      ∧ (s.pwr.brownOut = false ∧ State.reset.mode = .sleep ∧ State.reset.pwr.brownOut = false ∧ s.mode.dieOn = true)
      ∧ (b.pwr.brownOut = true ∧ b.mode ≠ .off ∧ b.raised = []) ∧ s.mode ≠ .sleep
      ∧ (99 < 100 ∧ 100 ≤ 100 ∧ 999 < 1000 ∧ 1000 ≤ 1000) := by decide +kernel

theorem meets_WakeSequence :
    let z := State.reset.setBit F.AON_WAKECFG_WAKEN_EN true
    let w := device .wake
    let w := { w with pwr := { w.pwr with railsUp := 8 } }
    let x := w.setBit F.CLK_STAT_XTAL_OK true
    let h := (device .dark).setFld F.AON_PADCFG_HELD 1
    (z.mode = .sleep ∧ z.bit F.AON_WAKECFG_WAKEN_EN = true ∧ z.raised = [] ∧ z.job = none)
      ∧ ¬ (State.reset.mode = .sleep ∧ (State.reset.setBit F.AON_WAKECFG_WAKEN_EN false).bit F.AON_WAKECFG_WAKEN_EN = true)
      ∧ (2999 < 3000 ∧ 3000 ≤ 3000 ∧ 9999 < 10000 ∧ 10000 ≤ 10000)
      ∧ (w.mode = .wake ∧ w.pwr.railsUp = 8 ∧ w.pwr.inReset = false ∧ w.bit F.CLK_STAT_XTAL_OK = false
          ∧ w.pwr.brownOut = false ∧ w.raised = [])
      ∧ (x.mode = .wake ∧ x.pwr.railsUp = 8 ∧ x.bit F.CLK_STAT_XTAL_OK = true ∧ (126 : BitVec 7) ≠ 127)
      ∧ ¬ (device .dark).mode = .wake
      ∧ (h.mode.dieOn = true ∧ h.fld F.AON_PADCFG_HELD ≠ 0) ∧ (device .dark).fld F.AON_PADCFG_HELD = 0 := by decide +kernel

/-- BOOT without a harbourmaster or berth memory, and with a store that holds no firmware. -/
theorem meets_BootRuns :
    let s := device .boot
    let s := { s with pwr := { s.pwr with bootDue := true } }
    (s.mode = .boot ∧ s.pwr.inReset = false ∧ s.pwr.bootDue = true ∧ s.raised = []) ∧ latestRec s 0 = none
      ∧ (s.cal.zone = none ∧ ∀ i : Fin 4, s.rxF[i] = [] ∧ s.rxM[i] = []) := by decide +kernel

/-- Without a record of the firmware partition no firmware passes. -/
theorem meets_BootRuns_noFirmware : ¬ ∃ bs, validContent State.reset 0 = some bs ∧ fwPasses bs = true := by
  have h : validContent State.reset 0 = none := by decide +kernel
  simp [h]

/-- A locked SYSPLL-A beside a locked SYSPLL-B, a locked and an unlocked loop of each kind. -/
theorem meets_PllFaults :
    let s := ((device .dark).setReg 0x10000 0x7F).setFld (F.LINK_PSTAT_STATE 0) 2
    let u := (device .dark).setReg 0x10000 0x7E
    (s.mode.dieOn = true ∧ s.pwr.inReset = false ∧ s.raised = []) ∧ (∀ i < 7, pllLocked s i = true)
      ∧ s.fld (F.LINK_PSTAT_STATE 0) = 2 ∧ pllLocked u 0 = false := by decide +kernel

theorem meets_XtalAndClockSwitch :
    let s := (device .dark).setReg 0x10000 0x7F
    let x := s.setBit F.CLK_STAT_XTAL_STOP true
    let r := { s with seq := { s.seq with running := true, due := 25600 } }
    let low := s.fld F.CLK_MON_XLOW
    (s.mode.dieOn = true ∧ s.pwr.inReset = false ∧ 0 < low ∧ s.clk.ampArmed = true ∧ low + 5 < 256)
      ∧ (s.bit F.CLK_STAT_XTAL_STOP = false ∧ x.bit F.CLK_STAT_XTAL_STOP = true ∧ ∃ i < 6, pllLocked s i = true)
      ∧ (r.seq.running = true ∧ r.seq.due ≤ (r.now + 100) * 256 ∧ s.seq.running = false) := by decide +kernel

/-! ### Witnesses: the safety core -/

/-- One sample before N_D, at N_D, and equal samples. -/
theorem meets_InhibitInputs :
    let s := device .dark
    let limit := 20 * (s.fld F.SAFE_INH_TD_CODE + 1)
    let t := s.setFld F.SAFE_INH_DISC_CNT (limit - 1)
    (s.mode.dieOn = true ∧ s.pwr.inReset = false ∧ s.raised = []) ∧ s.fld F.SAFE_INH_DISC_CNT + 1 < limit
      ∧ t.fld F.SAFE_INH_DISC_CNT + 1 = limit ∧ t.raised = [] := by decide +kernel

theorem meets_StrapsAndUnlockWindow :
    let s := (device .dark).setFld F.SAFE_STRAP_BOOT 0x1234
    let k := { s with safe := { s.safe with strapLock := some 0x1235 } }
    (s.mode.dieOn = true ∧ s.pwr.inReset = false ∧ s.mode ≠ .boot ∧ s.fld F.SAFE_CORE_STATE = 0 ∧ s.raised = [])
      ∧ (device .boot).mode = .boot ∧ (0x1234 : Half).toNat = s.fld F.SAFE_STRAP_BOOT
      ∧ (0x1235 : Half).toNat ≠ s.fld F.SAFE_STRAP_BOOT ∧ k.safe.strapLock = some 0x1235
      ∧ ¬ (s.safe.strapLock = some 0x1235) ∧ anyLock locked = true ∧ anyLock s = false := by decide +kernel

theorem meets_SafetyCoreFaults :
    let s := device .dark
    let at_ (l : List Nat) : State := { s with safe := { s.safe with faultTimes := l } }
    (s.mode.dieOn = true ∧ s.pwr.inReset = false ∧ s.fld F.SAFE_CORE_STATE = 0 ∧ s.raised = [])
      ∧ ((((at_ [0]).safe.faultTimes.take 2).filter fun x => decide ((at_ [0]).uptime ≤ x + 3600)).length < 2)
      ∧ ((((at_ [0, 0]).safe.faultTimes.take 2).filter fun x => decide ((at_ [0, 0]).uptime ≤ x + 3600)).length = 2)
      ∧ (s.setFld F.SAFE_CORE_STATE 1).fld F.SAFE_CORE_STATE = 1 ∧ s.safe.oscStop = false
      ∧ (500 < (-501 : Int).natAbs ∧ (500 : Int).natAbs ≤ 500 ∧ s.safe.devBad = 0)
      ∧ ({ s with safe := { s.safe with devBad := 1, oscStop := true } } : State).safe.devBad = 1 := by decide +kernel

theorem meets_WatchdogAndLimits :
    let s := settle (((device .dark).setBit F.SAFE_STAT_ARCH_LEGACY true).setFld F.SAFE_LEGACY_Q 1)
    (s.mode.dieOn = true ∧ s.pwr.inReset = false ∧ s.bit F.SAFE_STAT_ARCH_LEGACY = true ∧ s.fld F.SAFE_LEGACY_Q ≠ 0
        ∧ s.fld F.SAFE_CORE_STATE = 0 ∧ s.fld F.SAFE_LEGACY_QA_CONSEC < 2 ∧ s.raised = [])
      ∧ 2 ≤ (s.setFld F.SAFE_LEGACY_QA_CONSEC 2).fld F.SAFE_LEGACY_QA_CONSEC
      ∧ (device .dark).bit F.SAFE_STAT_ARCH_LEGACY = false ∧ okRuns (device .dark) = true ∧ okRuns State.reset = false
      ∧ (device .hold).mode = .hold
      ∧ (let n : State := { device .dark with seq := { (device .dark).seq with running := true }
                                              dplx := { (device .dark).dplx with hmA := .failed, hmB := .failed } }
         n.seq.running = true ∧ noHm n = true ∧ n.raised = []) := by decide +kernel
/-! ### Witnesses: tile links -/

/-- Any TILE packet with the CRC over its bytes passes the check, and with the next CRC it fails. -/
theorem meets_ForwardPackets_crc (k : TilePkt) :
    let p (d : Word) := { k with crc := crc32c (tileBytes k) + d }
    (p 0).crc = crc32c (tileBytes (p 0)) ∧ (p 1).crc ≠ crc32c (tileBytes (p 1)) := by
  have e (w : Word) : tileBytes { k with crc := w } = tileBytes k := rfl
  intro p
  refine ⟨by simp only [p, e]; simp, fun h => ?_⟩
  simp only [p, e] at h
  have := congrArg BitVec.toNat h
  simp [BitVec.toNat_add] at this
  omega

/-- A TILE packet of frame 1 for the zone's last tile. -/
def tileP : TilePkt := { tile0 with frm := 1, tz := 31 }

/-- A back buffer of zone 0 with no tile, with a tile of frame 1, and with all 32. -/
def back (n : Nat) : State :=
  let b : ZoneBack := if n = 0 then {} else { frm := some 1, tiles := (List.range n).map fun i => (i, []) }
  { device .beam with stk := { (device .beam).stk with back := (device .beam).stk.back.set 0 b } }

theorem meets_ForwardPackets :
    let k := tileP
    (takesFrom (back 1) .b = false ∧ takesFrom (back 0) .a = true ∧ takesFrom (back 1) .a = true ∧ (back 1).raised = [])
      ∧ ((back 1).fld (F.TLNK_LANE_STATE 0 15) ≠ 3 ∧ ((back 1).setFld (F.TLNK_LANE_STATE 0 15) 3).fld (F.TLNK_LANE_STATE 0 15) = 3)
      ∧ ({ k with framed := false } : TilePkt).framed = false ∧ (k.framed = true ∧ k.codes.length = 4096)
      ∧ (k.kind = 1 ∧ k.tz.toNat < 32 ∧ k.rsv = 0) ∧ ¬ ({ k with kind := 2 } : TilePkt).kind = 1
      ∧ (((back 1).stk.back[(0 : Zone)]).frm = some 1 ∧ ({ k with frm := 2 } : TilePkt).frm ≠ 1)
      ∧ (((back 1).stk.back[(0 : Zone)]).frm = some k.frm
          ∧ ({ k with icode := 1 } : TilePkt).icode ≠ ((back 1).stk.back[(0 : Zone)]).icode)
      ∧ (((back 0).stk.back[(0 : Zone)]).frm = none ∧ k.icode = ((back 1).stk.back[(0 : Zone)]).icode)
      ∧ ((back 1).stk.back[(0 : Zone)]).tiles.length < 31 := by decide +kernel

theorem meets_ForwardPackets_zend :
    let k0 : ZendPkt := ⟨true, 3, 1, 0, 0, 0⟩
    let k := { k0 with crc := crc32c (zendBytes k0) }
    (k.framed = true ∧ k.kind = 3 ∧ k.rsv = 0 ∧ k.crc = crc32c (zendBytes k)) ∧ ({ k with rsv := 1 } : ZendPkt).rsv ≠ 0
      ∧ ((back 1).stk.back[(0 : Zone)]).tiles.length ≠ 32
      ∧ (((back 32).stk.back[(0 : Zone)]).tiles.length = 32 ∧ ((back 32).stk.back[(0 : Zone)]).zcrcSent = false
          ∧ ((back 32).stk.back[(0 : Zone)]).frm = some 1) := by decide +kernel

/-- The first ORDER of a window, of type SWAP and REPEAT, and one that comes second. -/
def orderOf (t : Nat) : OrderBlock :=
  let k : OrderBlock := ⟨BitVec.ofNat 8 t, 0, 1, 0, 0⟩
  { k with crc8 := crc8 (orderBytes k) }

theorem meets_ForwardPackets_order :
    ((orderOf 1).crc8 = crc8 (orderBytes (orderOf 1)) ∧ (orderOf 1).b1.toNat % 4 = 1 ∧ (orderOf 2).b1.toNat % 4 = 2)
      ∧ (∀ y : Zone, (back 0).stk.orders[y] = none)
      ∧ (takesFrom (back 0) .a = true ∧ (back 0).tl.newSel = false ∧ (back 0).stk.sclkLost = false)
      ∧ (let s := { back 0 with stk := { (back 0).stk with orders := (back 0).stk.orders.set 0 (some (orderOf 1)) } }
         s.stk.orders[(0 : Zone)] ≠ none ∧ s.stk.orders[(1 : Zone)] = none) ∧ ¬ (orderOf 3).b1.toNat % 4 = 1 := by
  decide +kernel

/-- A zone command with its CRC: command, start, count and data. -/
def zcmd (cmd start count : Nat) (data : List Byte) : ZcmdPkt :=
  let k : ZcmdPkt := ⟨true, 2, BitVec.ofNat 8 cmd, BitVec.ofNat 16 start, BitVec.ofNat 16 count, 0, data, 0⟩
  { k with crc := crc32c (zcmdBytes k) }

/-- TRIM and BYPASS of the last string of a zone, the requests of tile 31, a bad CRC, a mode that takes none, and a
start out of range. -/
theorem meets_ZoneCommands :
    let s := device .calibrate
    let t := zcmd 1 16383 1 [63, 0, 0, 0]
    let b := zcmd 2 16383 1 [0xFF, 0, 0, 0]
    (takesFrom s .a = true ∧ takesFrom s .b = false ∧ s.fld (F.TLNK_LANE_STATE 0 15) ≠ 3 ∧ s.raised = [])
      ∧ (zcmdOk t = true ∧ t.cmd.toNat = 1 ∧ zcmdMode s 1 0 = true ∧ zcmdRange t = true ∧ zcmdOk { t with crc := t.crc + 1 } = false)
      ∧ (zcmdOk b = true ∧ b.cmd.toNat = 2 ∧ zcmdMode s 2 0 = true ∧ zcmdRange b = true ∧ zcmdMode (device .beam) 1 0 = false)
      ∧ (∀ c ∈ [1, 2, 3], zcmdOk (zcmd 3 31 c []) = true ∧ (zcmd 3 31 c []).cmd.toNat = 3 ∧ (zcmd 3 31 c []).count.toNat = c
          ∧ zcmdRange (zcmd 3 31 c []) = true)
      ∧ zcmdRange (zcmd 3 32 1 []) = false ∧ zcmdMode s 3 1 = true ∧ zcmdMode s 3 2 = true
          ∧ zcmdMode (device .service) 3 3 = true ∧ zcmdMode (device .beam) 3 3 = true ∧ zcmdMode (device .beam) 3 2 = false
      ∧ ((200 : Int).natAbs ≤ 200 ∧ 200 < (-201 : Int).natAbs ∧ (device .service).mode ≠ .calibrate ∧ s.mode = .calibrate)
      ∧ (s.seq.running = false ∧ { s.seq with running := true }.running = true) := by decide +kernel

theorem meets_ZoneCommands_tiles :
    let s := device .calibrate
    let tile := tileOfZone 15 31
    let r := { s with stk := { s.stk with ist := [(0, 7, ⟨511, false, false, 1, 1, 0⟩)] } }
    tile = 511 ∧ tileStateOf s tile < 2 ∧ 2 ≤ tileStateOf { s with stk := { s.stk with tileState := [(511, 2)] } } tile
      ∧ (r.stk.ist.find? (fun r => r.2.2.tile.val = tile)).isSome = true
      ∧ s.stk.ist.find? (fun r => r.2.2.tile.val = tile) = none := by decide +kernel

/-- Records of each kind, sent by the stack, and one with another CRC; the judging lane and the other. -/
theorem meets_ReturnRecords :
    let s := { device .beam with ffn := { (device .beam).ffn with composing := true, frm := 9 } }
    let r (k : Nat) := mkRecord k 15 9 31 [0, 0, 0, 0]
    (∀ k ∈ [1, 2, 3, 4, 5, 6, 7], recordOk (r k) = true ∧ (r k).kind = BitVec.ofNat 8 k)
      ∧ recordOk { r 1 with crc := (r 1).crc + 1 } = false ∧ s.raised = []
      ∧ (judgeLane s = .rtn0 ∧ judgeLane s ≠ .rtn1) ∧ (isComposed s (r 1) = true ∧ isComposed (device .beam) (r 1) = false)
      ∧ ((r 2).arg.toNat = 31 ∧ ((s.eng (selSide s)).tx[(15 : Zone)]).naked.getLsbD 31 = false)
      ∧ ((updTx .a 15 (fun t => { t with naked := 0x80000000 }) s).engA.tx[(15 : Zone)]).naked.getLsbD 31 = true
      ∧ (s.safe.held[(15 : Zone)] = [] ∧ 0 < ((9 : Half) - 8).toInt ∧ s.diag.zcrcNext[(15 : Zone)] = none)
      ∧ isZeroLight (lightOf (mkRecord 4 15 9 0 [1, 0, 0, 0])) = false
      ∧ (s.cal.asked = [] ∧ [((15 : Zone), 31, 31)].find? (fun x => x.1 = 15 && x.2.2 = (r 6).arg.toNat) = some (15, 31, 31)) := by
  decide +kernel

/-- FAULT of a pixel and a string, the last of all; of a tile; a pixel of class 1 already; kinds past 2. -/
theorem meets_FaultRecords :
    let s := device .beam
    let r (kind n b : Nat) := mkRecord 5 0 9 kind (toLe 4 n ++ [BitVec.ofNat 8 b, 0, 0, 0])
    (recordOk (r 0 262143 0x17) = true ∧ (r 0 262143 0x17).kind = 5 ∧ (r 0 262143 0x17).arg = 0
        ∧ leAt (r 0 262143 0x17).data 0 4 < 262144 ∧ mapClass s 262143 7 = 0 ∧ s.raised = [])
      ∧ (recordOk (r 1 262143 0) = true ∧ ∃ i < 8, mapClass s 262143 i ≠ 3)
      ∧ (recordOk (r 2 511 0x20) = true ∧ Sparse.get (Sparse.all 0) s.diag.tiles 511 < bitsOf (byteAt (r 2 511 0x20).data 4).toNat 5 4)
      ∧ ¬ leAt (r 0 262144 0).data 0 4 < 262144 ∧ 512 ≤ leAt (r 2 512 0).data 0 4 ∧ (r 3 0 0).arg.toNat = 3
      ∧ mapClass (setClass 5 2 1 s) 5 2 ≠ 0 ∧ s.mode.dieOn = true ∧ s.mode ≠ .calibrate := by decide +kernel

theorem meets_LanesAndStackTimers :
    let s := device .beam
    let st := F.TLNK_LANE_STATE (sideIx .b) 15
    let f := updTx .b 15 (fun t => { t with clean := 256 }) (s.setFld st 3)
    let r := { s.setBit (rtnFail .rtn1) true with tl := { s.tl with rtnClean := .replicate 2 256 } }
    ((s.eng .b).powered = true ∧ s.stk.powered = true ∧ s.fld st ≠ 3 ∧ s.raised = []) ∧ State.reset.stk.powered = false
      ∧ (f.fld st = 3 ∧ 256 ≤ ((f.eng .b).tx[(15 : Zone)]).clean) ∧ ((s.eng .b).tx[(15 : Zone)]).clean < 256
      ∧ (r.bit (rtnFail .rtn1) = true ∧ 256 ≤ r.tl.rtnClean[rtnIx .rtn1]) ∧ s.bit (rtnFail .rtn1) = false
      ∧ (∀ y : Zone, s.stk.orders[y] = none) ∧ (let w := { s with stk := { s.stk with orders := s.stk.orders.set 3 (some (orderOf 1)) } }
          w.stk.orders[(3 : Zone)] ≠ none)
      ∧ (s.stk.sclkLost = false ∧ ({ s.stk with sclkLost := true } : StackState).sclkLost = true) := by decide +kernel
/-! ### Witnesses: rails -/

/-- Zone 15's rail as given. -/
def railed (m : Mode) (r : ZoneRail) : State :=
  { device m with rail := { (device m).rail with z := (device m).rail.z.set 15 r } }

def write0 : RailWrite := { mv := 6000, acked := true, up := true, late := false }

/-- Attempts before: none, and two of the same transaction. -/
theorem meets_PmbusAttempts :
    let s := device .dark
    let b := busOf (.zone 15)
    let t := { s with rail := { s.rail with bus := s.rail.bus.set b (some ⟨.zone 15, 0x21, 2⟩) } }
    let p := s.setFld ⟨0x140040 + 4 * 15, 16, 1⟩ 1
    (failsBefore s (.zone 15) 0x21 < 2 ∧ 2 ≤ failsBefore t (.zone 15) 0x21 ∧ s.mode.dieOn = true)
      ∧ (∀ q ∈ pmRows 15 (.logic 7) 7 true (.ok 0), admitted s q.2.1 q.2.2 = true)
      ∧ (admitted t (.zone 15) 0x21 = true ∧ admitted t (.zone 15) 0x8B = false ∧ admitted (device .boot) (.zone 15) 0x8B = false)
      ∧ (ioutDue s 8 = true ∧ ioutDue s 15 = false) ∧ (isPaged p (.zone 15) = true ∧ failsBefore p (.zone 15) 0x8B = 0) := by
  decide +kernel

theorem meets_ZoneTransactions :
    let s := device .dark
    let r (q : RailSeq) (w : Option RailWrite) := railed .dark { seq := q, wr := w, pgood := true, reqB := true }
    let clears (q : RailSeq) := railed .dark { seq := q, stage := .clear }
    let good := voutCode 6000 (-9)
    (s.rail.z[(15 : Zone)].wr = none ∧ admitted s (.zone 15) 0x21 = true ∧ admitted (r .none (some write0)) (.zone 15) 0x8B = true)
      ∧ (((r .none (some write0)).rail.z[(15 : Zone)]).wr = some write0 ∧ write0.acked = true
          ∧ { write0 with acked := false }.acked = false)
      ∧ (withinPct 1 good (voutCode write0.mv (-9)) = true ∧ withinPct 1 0 (voutCode write0.mv (-9)) = false ∧ good < 65536)
      ∧ (((r .bringup (some write0)).rail.z[(15 : Zone)]).seq = .bringup ∧ ((r .bringup (some write0)).rail.z[(15 : Zone)]).pgood = true
          ∧ ((r .bringup (some write0)).rail.z[(15 : Zone)]).faulty = false ∧ railState (r .bringup (some write0)) 15 = 0)
      ∧ (feedsPair (s.setFld (F.RAIL_ZSTAT_STATE 14) 2) 15 = true ∧ admitted s (.zone 15) 0x79 = true)
      ∧ (zenLow (r .none none) 15 = true ∧ zenLow s 15 = false ∧ zenLow (r .release none) 15 = true)
      ∧ ((0x0840 : Half).getLsbD 6 = true ∧ ¬ ((0x0800 : Half).getLsbD 6 = true ∨ (0x0800 : Half).getLsbD 15 = true)
          ∧ ¬ ((0 : Half).getLsbD 11 = true ∨ (0 : Half).getLsbD 6 = true ∨ (0 : Half).getLsbD 15 = true))
      ∧ (admitted s (.zone 15) 0x8C = true ∧ admitted s (.zone 8) 0x8C = true ∧ ioutDue s 8 = true)
      ∧ (∀ q ∈ [RailSeq.retry, RailSeq.release], ((clears q).rail.z[(15 : Zone)]).stage = .clear
          ∧ ((clears q).rail.z[(15 : Zone)]).seq = q ∧ admitted (clears q) (.zone 15) 0x03 = true)
      ∧ (∀ code ∈ [0x7A, 0x64, 0x19, 0x20, 0x02, 0x24], admitted s (.zone 15) code = true)
      ∧ ((0x80 : Half).getLsbD 7 = true ∧ (0 : Half).getLsbD 7 = false)
      ∧ (bitsOf (0x14 : Half).toNat 7 5 = 0 ∧ signed 5 (0x14 : Half).toNat = -12 ∧ signed 5 (0x1A : Half).toNat = -6
          ∧ ¬ signed 5 (0x1B : Half).toNat ≤ -6)
      ∧ bitsOf (0x14 : Half).toNat 7 0 = 0x14 ∧ bitsOf (0 : Half).toNat 7 0 ≠ 0x14
      ∧ (voutCode (20 * s.fld (F.RAIL_ZCFG_VMAX 15)) (-9) < 65536 ∧ 0 ≠ voutCode (20 * s.fld (F.RAIL_ZCFG_VMAX 15)) (-9)) := by
  decide +kernel

theorem meets_LogicRails :
    let w (n : Nat) := { device .wake with rail := { (device .wake).rail with logicPg := 0xFF, logicStep := n } }
    let d := device .dark
    let v : Half := 1690
    ((w 3).mode = .wake ∧ (w 3).pwr.railsUp = (0 : Fin 8).val ∧ (w 3).rail.logicStep = 3 ∧ (w 3).rail.logicPg.getLsbD 0 = true
        ∧ (w 0).rail.logicStep = 0 ∧ (w 3).pwr.inReset = false ∧ (w 3).pwr.brownOut = false)
      ∧ (v.toNat * 2 ^ (((w 3).rail.logicExp[(0 : Fin 8)]) + 12).toNat * 1000 * 100 ≤ 3300 * 4096 * 103
          ∧ 3300 * 4096 * 97 ≤ v.toNat * 2 ^ (((w 3).rail.logicExp[(0 : Fin 8)]) + 12).toNat * 1000 * 100)
      ∧ (∀ code ∈ [0x8B, 0x79, 0x7A, 0x20, 0x21, 0x01], ∀ n ∈ [0, 3], admitted (w n) (.logic 0) code = true)
      ∧ (d.mode ≠ .wake ∧ d.mode.dieOn = true ∧ d.rail.logicBad.getLsbD 7 = false ∧ ({ d.rail with logicBad := 0x80 } : RailState).logicBad.getLsbD 7 = true)
      ∧ ((0x0800 : Half).getLsbD 11 = true ∧ (0x8000 : Half).getLsbD 15 = true) ∧ (w 3).mode.dieOn = false
      ∧ (bitsOf (0x14 : Half).toNat 7 5 = 0 ∧ signed 5 (0x14 : Half).toNat = -12 ∧ signed 5 (0x1A : Half).toNat = -6)
      ∧ ((w 3).pwr.railsUp ≠ (1 : Fin 8).val) := by decide +kernel

theorem meets_RailMonitors :
    let s := device .dark
    let r (q : RailSeq) (w : Option RailWrite) (n : Nat) := railed .dark { seq := q, wr := w, upFails := n, reqB := true }
    let low := (r .none none 0).setFld (F.RAIL_ZREQ_VERIFIED 15) 500 |>.setFld (F.RAIL_ZREQ_TARGET 15) 500
    let x := settle ((railed .beam { faulty := true }).setFld (F.RAIL_ZSTAT_STATE 15) 3)
    (write0.acked = true ∧ write0.late = false ∧ write0.up = true ∧ { write0 with acked := false }.acked = false ∧ s.mode.dieOn = true
        ∧ ((r .none (some write0) 2).rail.z[(15 : Zone)]).upFails = 2 ∧ ((r .none (some write0) 1).rail.z[(15 : Zone)]).upFails < 2)
      ∧ (s.rail.z[(15 : Zone)]).wr = none ∧ (((r .retry (some write0) 0).rail.z[(15 : Zone)]).seq = .retry)
      ∧ (zenLow low 15 = true ∧ isCrossed low 15 = false
          ∧ 8999 * 10 < 20 * min (low.fld (F.RAIL_ZREQ_VERIFIED 15)) (low.fld (F.RAIL_ZREQ_TARGET 15)) * 9
          ∧ ¬ 9000 * 10 < 20 * min (low.fld (F.RAIL_ZREQ_VERIFIED 15)) (low.fld (F.RAIL_ZREQ_TARGET 15)) * 9)
      ∧ (27600 < 27601 ∧ ¬ 27600 < 27600 ∧ isLocked s 15 = false ∧ 20 * low.fld (F.RAIL_ZREQ_TARGET 15) * 11 < 11001 * 10
          ∧ 20 * low.fld (F.RAIL_ZREQ_TARGET 15) + 1000 < 11001 ∧ isLocked locked 15 = true)
      ∧ (isStranded x 15 = true ∧ (x.rail.z[(15 : Zone)]).faulty = true ∧ (x.rail.z[(15 : Zone)]).seq = .none ∧ x.mode = .beam
          ∧ 0 ≤ (x.reg 0x80014 - BitVec.ofNat 32 (x.rail.z[(15 : Zone)]).retryAt).toInt) ∧ isStranded s 15 = false
      ∧ ((railed .dark { seq := .bringup, stage := .poll }).rail.z[(15 : Zone)]).stage ≠ .waits
      ∧ ((r .bringup none 0).rail.z[(15 : Zone)]).stage = .waits ∧ ((r .bringup none 0).rail.z[(15 : Zone)]).faulty = false
      ∧ ((r .bringup none 0).rail.z[(15 : Zone)]).seq = .bringup ∧ ((r .release none 0).rail.z[(15 : Zone)]).seq = .release := by
  decide +kernel

/-! ### Witnesses: the sequencer -/

/-- The sequencer runs in BEAM; `back` of every zone but the dark ones holds all its tiles. -/
def ticking : State :=
  let s := device .beam
  { s with seq := { s.seq with running := true, started := true, due := 256000 } }

theorem meets_TickMovesTheFrame :
    let k := orderOf 1
    let b : ZoneBack := { frm := some 1, tiles := (List.range 32).map fun i => (i, []) }
    let o (k : OrderBlock) := { ticking with stk := { ticking.stk with orders := .replicate 16 (some k), back := .replicate 16 b } }
    (ticking.seq.running = true ∧ calm ticking ∧ ticking.mode.dieOn = true ∧ ticking.raised = []
        ∧ (device .beam).seq.running = false) ∧ (∀ z : Zone, ticking.stk.orders[z] = none)
      ∧ (calm (o k) ∧ (o k).stk.powered = true ∧ (o k).stk.sclkLost = false ∧ (∀ z : Zone, (o k).stk.orders[z] = some k) ∧ k.b1.toNat % 4 = 1
          ∧ (orderOf 2).b1.toNat % 4 ≠ 1
          ∧ ∀ z : Zone, k.darkmask.getLsbD z.val = true ∨ ((o k).stk.back[z]).tiles.length = 32) := by decide +kernel

theorem meets_FsyncAndDeadline :
    let s := ticking.setFld F.SEQ_LOCKSTAT_STATE 2
    let l := { s with seq := { s.seq with lastEdge := some 5 } }
    let c := { ticking with ffn := { ticking.ffn with composing := true } }
    (s.seq.running = true ∧ true ≠ s.bit F.SEQ_CTRL_FSI_POL ∧ 1000 ≤ 1000 ∧ ¬ 1000 ≤ 999 ∧ s.mode ≠ .lowlight ∧ s.fld F.SEQ_LOCKSTAT_STATE ≠ 0
        ∧ s.seq.lastEdge = none ∧ s.raised = [])
      ∧ (l.seq.lastEdge = some 5 ∧ l.fld F.SEQ_LOCKSTAT_STATE = 2 ∧ intervalOk (resOf l) (6 - 5) = false ∧ l.mode.dieOn = true)
      ∧ ¬ (State.reset.seq.running = true ∧ State.reset.seq.started = true)
      ∧ (c.ffn.composing = true ∧ handedAll c = false) ∧ ticking.ffn.composing = false := by decide +kernel

/-- A composed frame with every zone done, with none done, with none done and the standby's zones all packed, and one
after two underruns. -/
theorem meets_GuardWindowOrders :
    let c := { ticking with ffn := { ticking.ffn with composing := true } }
    let d := { c with tl := { c.tl with acked := .replicate 2 (.replicate 16 0xFFFFFFFF), mtch := .replicate 2 (.replicate 16 true) } }
    let l := { c with engB := { c.engB with pack := .replicate 16 { tiles := 32, zcrc := some 0 } } }
    (c.seq.running = true ∧ c.seq.started = true ∧ c.ffn.composing = true ∧ c.dplx.fo = none ∧ noHm c = false ∧ c.stk.powered = true)
      ∧ (upwardDue c 15 = false ∧ upwardDue { c with rail := { c.rail with z := c.rail.z.set 15 { wr := some write0, up := true } } } 15 = true)
      ∧ ¬ (ticking.ffn.composing = true) ∧ (∀ z : Zone, zoneDone d z = true)
      ∧ ((∃ z : Zone, zoneDone c z = false) ∧ lateActive c = false ∧ c.mode.dieOn = true)
      ∧ ((∃ z : Zone, zoneDone l z = false) ∧ lateActive l = true ∧ l.active = some .a ∧ l.dplx.hot = none ∧ l.dplx.rsUnit = none)
      ∧ 2 ≤ (c.setFld F.SEQ_UNDERRUN_UR_CONSEC 2).fld F.SEQ_UNDERRUN_UR_CONSEC := by decide +kernel

theorem meets_GuardWindowOrders_signature :
    let env : GuardEnv := ⟨[(15, some 7)], [], [(.a, 15, 7)]⟩
    let s := { ticking with seq := { ticking.seq with order := some (.replicate 16 (some (orderOf 1))) }
                            diag := { ticking.diag with zcrcShown := .replicate 16 (some 7), frzMism := .replicate 16 1 } }
    s.seq.order ≠ none ∧ s.stk.powered = true ∧ env.dsig.find? (fun e => e.1 = (15 : Zone).val) = some (15, some 7)
      ∧ s.diag.zcrcShown[(15 : Zone)] = some 7 ∧ 1 ≤ s.diag.frzMism[(15 : Zone)] ∧ prbsErrors s env.prbs .a 15 = 7 := by decide +kernel

/-! ### Witnesses: diagnostics, evaluation, fixed function -/

/-- Zone 0 lit in the running sequencer: both cut paths on. -/
def lit : State := { ticking with rail := { ticking.rail with z := .replicate 16 { reqA := true, reqB := true } } }

theorem meets_InServiceTests :
    let s := { lit.setBit F.DIAG_CTRL_IST_EN true with stk := { lit.stk with orders := lit.stk.orders.set 0 (some (orderOf 1)) } }
    let m : IstReading := ⟨0, true, true, 0, 0, 201⟩
    (s.stk.powered = true ∧ s.seq.running = true ∧ s.seq.started = true ∧ s.raised = []) ∧ ¬ (device .beam).seq.running = true
      ∧ ((∀ z : Zone, lit.stk.orders[z] = none) ∧ (s.setBit F.DIAG_CTRL_IST_EN false).bit F.DIAG_CTRL_IST_EN = false)
      ∧ ((∃ z : Zone, s.stk.orders[z] ≠ none) ∧ s.bit F.DIAG_CTRL_IST_EN = true
          ∧ testBarred s (Fin.ofNat 16 (zoneOfTile (0 : Fin 512).val)) = false ∧ tileStateOf s 0 < 2
          ∧ testPos s (strOfTile 0 0) 0 = some 0 ∧ [m].find? (fun r => r.tile = 0) = some m)
      ∧ State.reset.stk.powered = false
      ∧ (m.trip = true ∧ m.sense = true)
      ∧ (let d := { s with stk := { s.stk with istDue := [(0, 7, { m with sense := false })] } }
         d.stk.istDue ≠ [] ∧ ((true && false) = false) ∧ 0 < 20 * d.fld F.DIAG_CTRL_SHORT_VF ∧ 200 < (201 : Int).natAbs
           ∧ current250 d (strOfTile 0 0) * 10 < ((250 * 0 : Int) - current250 d (strOfTile 0 0)).natAbs * 100) := by
  decide +kernel

theorem meets_TripsAndReadback :
    let s := { lit with stk := { lit.stk with front := [(0, List.replicate 8 2048)], nallow := .replicate 16 8 } }
    let seen := { s.setFld F.SEQ_FRAME_FRAME 5 with stk := { s.stk with noSense := [(0, 5 + 2 ^ 32)] } }
    (mayTrip s 0 = true ∧ mayTrip State.reset 0 = false)
      ∧ (∃ k < 8, (0x80 : Byte).getLsbD k = true ∧ judged s 0 k = true ∧ isBypassed s 0 k = false)
      ∧ (∀ k < 8, (0 : Byte).getLsbD k = false)
      ∧ (mayTrip seen 0 = true ∧ Sparse.get (Sparse.all 0) seen.stk.noSense 0 ≠ 0
          ∧ Sparse.get (Sparse.all 0) seen.stk.noSense 0 % 2 ^ 32 = seen.fld F.SEQ_FRAME_FRAME)
      ∧ Sparse.get (Sparse.all 0) s.stk.noSense 0 = 0
      ∧ (s.stk.powered = true ∧ s.seq.running = true ∧ s.seq.started = true) ∧ ¬ State.reset.stk.powered = true := by
  decide +kernel

/-- A string that is dark in every slot: a shunt seen open mismatches, a source seen off does not; a tile that sends
nothing is not sampled. -/
theorem meets_TripsAndReadback_samples :
    let bad : ReadbackSense := ⟨0, false, 7, true⟩
    let ok : ReadbackSense := ⟨0, true, 0, false⟩
    isSampled lit 0 bad = true ∧ isSampled { lit with stk := { lit.stk with tileState := [(0, 3)] } } 0 bad = false
      ∧ (expectedAt lit 0 0).getD 7 false = false ∧ (expectedAt lit 0 0).any id = false
      ∧ bad.on ≠ (expectedAt lit 0 0).getD 7 false ∧ ok.on = (expectedAt lit 0 0).any id ∧ [bad].any (sameElem bad) = true := by
  decide +kernel

theorem meets_ZoneEvaluationAndOffPulse :
    let s := { lit with safe := { lit.safe with shown := .replicate 16 { zsum := 10, wmax := [0, 0, 0, 9] }, gwEn := 8 } }
    let n := { s with safe := { s.safe with seen := 0 } }
    let p := s.setBit F.SAFE_OPT_EN true
    let f := { p with safe := { p.safe with optFail := 0x80000000 } }
    (s.mode.dieOn = true ∧ s.pwr.inReset = false ∧ s.seq.running = true ∧ s.seq.started = true ∧ s.raised = [])
      ∧ ¬ State.reset.seq.running = true ∧ s.safe.seen.getLsbD 15 = true ∧ n.safe.seen.getLsbD 15 = false
      ∧ ((s.setFld (F.SAFE_ZLIM_LIM 15) 159).fld (F.SAFE_ZLIM_LIM 15) < 10 * (16 + 0)
          ∧ 10 * (16 + 0) ≤ (s.setFld (F.SAFE_ZLIM_LIM 15) 160).fld (F.SAFE_ZLIM_LIM 15))
      ∧ (s.safe.gwEn.testBit 3 = true ∧ (s.setFld (F.SAFE_GWLIM_LIM 3) 143).fld (F.SAFE_GWLIM_LIM 3) < 9 * (16 + 0))
      ∧ (p.bit F.SAFE_OPT_EN = true ∧ p.fld F.SAFE_CORE_STATE = 0 ∧ p.cal.zone = none ∧ isCrossed p 15 = false
          ∧ isCrossed (p.setFld (F.RAIL_ZSTAT_STATE 15) 2) 15 = true)
      ∧ ((p.setFld F.SEQ_FRAME_FRAME 248).fld F.SEQ_FRAME_FRAME % 256 = 16 * 15 + 8
          ∧ (31, BitVec.ofNat 32 (p.fld F.SEQ_FRAME_FRAME)) ∈ ({ p.safe with optDue := [(31, 0)] } : SafeState).optDue)
      ∧ (p.safe.optFail.getLsbD 31 = false ∧ f.safe.optFail.getLsbD 31 = true ∧ pathB p 15 = true ∧ srcEnabled p 15 = true) := by
  decide +kernel

theorem meets_PixelCodes :
    let s := { lit with ffn := { lit.ffn with bypass := [(0, 1)], failed := [511] } }
    bypassed s 0 0 = true ∧ tileFailed s 511 = true ∧ s.ffn.shapes = [] := by decide +kernel

/-- A full buffer of cluster 7 while the engine is ACTIVE, the zone's 32nd tile, and a cluster that waits. -/
theorem meets_FixedFunctionTile :
    let h : Handoff := ⟨511, 9, []⟩
    let s := ticking.updCl .a 7 fun k => { k with full := [h], run := .waitBuf, pos := 63 }
    let s := { s with engA := { s.engA with pack := .replicate 16 { tiles := 31 } } }
    nextCluster ticking .a = none ∧ nextCluster s .a = some 7 ∧ (s.cluster .a 7).full = h :: [] ∧ (s.eng .a).role = .active
      ∧ ((s.eng .a).pack[(15 : Zone)]).tiles = 31 ∧ s.seq.darkmask.getLsbD 15 = false ∧ (s.cluster .a 7).run = .waitBuf
      ∧ (s.cluster .a 7).pos < 64 ∧ s.raised = [] := by decide +kernel

/-! ### Witnesses: duplex, temperatures, calibration -/

/-- Beacons of BE-A: a right one that follows and one that does not, a wrong CRC; a path missing, both missing. -/
theorem meets_BeaconsAndFailures :
    let b : List Byte := [0, 6, 0, 0, 0, 0, 0]
    let s := (device .beam).setBit F.DPLX_CTRL_AUTO_RECOV false
    let last (n : Byte) (g : Nat) := { s with dplx := { s.dplx with bus := .replicate 4 { last := some n, good := g, missing := true } } }
    (s.mode.dieOn = true ∧ s.pwr.inReset = false ∧ s.raised = [])
      ∧ ((b ++ [crc8 b]).length = 8 ∧ crc8 ((b ++ [crc8 b]).take 7) = byteAt (b ++ [crc8 b]) 7)
      ∧ crc8 ((b ++ [crc8 b + 1]).take 7) ≠ byteAt (b ++ [crc8 b + 1]) 7
      ∧ (∀ c, ((last 5 255).dplx.bus[(0 : Fin 4)]).last = some c → c = 5) ∧ ((last 5 255).dplx.bus[(0 : Fin 4)]).good = 255
      ∧ byteAt b 1 = 5 + 1 ∧ byteAt b 1 ≠ 6 + 1 ∧ (50 ≤ 50 ∧ 49 < 50)
      ∧ (∀ e, unitSide .beA = some e → (s.eng e).powered = true ∧ (s.eng e).role ≠ .failed)
      ∧ ((s.dplx.bus[(0 : Fin 4)]).missing = false ∧ (s.dplx.wire[(0 : Fin 4)]).missing = false)
      ∧ (((last 5 0).dplx.bus[(0 : Fin 4)]).missing = true ∧ (last 5 0).dplx.hot = none
          ∧ (last 5 0).bit F.DPLX_CTRL_AUTO_RECOV = false ∧ (last 5 0).engA.role = .active ∧ (last 5 0).dplx.rsUnit ≠ some .beA)
      ∧ ¬ (∀ e, unitSide .beA = some e → (State.reset.eng e).powered = true)
      ∧ (roleOf s .hmA = .active ∧ roleOf s .hmB = .standby ∧ s.dplx.rsUnit ≠ some .hmA) := by decide +kernel

theorem meets_TestsAndColdStarts :
    let s := (imaged .beam).setBit F.DPLX_CTRL_AUTO_RECOV false
    let t := { s with dplx := { s.dplx with testing := 0xF, loading := 0xF } }
    (s.dplx.testing &&& 2 = 0 ∧ s.dplx.loading &&& 2 = 0 ∧ s.raised = [])
      ∧ (t.dplx.testing &&& 2 ≠ 0 ∧ t.bit F.DPLX_CTRL_AUTO_RECOV = false ∧ unitSide .beB = some .b ∧ unitSide .hmB = none
          ∧ t.dplx.rsUnit = none ∧ t.mode.dieOn = true)
      ∧ (t.dplx.loading &&& 2 ≠ 0 ∧ t.dplx.hot = none ∧ t.active ≠ some .b ∧ t.active ≠ none ∧ t.mode ≠ .lowlight
          ∧ t.dplx.hold3 ≠ some .b)
      ∧ (t.dplx.loading &&& 8 ≠ 0 ∧ roleOf t (otherUnit .hmB) = .active) := by decide +kernel

/-- A store with an image, which passes, and one without. -/
theorem meets_TestsAndColdStarts_image :
    validContent (imaged .beam) 1 = some image ∧ imageCheck (imaged .beam) image = 0 ∧ validContent State.reset 1 = none := by
  decide +kernel

theorem meets_Resynchronisation :
    let s := device .beam
    let r (u : UnitNo) (ph : Nat) (d : Bool) := { s.setFld F.DPLX_STAT_RS_PHASE ph with dplx := { s.dplx with rsUnit := some u, rsDone := d } }
    (s.dplx.rsUnit = none ∧ s.dplx.rsAgain = [] ∧ s.dplx.rsQueue = [] ∧ s.raised = [])
      ∧ ((r .beB 1 false).dplx.rsUnit = some .beB ∧ (r .beB 1 false).fld F.DPLX_STAT_RS_PHASE = 1)
      ∧ ((r .beB 2 false).fld F.DPLX_STAT_RS_PHASE = 2 ∧ (r .beB 2 false).dplx.rsDone = false ∧ unitSide .beB = some .b
          ∧ (r .beB 2 false).active = some .a ∧ ((r .beB 2 false).setFld (F.ENG_STAT_CLUS_DONE 0) 255).fld (F.ENG_STAT_CLUS_DONE 0) = 255)
      ∧ (r .beB 2 true).dplx.rsDone = true
      ∧ (unitSide .hmB = none ∧ (r .hmB 2 false).dplx.plan[unitIx .hmB] ≠ .arbStandby)
      ∧ ({ s with dplx := { s.dplx with rsAgain := [.beB, .hmB] } } : State).dplx.rsAgain = .beB :: [.hmB] := by decide +kernel

/-- Pad readings at the ends of their range, 10.0 °C from the last one; a die reading of 125.0 °C in DARK. -/
theorem meets_TemperaturesAndModel :
    let s := { device .dark with therm := { (device .dark).therm with padPrev := 1400 } }
    (s.mode.dieOn = true ∧ s.pwr.inReset = false ∧ s.raised = [] ∧ State.reset.mode.dieOn = false)
      ∧ (-550 ≤ (1500 : Int) ∧ (1500 : Int) ≤ 1500 ∧ ((1500 : Int) - s.therm.padPrev).natAbs ≤ 100)
      ∧ ¬ ((-550 : Int) - s.therm.padPrev).natAbs ≤ 100 ∧ (-32768 ≤ s.therm.padGood ∧ s.therm.padGood < 32768)
      ∧ ((-551 : Int) < -550 ∧ (1750 : Int) < 1751 ∧ (1250 : Int) ≤ 1250 ∧ (1250 : Int) ≤ 1750)
      ∧ (s.bit F.THRM_STAT_DIE_FAIL = false ∧ s.bit F.THRM_STAT_THERM_STOP = false ∧ s.seq.running = false ∧ ticking.seq.running = true
          ∧ s.mode ≠ .boot ∧ s.mode ≠ .safeDark) := by decide +kernel

theorem meets_CalibrationEnds :
    let s := settle (((device .calibrate).setBit F.CAL_STAT_RUNNING true).setFld F.SAFE_ZONES_ZLOCK 1)
    s.mode = .calibrate ∧ s.bit F.CAL_STAT_RUNNING = true ∧ s.raised = [] ∧ isLocked s 0 = true ∧ isStranded s 15 = false
      ∧ isLocked s 15 = false ∧ ¬ (device .dark).mode = .calibrate := by decide +kernel

/-! ### Witnesses: further forms and boundary values -/

/-- Rows that end at the end of the latch page, of every ETYPE and of both forms; for G8 a lane at the last sample, so
that its gain is read, and no lane there. -/
theorem meets_Resampling :
    let run (lin : Bool) (b u0 du r : Nat) : FRS × State :=
      let f : FRS := ⟨31, 1, 31, lin, 0, e0⟩
      (f, issue (.vrs .a 0 f) (mol 98 [(4, BitVec.ofNat 32 b), (5, BitVec.ofNat 32 u0), (6, BitVec.ofNat 32 du), (7, BitVec.ofNat 32 r)]))
    ∀ lin : Bool, ∀ x ∈ [(0, 1, 1), (1, 2, 4), (2, 5, 10), (3, 4, 8), (4, 2, 4), (4, 2, 3)],
      let x : Nat × Nat × Nat := x
      let w := x.2.1
      let (f, s) := run lin (0x41000 - x.2.2) 0 (if x.2.2 = 3 then 0 else 0x8000) (w + 65536 * x.1)
      let k := s.cluster .a 0
      let far := (65536 * (w - 1) : Int) ≤ 63 * (k.sreg 6).toInt
      f.rsv = 0 ∧ f.g ≠ 0 ∧ f.pred.getLsbD 4 = true ∧ MolReady .a 0 1 (.vrs .a 0 f) s ∧ k.tugs = []
        ∧ ((k.sreg 7).extractLsb' 16 3).toNat = x.1 ∧ ((k.sreg 7).extractLsb' 0 16).toNat = w ∧ w ≠ 0
        ∧ (k.sreg 4).toNat + x.2.2 ≤ 0x41000 ∧ (x.1 = 1 → (k.sreg 4).toNat % 2 = 0) ∧ (k.sreg 5).toInt = 0
        ∧ (x.2.2 = 3 → (k.sreg 6).toInt = 0 ∧ 1 < w) ∧ (x.2.2 ≠ 3 → far) ∧ actLane k f.pred 63 := by decide +kernel

/-- A gated side and an empty queue; berth entries whose bytes this engine reads, out of step with the other and in
step with it. -/
theorem meets_TugsQueueAndCopy_berth :
    let t : Tug := ⟨0, 0, 4, some 5⟩
    let s := molTugs [] [t]
    let y := s.updCl .b 0 fun k => { k with frm := (s.cluster .a 0).frm, run := .running }
    ((s.updEng .a fun g => { g with gated := true }).eng .a).gated = true ∧ ((mol 10 []).cluster .a 0).tugs = []
      ∧ (s.eng .a).gated = false ∧ (s.cluster .a 0).tugs = t :: [] ∧ t.berth = some 5
      ∧ (∀ x ∈ (s.eng .a).served[(0 : Fin 8)], x.1 ≠ t) ∧ s.br.poison = []
      ∧ inStep (s.updCl .b 0 fun k => { k with frm := 77 }) .a 0 = false ∧ inStep y .a 0 = true := by decide +kernel

/-- A word that calls for an extension outside the code section; its neighbour inside. -/
theorem meets_IllegalRaisesException_extension :
    let s (pc : Nat) (w : Word) := (mol pc []).updEng .a fun g => { g with pm := [(pc, w)] }
    let w : Word := 0x2000203F
    ∀ pc ∈ [98, 99],
      spellsInstr (s pc w) .a 0 = false ∧ w.extractLsb' 26 6 = 0x08 ∧ w.getLsbD 13 = true
        ∧ ((s pc w).cluster .a 0).run = .running ∧ ((s pc w).cluster .a 0).pc < ((s pc w).eng .a).codeWords
        ∧ ((s pc w).eng .a).gated = false ∧ ((s pc w).eng .a).codeWords = 100 ∧ ((s pc w).eng .a).word pc = w
        ∧ OutputsFollow (s pc w) ∧ (s pc w).dplx.hot = none := by decide +kernel

/-- Hardware exceptions of the ACTIVE and of the STANDBY engine, in BEAM and in LOWLIGHT. -/
theorem meets_HardwareException_roles :
    ∀ m ∈ [Mode.beam, .lowlight], let s := (device m).setBit F.DPLX_CTRL_AUTO_RECOV false
      OutputsFollow s ∧ (s.eng .a).powered = true ∧ (s.eng .a).role = .active ∧ (s.eng .b).powered = true
        ∧ (s.eng .b).role = .standby ∧ s.dplx.hot = none ∧ s.dplx.rsUnit = none ∧ s.bit F.DPLX_CTRL_AUTO_RECOV = false := by
  decide +kernel

/-- Writes of EVT_PENDLO3 and EVT_PENDHI3, the registers of C3, and REG_SNAP of the three words of its group. -/
theorem meets_RegisterAccess_events :
    let s := device .dark
    let h : HostHdr := ⟨3, false, 1, false, {}⟩
    let t := (s.setReg 0x400A0 0xFF).setReg 0x400A4 0x3FFFFF
    HostReady h t ∧ t.mode ≠ .boot
      ∧ (∀ hi : Bool, let a := 0x30040 + 16 * h.ctx.val + 4 * hi.toNat
          a < 0x150000 ∧ canon a = a ∧ placeOf a = .reg ∧ maskOk t h.ctx a = true ∧ a % 4 = 0 ∧ ownerOk h.ctx a = true
            ∧ assigned a = true ∧ accessOff t a = false)
      ∧ (∀ a ∈ [0x80014, 0x80018, 0x8001C], a < 2 ^ 32 ∧ a % 4 = 0 ∧ (a = 0x80014 ∨ a = 0x80018 ∨ a = 0x8001C)) := by
  decide +kernel

/-- A READY berth that a pending commit names; a FILLING berth whose fill runs, with no LONG command; another context's. -/
theorem meets_BerthUse_pending :
    let x : Commit := ⟨5, false, { layers := [(15, layerBytes 16 15)] }⟩
    let s := (withBerths .dark [(5, { st := .ready, base := 0, size := 1, fence := true })
      , (63, { st := .filling, base := 1, size := 1, zfill := true }), (62, { st := .filling, owner := 1, base := 2, size := 1 })])
    let s := s.updCtx 0 fun k => { k with commit := some x }
    HostReady hd s ∧ s.mode ≠ .boot ∧ hd.m = false ∧ OutputsFollow s ∧ s.job = none ∧ s.br.poison = []
      ∧ ((s.berth 5).zfill = false ∧ (s.berth 5).held = [] ∧ (s.berth 5).st = .ready ∧ pendingNames s 5 = true
          ∧ 4092 + 4 ≤ (s.berth 5).size * 4096 ∧ (s.berth 5).owner = hd.ctx ∧ ((s.berth 5).fence || false) = true)
      ∧ ((s.berth 63).owner = hd.ctx ∧ (s.berth 63).st = .filling ∧ (s.berth 63).zfill = true ∧ ∀ m, (s.berth m).held = [])
      ∧ ((s.berth 62).st ≠ .free ∧ (s.berth 62).owner ≠ hd.ctx) := by decide +kernel

/-- PITCH_YAW without PY; LAYER_SET with another context's berth, and of a layer whose pin mask shuts C0 out. -/
theorem meets_ShadowCommands_denied :
    let s := layered.setReg 0x40040 0xBF
    let b := layered.updBerth 5 fun k => { k with owner := 1 }
    let r := layerPar (layerBytes 16 15)
    (HostReady hd s ∧ s.mode ≠ .boot ∧ hasPerm s 0 6 = false)
      ∧ (HostReady hd b ∧ r.enable = true ∧ r.release = false ∧ othersBerth b hd.ctx r.berth = true)
      ∧ (HostReady hd (layered.setReg 0x7001C 0xEFFFFFFF) ∧ pinAllows (layered.setReg 0x7001C 0xEFFFFFFF) 15 hd.ctx = false) := by
  decide +kernel

/-- LOWLIGHT and BEAM from DARK with optics tables and one image, and without either; BEAM in SIMPLEX. -/
theorem meets_ModeRequests_images :
    let s := (device .dark).setBit F.FFN_STAT_OPT_VALID true
    let n : State := { s with engA := { s.engA with imgValid := false }, engB := { s.engB with imgValid := false } }
    let o : State := { s with engA := { s.engA with imgValid := false } }
    let x := device .simplex
    (∀ m ∈ [Mode.lowlight, .beam], acceptsTarget s.mode m = true ∧ ¬ (m = .beam ∧ s.mode = .simplex))
      ∧ (HostReady hm s ∧ hasPerm s 0 0 = true ∧ s.bit F.FFN_STAT_OPT_VALID = true ∧ s.engA.imgValid = true
          ∧ s.bit F.THRM_STAT_THERM_STOP = false)
      ∧ (HostReady hm o ∧ o.engB.imgValid = true)
      ∧ (HostReady hm n ∧ n.engA.imgValid = false ∧ n.engB.imgValid = false) ∧ (device .dark).bit F.FFN_STAT_OPT_VALID = false
      ∧ (HostReady hm x ∧ x.mode = .simplex ∧ hasPerm x 0 0 = true ∧ x.long = none) := by decide +kernel

/-- SAFE-DARK asked for in BEAM while a LONG command without work runs. -/
theorem meets_SafeDarkRequest_long :
    let l : LongCmd := ⟨1, 7, 0x37, 0, 0, none, none⟩
    let s : State := { device .beam with long := some l }
    HostReady hm s ∧ OutputsFollow s ∧ s.mode = .beam ∧ hasPerm s 0 0 = true ∧ s.long = some l ∧ l.job = none
      ∧ l.code ≠ 0x31 ∧ l.code ≠ 0x32 ∧ s.pwr.req = none ∧ s.dplx.hot = none ∧ s.dplx.rsUnit = none
      ∧ unsent s l.ctx < 31 ∧ s.ifaceOf l.ctx = some .portB ∧ s.ifaceOf hm.ctx = some .portA := by decide +kernel

/-- SLEEP from SAFE-DARK, asked for over a port that is up, over SPI and over CAN, with nothing queued. -/
theorem meets_SleepRequest_last :
    let s := settle (((linked.setBit F.SAFE_STAT_DEV_LOCK true)) : State)
    let s : State := { s with pwr := { s.pwr with mode := .safeDark } }
    let t := (s.setReg 0x40080 0xFF).setReg 0x400A0 0xFF
    ∀ c ∈ [(0 : Ctx), 2, 3], let h : HostHdr := { hm with ctx := c }
      HostReady h t ∧ t.mode = .safeDark ∧ t.long = none ∧ hasPerm t h.ctx 0 = true ∧ t.pwr.brownOut = false ∧ t.finals = []
        ∧ (∀ q : Port, (t.port[q]).retrainAfter = none)
        ∧ ∃ i ∈ [Iface.portA, .spi, .can], t.ifaceOf h.ctx = some i ∧ canSend t i = true ∧ t.outq[ifaceIx i] = ⟨[], []⟩ := by
  decide +kernel

/-- A HOT_SWAP under way with nothing held back by an exchange of its own, and the last bytes of the berth's image. -/
theorem meets_Completes_quiet :
    let l : LongCmd := ⟨0, 7, 0x31, 0, 0, some (8, []), none⟩
    let s : State := { device .dark with long := some l }
    s.finals = [] ∧ s.after = [] ∧ Completes s l := by decide +kernel

/-- Segments of a packet: the next, a wrong one and a second FIRST during assembly; a FIRST with another counter, a
LAST without a FIRST and a segment without either while none is assembled. -/
theorem meets_CanSegments :
    let s := { linked with can := { linked.can with asm := some [1], seg := 63 } }
    (canOn s = true ∧ s.can.asm = some [1] ∧ canOn linked = true ∧ linked.can.asm = none ∧ linked.ifaceOf 3 = some .can)
      ∧ ((0x3E : Byte).getLsbD 7 = false ∧ (0x3E : Byte).toNat % 64 ≠ s.can.seg % 64)
      ∧ ((0x3F : Byte).getLsbD 7 = false ∧ (0x3F : Byte).getLsbD 6 = false ∧ (0x3F : Byte).toNat % 64 = s.can.seg % 64)
      ∧ ((0x80 : Byte).getLsbD 7 = true ∧ (0x80 : Byte).getLsbD 6 = false ∧ (0x80 : Byte).toNat % 64 = 0)
      ∧ ((0x81 : Byte).getLsbD 7 = true ∧ (0x81 : Byte).toNat % 64 ≠ 0)
      ∧ ((0x40 : Byte).getLsbD 7 = false ∧ (0x40 : Byte).getLsbD 6 = true)
      ∧ ((0x00 : Byte).getLsbD 7 = false ∧ (0x00 : Byte).getLsbD 6 = false) := by decide +kernel

/-- TEC at the highest value that an error takes to bus-off and at the highest that stays; error-passive receive counts. -/
theorem meets_CanController_errors :
    let s := { linked with outq := linked.outq.set 3 ⟨[⟨15, false, 3, 0, 0, 0⟩], []⟩ }
    let o := s.setFld F.CANF_ERRC_TEC 248
    (canOn o = true ∧ OutputsFollow o ∧ 247 < o.fld F.CANF_ERRC_TEC ∧ ¬ canStays [.tx] o ∧ canStays [] o)
      ∧ (let p := s.setFld F.CANF_ERRC_TEC 247
         canStays [.tx] p ∧ p.finals = [] ∧ p.after = [] ∧ ∀ q : Port, (p.port[q]).retrainAfter = none)
      ∧ (s.setFld F.CANF_ERRC_REC 128).fld F.CANF_ERRC_REC > 127 := by decide +kernel

/-- Training with and without LANEPLL, one asked for by this side with its ADAPT pending; lane 1 of a two-lane port. -/
theorem meets_PortTraining_pll :
    let s := (port0 1 false).setReg 0x10000 0x7F
    let u := (port0 1 false).setReg 0x10000 0x7B
    let a := s.updPort 0 fun q => { q with retrainReq := true, adapt := true }
    let l := (s.setBit (F.LINK_LANE_LOCK 0 0) true)
    (pllLocked s 2 = true ∧ pllLocked u 2 = false ∧ s.after = [] ∧ OutputsFollow s ∧ OutputsFollow a ∧ OutputsFollow l)
      ∧ (s.bit (F.LINK_PCFG_LANES 0) = true ∧ s.fld (F.LINK_PSTAT_STATE 0) = 1 ∧ (s.port[(0 : Port)]).retrainReq = false)
      ∧ ((a.port[(0 : Port)]).retrainReq = true ∧ (a.port[(0 : Port)]).adapt = true)
      ∧ (l.bit (F.LINK_LANE_LOCK 0 1) = false ∧ l.bit (F.LINK_LANE_LOCK 0 0) = true)
      ∧ ((s.setBit (F.LINK_PCFG_LANES 0) false).bit (F.LINK_PCFG_LANES 0) = false)
      ∧ s.bit (F.LINK_PCFG_EN 0) = true := by decide +kernel

/-- Loss of lock on an idle return lane; a lane in WAIT; the end of an idle state at a port whose contexts are told. -/
theorem meets_PortLockAndIdle_retIdle :
    let s := (port0 2 false).setBit (F.LINK_PSTAT_RET_IDLE 0) true
    OutputsFollow s ∧ s.bit (F.LINK_PSTAT_RET_IDLE 0) = true ∧ s.fld (F.LINK_PSTAT_STATE 0) = 2 ∧ s.ifaceOf 0 = some .portA
      ∧ OutputsFollow (port0 4 false) ∧ (port0 4 false).fld (F.LINK_PSTAT_STATE 0) = 4 := by decide +kernel

/-- DO below the limit of VDD_AON; RECOV of BE-A gated; LINK_PCFG with and without a response on the interface. -/
theorem meets_RegisterCommands_held :
    let s := device .dark
    let b := { s with pwr := { s.pwr with brownOut := true } }
    let f := settle { s with engA := { s.engA with role := .failed, gated := true } }
    let q := { s with outq := s.outq.set 0 ⟨[], [⟨0, [1, 2, 3, 4]⟩]⟩ }
    (writeReady 0 8 0xC301 b ∧ b.pwr.brownOut = true)
      ∧ (writeReady 0 0x120000 (f.reg 0x120000 ||| 0x20000000) f ∧ f.engA.gated = true)
      ∧ (writeReady 0 0x50000 ((s.reg 0x50000 ^^^ 0x10000) ||| 1) s ∧ s.ifaceOf 0 = some .portA ∧ (s.outq[ifaceIx .portA]).resps.length = 0)
      ∧ (writeReady 0 0x50000 ((q.reg 0x50000 ^^^ 0x10000) ||| 1) q ∧ (q.outq[ifaceIx .portA]).resps.length ≠ 0) := by
  decide +kernel

/-- Below the limit of VDD_AON: a failed wake, and RESET_N; WAKE itself, which a brown-out ends in SAFE-DARK. -/
theorem meets_PowerUp_brownOut :
    let w := device .wake
    let w := { w with pwr := { w.pwr with railsUp := 8, brownOut := true } }
    let d := { device .dark with pwr := { (device .dark).pwr with brownOut := true } }
    (w.mode = .wake ∧ w.pwr.railsUp = 8 ∧ w.pwr.inReset = false ∧ w.bit F.CLK_STAT_XTAL_OK = false ∧ w.pwr.brownOut = true)
      ∧ (d.pwr.brownOut = true ∧ d.mode ≠ .off ∧ d.mode ≠ .sleep ∧ (100 ≤ 100 ∧ 999 < 1000 ∧ 1000 ≤ 1000))
      ∧ ((device .wake).pwr.brownOut = false ∧ (device .wake).mode ≠ .off ∧ (device .wake).mode ≠ .sleep
          ∧ (device .wake).mode.dieOn = false) := by decide +kernel

/-- BOOT with a device lock-out that AON_MODE holds. -/
theorem meets_BootRuns_locked :
    let s := (device .boot).setBit F.AON_MODE_LOCKED true
    let s := { s with pwr := { s.pwr with bootDue := true } }
    s.mode = .boot ∧ s.pwr.inReset = false ∧ s.pwr.bootDue = true ∧ s.bit F.AON_MODE_LOCKED = true
      ∧ (device .boot).bit F.AON_MODE_LOCKED = false ∧ s.cal.zone = none ∧ s.after = []
      ∧ ∀ i : Fin 4, s.rxF[i] = [] ∧ s.rxM[i] = [] := by decide +kernel

/-- Each loop lost, with the other of its kind locked; a loop that relocks, with a recovery of each side waiting for it;
a clock that stands still at each multiplexer. -/
theorem meets_Clocks_waits :
    let s := (device .dark).setReg 0x10000 0x7F
    let w (i : Nat) (e : Side) : State :=
      let s := (device .dark).setReg 0x10000 (0x7F ^^^ BitVec.ofNat 32 (2 ^ i))
      let s := s.updEng e fun g => { g with role := .failed, gated := true }
      { s with dplx := { s.dplx with relockWait := [(unitOfSide e, false)] } }
    (s.mode.dieOn = true ∧ s.pwr.inReset = false ∧ (∀ i < 7, pllLocked s i = true) ∧ s.bound 0 = true)
      ∧ (∀ x ∈ [(0, Side.a), (3, .a), (1, .b), (4, .b)], pllLocked (w x.1 x.2) x.1 = false
          ∧ (w x.1 x.2).dplx.relockWait = [(unitOfSide x.2, false)] ∧ ((w x.1 x.2).eng x.2).role = .failed
          ∧ (w x.1 x.2).cal.zone = none ∧ ((x.1 = sideIx x.2 ∧ pllLocked (w x.1 x.2) (3 + sideIx x.2) = true)
            ∨ (x.1 = 3 + sideIx x.2 ∧ pllLocked (w x.1 x.2) (sideIx x.2) = true)))
      ∧ (let n := (device .dark).setReg 0x10000 0
         n.dplx.relockWait = [] ∧ n.cal.zone = none ∧ pllLocked n 5 = false
           ∧ newClockRuns n .seqclk = false ∧ newClockRuns s .seqclk = true) := by decide +kernel

/-- SINH samples in WAKE, in a reset and while BOOT is due, which time no difference; in DARK, where they do. -/
theorem meets_InhibitInputs_timed :
    let timed (s : State) : Prop := s.mode.dieOn = true ∧ s.pwr.inReset = false ∧ ¬ (s.mode = .boot ∧ s.pwr.bootDue = true)
    let b : State := { device .boot with pwr := { (device .boot).pwr with bootDue := true } }
    let r : State := { device .dark with pwr := { (device .dark).pwr with inReset := true } }
    timed (device .dark) ∧ ∀ s ∈ [device .wake, b, r], ¬ timed s ∧ s.mode ≠ .off ∧ s.mode ≠ .sleep := by
  simp only [List.forall_mem_cons]
  refine ⟨?_, ?_, ?_, ?_, fun _ h => nomatch h⟩ <;> decide +kernel

/-- A strap check in BOOT, in WAKE, and while the safety core restarts; the watchdog then, which is judged. -/
theorem meets_SafetyCore_restart :
    let s := (device .dark).setFld F.SAFE_CORE_STATE 1
    let l := (settle (((device .dark).setBit F.SAFE_STAT_ARCH_LEGACY true).setFld F.SAFE_LEGACY_Q 1)).setFld F.SAFE_CORE_STATE 1
    s.fld F.SAFE_CORE_STATE ≠ 0 ∧ (device .wake).mode.dieOn = false ∧ (device .boot).mode = .boot
      ∧ (l.mode.dieOn = true ∧ l.pwr.inReset = false ∧ l.bit F.SAFE_STAT_ARCH_LEGACY = true ∧ l.fld F.SAFE_LEGACY_Q ≠ 0
          ∧ l.fld F.SAFE_CORE_STATE ≠ 2 ∧ l.fld F.SAFE_LEGACY_QA_CONSEC < 2)
      ∧ (l.setFld F.SAFE_CORE_STATE 2).fld F.SAFE_CORE_STATE = 2 := by decide +kernel

/-- LOWLIGHT with zone 0 not permitted and permitted: the lanes of the first stay idle. -/
def lowlight : State := (device .lowlight).setFld F.SAFE_CFG_LL_ZMASK 0xFFFE

theorem meets_ForwardPackets_idle :
    (idleLane lowlight 0 ∧ ¬ idleLane lowlight 1 ∧ ¬ idleLane (device .beam) 0 ∧ ¬ idleLane (back 1) 0)
      ∧ takesFrom lowlight .a = true ∧ lowlight.fld (F.TLNK_LANE_STATE 0 1) ≠ 3 ∧ (∀ y : Zone, lowlight.stk.orders[y] = none)
      ∧ (let s : State := { back 0 with stk := { (back 0).stk with sclkLost := true } }
         takesFrom s .a = true ∧ s.tl.newSel = false ∧ s.stk.sclkLost = true ∧ s.stk.orders[(0 : Zone)] = none) := by
  decide +kernel

/-- A record of each kind in its turn and out of it; LSTAT of an idle lane; the lane judged and the other. -/
theorem meets_ReturnRecords_turn :
    let s (r : Record) : State := { device .beam with stk := { (device .beam).stk with rtn := .replicate 2 [r] } }
    let i (r : Record) : State := { lowlight with stk := { lowlight.stk with rtn := .replicate 2 [r] } }
    let r (k : Nat) := mkRecord k 0 9 1 [0, 0, 0, 0]
    (∀ k ∈ [1, 2, 3, 4, 5, 6, 7], recordOk (r k) = true ∧ (s (r k)).stk.rtn[rtnIx .rtn0] = r k :: []
        ∧ (r k).kind = BitVec.ofNat 8 k)
      ∧ ((s (r 1)).stk.rtn[rtnIx .rtn0] = r 1 :: [] ∧ (r 1).kind ≠ (r 2).kind)
      ∧ ((device .beam).stk.rtn[rtnIx .rtn0] = [])
      ∧ (judgeLane (i (r 7)) = .rtn0 ∧ idleLane (i (r 7)) (zoneOfRec (r 7)) ∧ ¬ idleLane (s (r 7)) (zoneOfRec (r 7))
          ∧ ((s (r 7)).eng .a).powered = true) := by decide +kernel

/-- The lane's state, as REF, CALRUN and ISTLAST find it in CALIBRATE, with zone 0's window not idle. -/
theorem meets_ZoneCommands_idle :
    let k := zcmd 1 16383 1 [63, 0, 0, 0]
    zcmdOk k = true ∧ ¬ idleLane (device .calibrate) 0 ∧ idleLane lowlight 0 ∧ takesFrom lowlight .a = true := by decide +kernel

/-- The SCLK row with an order in the window and with none, either way; an idle lane that loses lock; local ticks. -/
theorem meets_LanesAndStackTimers_sclk :
    let s := device .beam
    let o (lost : Bool) : State := { s with stk := { s.stk with sclkLost := lost, localTick := lost, orders := s.stk.orders.set 0 (some (orderOf 1)) } }
    (∃ y : Zone, (o true).stk.orders[y] ≠ none) ∧ (o true).stk.sclkLost = true ∧ (o false).stk.sclkLost = false
      ∧ (s.stk.powered = true ∧ (∀ y : Zone, s.stk.orders[y] = none) ∧ s.stk.localTick = false ∧ (o true).stk.localTick = true)
      ∧ (idleLane lowlight 0 ∧ lowlight.stk.powered = true ∧ (lowlight.eng .a).powered = true)
      ∧ ((s.eng .a).role = .active ∧ (s.eng .b).role = .standby) := by decide +kernel

/-- A transaction that waits with a higher one queued, and one to a bus that is not driven. -/
theorem meets_PmbusAttempts_waits :
    let s := device .dark
    let q : State := { s with rail := { s.rail with statusDue := [.zone 15], queued := s.rail.queued.set (busOf (.zone 15)) [⟨.zone 15, 0x79, 0⟩] } }
    admitted q (.zone 15) 0x8C = false ∧ admitted q (.zone 15) 0x79 = true ∧ admitted State.reset (.zone 15) 0x21 = false := by
  decide +kernel

/-- A write given up, one of a sequence, one to a regulator that feeds no zone; the polls of each sequence. -/
theorem meets_ZoneTransactions_stages :
    let w : RailWrite := { write0 with acked := false }
    let d : State := railed .dark { wr := some { w with dropped := true } }
    let g : State := railed .dark { seq := .bringup, stage := .write, wr := some w }
    let n : State := railed .dark { wr := some w }
    let p (q : RailSeq) (good : Bool) : State := railed .dark { seq := q, stage := .poll, wr := some write0, pgood := good, reqB := true }
    (admitted d (.zone 15) 0x21 = true ∧ (d.rail.z[(15 : Zone)]).wr = some { w with dropped := true })
      ∧ (admitted g (.zone 15) 0x21 = true ∧ (g.rail.z[(15 : Zone)]).seq ≠ .none ∧ (g.rail.z[(15 : Zone)]).stage = .write)
      ∧ (admitted n (.zone 15) 0x21 = true ∧ zenLow n 15 = false ∧ (n.rail.z[(15 : Zone)]).wr = some w ∧ w.dropped = false)
      ∧ (∀ q ∈ [RailSeq.bringup, .release, .retry], ∀ b : Bool, admitted (p q b) (.zone 15) 0x8B = true
          ∧ admitted (p q b) (.zone 15) 0x79 = true ∧ ((p q b).rail.z[(15 : Zone)]).wr = some write0
          ∧ ((p q b).rail.z[(15 : Zone)]).stage = .poll ∧ ((p q b).rail.z[(15 : Zone)]).seq = q
          ∧ ((p q b).rail.z[(15 : Zone)]).pgood = b ∧ zenLow (p q b) 15 = true)
      ∧ ((p .bringup true).rail.z[(15 : Zone)]).faulty = false ∧ railState (p .bringup true) 15 = 0 := by decide +kernel

/-- VOUT_COMMAND and OPERATION of a logic rail at their steps of WAKE, and OPERATION elsewhere. -/
theorem meets_LogicRails_steps :
    let w (n : Nat) := { device .wake with rail := { (device .wake).rail with logicStep := n } }
    (∀ n ∈ [1, 2], (w n).mode = .wake ∧ (w n).pwr.railsUp = (0 : Fin 8).val ∧ (w n).rail.logicStep = n
        ∧ admitted (w n) (.logic 0) 0x21 = true ∧ admitted (w n) (.logic 0) 0x01 = true)
      ∧ (device .dark).mode ≠ .wake ∧ admitted (device .dark) (.logic 0) 0x01 = true := by decide +kernel

/-- A settle failure of a retry that polls, acknowledged or not, and of a sequence; an alert of a driven bus; a zone
whose target has come down from 500 counts. -/
theorem meets_RailMonitors_stages :
    let r (q : RailSeq) (st : SeqStage) (w : RailWrite) : State := railed .dark { seq := q, stage := st, wr := some w }
    let m : State := railed .dark { movedFrom := 500 }
    (∀ a : Bool, polling ((r .retry .poll { write0 with acked := a }).rail.z[(15 : Zone)]) = .retry)
      ∧ (∀ q ∈ [RailSeq.bringup, .release], polling ((r q .poll write0).rail.z[(15 : Zone)]) = q)
      ∧ (polling ((r .bringup .write { write0 with late := true }).rail.z[(15 : Zone)]) = .none)
      ∧ (polling ((r .none .waits write0).rail.z[(15 : Zone)]) = .none)
      ∧ (∀ b : Fin 3, busDriven (device .dark) b = true ∧ busDriven State.reset b = false)
      ∧ ((m.rail.z[feeder m 15]).movedFrom = 500 ∧ 20 * 500 * 11 < 11001 * 10 ∧ 20 * 500 + 1000 < 11001 ∧ isLocked m 15 = false) := by
  decide +kernel

/-! ### Witnesses: what a tick latches and changes -/

/-- `ticking` with C0's set committed for frame `f`. -/
def committed (f : Word) (x : Shadow) : State :=
  ticking.updCtx 0 fun k => { k with commit := some ⟨f, true, x⟩ }

/-- A set with a word, a layer taken and one released, and angles, due now and at the next tick. -/
theorem meets_CommitsApply :
    let x : Shadow := { words := [(0x100000, some 0x0096646E)], layers := [(0, layerBytes 16 0), (15, layerBytes 32 15)], pitchYaw := some (600, 1800) }
    let s := committed (nextFrame ticking) x
    quietTick s ∧ calm s ∧ (s.ctx[(0 : Ctx)]).commit = some ⟨nextFrame ticking, true, x⟩ ∧ nextFrame s = nextFrame ticking
      ∧ (∀ d : Ctx, d ≠ 0 → (s.ctx[d]).commit = none) ∧ s.bound 0 = true
      ∧ ((x.words.map Prod.fst).Nodup ∧ (x.layers.map Prod.fst).Nodup)
      ∧ ((byteAt (layerBytes 32 15) 0).getLsbD 5 = true ∧ (byteAt (layerBytes 16 0) 0).getLsbD 5 = false)
      ∧ (let l := committed (nextFrame ticking + 1) {}
         quietTick l ∧ calm l ∧ (l.ctx[(0 : Ctx)]).commit = some ⟨nextFrame ticking + 1, true, {}⟩
           ∧ nextFrame ticking + 1 ≠ nextFrame l) := by decide +kernel

/-- Lists of 128 entries together and of 129; fades at their last step and before it, linear and logarithmic, and one
committed for the next frame. -/
theorem meets_ListsAndFades :
    let lists (a b : Nat) : State := (ticking.updCtx 0 fun k => { k with objNew := some (List.replicate a ⟨List.replicate 16 0⟩) }).updCtx 3
      fun k => { k with objList := List.replicate b ⟨List.replicate 16 0⟩ }
    let total (s : State) : Nat := (allCtx.map fun c => (match (s.ctx[c]).objNew with | some l => l | none => (s.ctx[c]).objList).length).sum
    let faded (i : Nat) (log : Bool) : State := { ticking with ffn := { ticking.ffn with fade := ticking.ffn.fade.set 15 (some ⟨65535, 0, 100, i, log, 0, false⟩) } }
    let due (n : Nat) : State := committed (nextFrame ticking) { fades := [(15, some ⟨0, n, false, true⟩)] }
    (quietTick (lists 64 64) ∧ calm (lists 64 64) ∧ total (lists 64 64) = 128 ∧ quietTick (lists 64 65) ∧ total (lists 64 65) = 129)
      ∧ (∀ log : Bool, ∀ i ∈ [98, 99], quietTick (faded i log) ∧ calm (faded i log) ∧ (faded i log).bound 0 = true
          ∧ (faded i log).ffn.fade[(15 : Zone)] = some ⟨65535, 0, 100, i, log, 0, false⟩)
      ∧ (∀ c : Ctx, (ticking.ctx[c]).commit = none) ∧ ticking.ffn.fade[(0 : Zone)] = none
      ∧ (∀ n ∈ [1, 2], quietTick (due n) ∧ calm (due n) ∧ nextFrame (due n) = nextFrame ticking
          ∧ (∀ d : Ctx, d ≠ 0 → ((due n).ctx[d]).commit = none)) := by decide +kernel

/-- Each mode asked for, prepared and, where something is to prepare, not; with a final record to send. -/
theorem meets_RequestedModeIsEntered :
    let l : LongCmd := ⟨0, 7, 0x30, 0, 0, none, none⟩
    let asked (m n : Mode) (up : Bool) : State := { device m with
      seq := ticking.seq, long := some l, rail := { (device m).rail with z := .replicate 16 { up := up } }
      pwr := { (device m).pwr with req := some ⟨n, 0⟩ } }
    let low (up : Bool) : State := (asked .dark .lowlight up).setFld F.SAFE_CFG_LL_ZMASK 0x8000
    let held : State := { asked .lowlight .beam true with dplx := { (device .lowlight).dplx with loading := 2 } }
    (∀ n ∈ [Mode.dark, .service, .calibrate, .beam], let s := asked .beam n true
      quietTick s ∧ calm { s with pwr := { s.pwr with req := none } } ∧ s.pwr.req = some ⟨n, 0⟩ ∧ s.long = some l
        ∧ s.finals = [] ∧ unsent s l.ctx < 32 ∧ s.ifaceOf l.ctx = some .portA)
      ∧ (quietTick (low true) ∧ calm { low true with pwr := { (low true).pwr with req := none } }
          ∧ ((low true).fld F.SAFE_CFG_LL_ZMASK).testBit (15 : Zone).val = true ∧ ((low true).rail.z[(15 : Zone)]).up = true)
      ∧ (quietTick (low false) ∧ ((low false).rail.z[(15 : Zone)]).up = false ∧ ((low false).rail.z[(15 : Zone)]).faulty = false
          ∧ isStranded (low false) 15 = false ∧ isLocked (low false) 15 = false)
      ∧ (quietTick held ∧ held.dplx.loading &&& unitBit (unitOfSide .b) ≠ 0) := by decide +kernel

theorem meets_FailoverTick :
    ∀ m ∈ [Mode.beam, .lowlight], let s : State := { device m with seq := ticking.seq, dplx := { (device m).dplx with fo := some 15 } }
      s.seq.running = true ∧ s.mode.dieOn = true ∧ calm { s with dplx := { s.dplx with fo := none } } ∧ s.dplx.fo = some 15
        ∧ s.withRole .standby = some .b := by decide +kernel

theorem meets_TickThrottles :
    let s := ticking
    quietTick s ∧ calm s ∧ s.fld F.THRM_STAT_THR_ZONES = 0
      ∧ (∀ z : Zone, -3355443 ≤ s.therm.tj[z] ∧ s.therm.tj[z] ≤ 3355340) := by decide +kernel

/-- A quiet tick, and one that brings a frame in with a rail whose need falls by DOWN_HYST and by less. -/
theorem meets_TickMovesRails :
    let b : ZoneBack := { frm := some 1, tiles := (List.range 32).map fun i => (i, []) }
    let s (v : Nat) : State := { (ticking.setFld (F.RAIL_ZREQ_TARGET 15) 1000) with
      stk := { ticking.stk with orders := .replicate 16 (some (orderOf 1)), back := .replicate 16 b }
      rail := { ticking.rail with z := ticking.rail.z.set 15 { reqNext := some v } } }
    let h := ticking.fld F.RAIL_CTRL_DOWN_HYST
    (quietTick ticking ∧ ∀ y : Zone, (ticking.rail.z[y]).back = false ∧ ¬ ((ticking.rail.z[y]).seq = .bringup ∧ (ticking.rail.z[y]).stage = .waits))
      ∧ (0 < h ∧ h < 1000)
      ∧ ∀ v ∈ [1000 - h, 1001 - h], (s v).seq.running = true ∧ calm (s v) ∧ (s v).stk.powered = true ∧ (s v).stk.sclkLost = false
          ∧ (∀ y : Zone, (s v).stk.orders[y] = some (orderOf 1)) ∧ (∀ y : Zone, ((s v).stk.back[y]).tiles.length = 32)
          ∧ (s v).mode = .beam ∧ isStranded (s v) 15 = false ∧ isCrossed (s v) 15 = false ∧ isCrossed (s v) (partner 15) = false
          ∧ ((s v).rail.z[(15 : Zone)]).seq = .none ∧ ((s v).rail.z[(15 : Zone)]).reqNext = some v
          ∧ (v = 1000 - h → v + h ≤ (s v).fld (F.RAIL_ZREQ_TARGET 15)) := by decide +kernel

theorem meets_LegacyComparison :
    let s := ticking.setBit F.SAFE_STAT_ARCH_LEGACY true
    let n : State := { s with safe := { s.safe with cmpRun := 1 } }
    quietTick s ∧ calm s ∧ s.bit F.SAFE_STAT_ARCH_LEGACY = true ∧ s.safe.cmpRun = 0 ∧ quietTick n ∧ calm n ∧ n.safe.cmpRun = 1 := by
  decide +kernel

/-- Holdover with four equal intervals but one, so that the next edge makes them agree or not. -/
theorem meets_FsyncAndDeadline_holdover :
    let s := ticking.setFld F.SEQ_LOCKSTAT_STATE 3
    let h (n : Nat) : State := { s with seq := { s.seq with lastEdge := some 5, intervals := [n, n, n] } }
    let res := resOf s
    s.fld F.SEQ_LOCKSTAT_STATE = 3 ∧ (h 416667).seq.intervals.length = 3 ∧ intervalOk res 416667 = true
      ∧ (h 416667).seq.lastEdge = some 5 ∧ intervalOk (resOf (h 416667)) (416672 - 5) = true := by decide +kernel

/-- A window without an order, which reads the signature and judges nothing. -/
theorem meets_GuardWindowOrders_noOrder :
    let env : GuardEnv := ⟨[(15, some 7)], [], []⟩
    let s := { ticking with diag := { ticking.diag with zcrcShown := .replicate 16 (some 8) } }
    s.seq.order = none ∧ s.seq.running = true ∧ s.seq.started = true ∧ s.stk.powered = true
      ∧ env.dsig.find? (fun e => e.1 = (15 : Zone).val) = some (15, some 7) ∧ s.diag.zcrcShown[(15 : Zone)] = some 8
      ∧ (idleLane { lowlight with seq := ticking.seq } 0 ∧ ¬ idleLane s 0) := by decide +kernel

/-- A zone in calibration that is dark, and one that is not yet. -/
theorem meets_OffPulse_calibration :
    let s (d : Bool) : State := { lit.setBit F.SAFE_OPT_EN true with cal := { lit.cal with zone := some 15, dark := d } }
    (s true).cal.zone = some 15 ∧ (s true).cal.dark = true ∧ ¬ ((s false).cal.zone = some 15 ∧ (s false).cal.dark = true)
      ∧ (s true).bit F.SAFE_OPT_EN = true ∧ isCrossed (s true) 15 = false := by decide +kernel

/-- An element that waits because it is not sampled, and one confirmed by a second sample. -/
theorem meets_TripsAndReadback_held :
    let m : ReadbackSense := ⟨0, false, 7, true⟩
    let s : State := { lit with stk := { lit.stk with rbPend := [m], tileState := [(0, 3)] } }
    isSampled s 0 m = false ∧ m ∈ s.stk.rbPend ∧ s.stk.rbPend.any (sameElem m) = true
      ∧ (s.stk.powered = true ∧ s.seq.running = true ∧ s.seq.started = true) := by decide +kernel

/-- Units whose side's clocks are gated; a FAILED engine, which sends no beacons; a path that is missing already. -/
theorem meets_BeaconsAndFailures_gated :
    let s := device .beam
    let g := (s.updEng .a fun x => { x with gated := true })
    let f := (s.updEng .a fun x => { x with role := .failed })
    (unitGated g .beA = true ∧ unitGated s .beA = false ∧ unitSide .beA = some .a ∧ ¬ ((f.eng .a).role ≠ .failed))
      ∧ (let t : State := { g with dplx := { g.dplx with testing := 0xF, loading := 0xF } }
         unitGated t .beA = true ∧ t.dplx.testing &&& 1 ≠ 0 ∧ t.dplx.loading &&& 1 ≠ 0) := by decide +kernel

/-- The copier with units that wait, a final phase of a harbourmaster while none is ACTIVE, a restart while it copies. -/
theorem meets_Resynchronisation_queue :
    let s := device .beam
    let r (u : UnitNo) (q again : List UnitNo) : State := { s.setFld F.DPLX_STAT_RS_PHASE 2 with
      dplx := { s.dplx with rsUnit := some u, rsQueue := q, rsAgain := again } }
    let n : State := { r .hmB [] [] with dplx := { (r .hmB [] []).dplx with hmA := .failed, hmB := .coldStarting } }
    ((r .hmB [.beB] []).dplx.rsUnit = some .hmB ∧ (r .hmB [.beB] []).fld F.DPLX_STAT_RS_PHASE = 2
        ∧ (r .hmB [.beB] []).dplx.rsDone = false ∧ unitSide .hmB = none ∧ (r .hmB [.beB] []).dplx.plan[unitIx .hmB] ≠ .arbStandby
        ∧ noHm (r .hmB [.beB] []) = false ∧ UnitNo.hmB ∉ (r .hmB [.beB] []).dplx.rsQueue)
      ∧ (noHm n = true ∧ n.dplx.rsUnit = some .hmB) ∧ (r .beA [] [.beB]).dplx.rsAgain = .beB :: [] := by decide +kernel

/-- A pad reading out of range and a die reading out of range, neither failed before. -/
theorem meets_TemperaturesAndModel_event :
    let s := device .dark
    ¬ (-550 ≤ (-551 : Int) ∧ (-551 : Int) ≤ 1500 ∧ ((-551 : Int) - s.therm.padPrev).natAbs ≤ 100)
      ∧ s.bit F.THRM_STAT_PAD_FAIL = false ∧ s.bit F.THRM_STAT_DIE_FAIL = false
      ∧ (-550 ≤ (1750 : Int) ∧ ¬ (-550 ≤ (1751 : Int) ∧ (1751 : Int) ≤ 1750)) := by decide +kernel

end Sys2Proof.Tests
end

/-! PROOFS. Scalar arithmetic (R188), scalar memory (R190), vector compares, reductions and predicate instructions
(R192 to R194). -/

namespace Sys2Proof.Machine

/-! ### One Molia instruction that completes -/

/-- An instruction whose body answers a change of its own cluster completes with it, retired, at the end of the
step. -/
theorem exec_of_done {e : Side} {c : Cluster} {n : Nat} {i : Instr} {x : EngEcc} {legal : Bool} {body : State → MolRes}
    {s v : State} {g : ClusterState → ClusterState}
    (hx : exec i s = molia e c n i x legal body s) (hm : MolReady e c n i s) (hl : legal = true)
    (hb : body (countPm e n x s) = .done (v.updCl e c g) none) :
    exec i s = .next (settle (flushEvents (v.updCl e c fun k => (g k).after ((s.cluster e c).pc + n)))) := by
  rw [hx, molia_done hm hl hb (by simp), updCl_updCl]
  rfl

/-- The same where the change `g'` follows an effect `h` that leaves the cluster as it is: in place of `g'` any change
that agrees with it on the cluster describes the next state. -/
theorem runs_of_done {e : Side} {c : Cluster} {n : Nat} {i : Instr} {x : EngEcc} {legal : Bool} {body : State → MolRes}
    {s : State} {h : State → State} {g g' : ClusterState → ClusterState}
    (hx : exec i s = molia e c n i x legal body s) (hl : legal = true)
    (hb : body (countPm e n x s) = .done ((h (countPm e n x s)).updCl e c g') none)
    (hh : (h (countPm e n x s)).cluster e c = s.cluster e c) (hg : g' (s.cluster e c) = g (s.cluster e c)) :
    Runs e c n i x s fun u => (h u).updCl e c fun k => (g k).after (k.pc + n) := by
  intro hm
  unfold Ends
  rw [exec_of_done hx hm hl hb]
  congr 3
  apply updCl_congr
  rw [hh, hg]

/-- An instruction that changes its own cluster alone. -/
theorem runs_of_local {e : Side} {c : Cluster} {n : Nat} {i : Instr} {x : EngEcc} {legal : Bool} {body : State → MolRes}
    {s : State} {g g' : ClusterState → ClusterState} (hx : exec i s = molia e c n i x legal body s) (hl : legal = true)
    (hb : body (countPm e n x s) = .done ((countPm e n x s).updCl e c g') none)
    (hg : g' (s.cluster e c) = g (s.cluster e c)) :
    Runs e c n i x s fun u => u.updCl e c fun k => (g k).after (k.pc + n) :=
  runs_of_done (h := id) hx hl hb (cluster_countPm ..) hg

/-! ### Scalar arithmetic (R188) -/

/-- A format S instruction of legal fields puts the value of its function in S[sd]. -/
theorem runs_scalarOp {e : Side} {c : Cluster} {i : Instr} {f : FS} {g : Word → Word → Word} {s : State}
    (hx : exec i s = scalarOp e c i f g s) (hr : f.rsv = 0) (hb : f.xi = true → f.sb = 0) :
    Runs e c (if f.xi then 2 else 1) i f.ecc s fun u => u.updCl e c fun k =>
      ((k.setS f.sd (g (k.sreg f.sa) (if f.xi then f.ext else k.sreg f.sb))).after (k.pc + if f.xi then 2 else 1)) := by
  have hl : scalarLegal f = true := by
    cases h : f.xi with
    | false => simp [scalarLegal, hr, h]
    | true => simp [scalarLegal, hr, h, hb h]
  exact runs_of_local hx hl rfl (by rw [cluster_countPm]; rfl)

/-- The low five bits of a shift operand. -/
theorem shiftAmount32 (b : Word) : b.toNat % 32 = (b.extractLsb' 0 5).toNat := by
  simp [BitVec.extractLsb'_toNat]

theorem shiftLeft_low (a b : Word) : a <<< (b.toNat % 32) = a <<< (b.extractLsb' 0 5).toNat := by
  rw [shiftAmount32]

theorem ushiftRight_low (a b : Word) : a >>> (b.toNat % 32) = a >>> (b.extractLsb' 0 5).toNat := by
  rw [shiftAmount32]

theorem sshiftRight_low (a b : Word) :
    a.sshiftRight (b.toNat % 32) = a.sshiftRight (b.extractLsb' 0 5).toNat := by
  rw [shiftAmount32]

theorem mul_eq_ofNat (a b : Word) : a * b = BitVec.ofNat 32 (a.toNat * b.toNat) :=
  BitVec.eq_of_toNat_eq (by simp)

/-- Rounding down by a positive divisor is the quotient that the table writes. -/
theorem mulhs_eq (a b : Word) :
    BitVec.ofInt 32 ((a.toInt * b.toInt).fdiv (2 ^ 32)) = BitVec.ofInt 32 (a.toInt * b.toInt / 2 ^ 32) := by
  rw [Int.fdiv_eq_ediv_of_nonneg _ (by norm_num)]

theorem truth_decide (p : Prop) [Decidable p] : truth (decide p) = if p then 1 else 0 := by
  simp [truth]

theorem truth_bne (a b : Word) : truth (a != b) = if a = b then 0 else 1 := by
  simp [truth]

/-- The least of two signed values, whichever side is asked for first. -/
theorem signedMin_eq {w : Nat} (a b : BitVec w) :
    (if a.toInt ≤ b.toInt then a else b) = if b.toInt < a.toInt then b else a := by
  simp only [← Int.not_le, ite_not]

/-- The least of two unsigned values, whichever side is asked for first. -/
theorem unsignedMin_eq {w : Nat} (a b : BitVec w) :
    (if a.toNat ≤ b.toNat then a else b) = if b < a then b else a := by
  simp only [BitVec.lt_def, ← Nat.not_le, ite_not]

/-- The greatest of two signed values: where the two questions differ, the values are equal. -/
theorem signedMax_eq {w : Nat} (a b : BitVec w) :
    (if a.toInt ≤ b.toInt then b else a) = if a.toInt < b.toInt then b else a := by
  rcases Int.lt_trichotomy a.toInt b.toInt with h | h | h
  · rw [if_pos (Int.le_of_lt h), if_pos h]
  · rw [BitVec.eq_of_toInt_eq h, ite_self, ite_self]
  · rw [if_neg (Int.not_le.mpr h), if_neg (Int.lt_asymm h)]

/-- The greatest of two unsigned values: where the two questions differ, the values are equal. -/
theorem unsignedMax_eq {w : Nat} (a b : BitVec w) :
    (if a.toNat ≤ b.toNat then b else a) = if a < b then b else a := by
  simp only [BitVec.lt_def]
  rcases Nat.lt_trichotomy a.toNat b.toNat with h | h | h
  · rw [if_pos (Nat.le_of_lt h), if_pos h]
  · rw [BitVec.eq_of_toNat_eq h, ite_self, ite_self]
  · rw [if_neg (Nat.not_le.mpr h), if_neg (Nat.lt_asymm h)]

/-- A row that carries out one function carries out every function equal to it. -/
theorem scalarRow {i : Side → Cluster → FS → Instr} {g r : Word → Word → Word} (h : ∀ a b, g a b = r a b)
    (hx : ∀ e c f s, exec (i e c f) s = scalarOp e c (i e c f) f g s) :
    ∀ e c f s, exec (i e c f) s = scalarOp e c (i e c f) f r s := by
  rwa [← funext₂ h]

/-- Every row of R188 carries out the function that the table gives it. -/
theorem exec_scalarTable : ∀ p ∈ scalarTable, ∀ e c f s, exec (p.1 e c f) s = scalarOp e c (p.1 e c f) f p.2 s := by
  simp only [scalarTable, List.forall_mem_cons]
  exact ⟨
    fun _ _ _ _ => rfl, -- SADD
    fun _ _ _ _ => rfl, -- SSUB
    fun _ _ _ _ => rfl, -- SAND
    fun _ _ _ _ => rfl, -- SOR
    fun _ _ _ _ => rfl, -- SXOR
    scalarRow shiftLeft_low fun _ _ _ _ => rfl, -- SSHL
    scalarRow ushiftRight_low fun _ _ _ _ => rfl, -- SSHRU
    scalarRow sshiftRight_low fun _ _ _ _ => rfl, -- SSHRS
    scalarRow mul_eq_ofNat fun _ _ _ _ => rfl, -- SMUL
    fun _ _ _ _ => rfl, -- SMULHU
    scalarRow mulhs_eq fun _ _ _ _ => rfl, -- SMULHS
    scalarRow signedMin_eq fun _ _ _ _ => rfl, -- SMIN
    scalarRow signedMax_eq fun _ _ _ _ => rfl, -- SMAX
    scalarRow unsignedMin_eq fun _ _ _ _ => rfl, -- SMINU
    scalarRow unsignedMax_eq fun _ _ _ _ => rfl, -- SMAXU
    scalarRow (fun a b => truth_decide (a.toInt < b.toInt)) fun _ _ _ _ => rfl, -- SSLT
    scalarRow (fun a b => truth_decide (a < b)) fun _ _ _ _ => rfl, -- SSLTU
    scalarRow (fun a b => truth_decide (a = b)) fun _ _ _ _ => rfl, -- SSEQ
    scalarRow truth_bne fun _ _ _ _ => rfl, -- SSNE
    fun _ h => absurd h List.not_mem_nil⟩

/-- Settles O8: every row carries out the function of its table row, and a format S instruction completes with its
function's value. -/
theorem scalarArithmetic : Obligations.ScalarArithmetic := by
  intro p hp e c f s hr hb
  exact runs_scalarOp (exec_scalarTable p hp e c f s) hr hb

/-! ### Scalar memory (R190) -/

/-- The bytes of scratch and of the latch page are no control registers. -/
@[simp] theorem scrByte_addFld (s : State) (g : Fld) (n : Nat) (e : Side) (c : Cluster) (a : Nat) :
    scrByte (s.addFld g n) e c a = scrByte s e c a := by
  simp [scrByte]

@[simp] theorem scrNat_addFld (s : State) (g : Fld) (n : Nat) (e : Side) (c : Cluster) (a m : Nat) :
    scrNat (s.addFld g n) e c a m = scrNat s e c a m := by
  simp [scrNat]

@[simp] theorem scrNat_countPm (s : State) (e' : Side) (w : Nat) (x : EngEcc) (e : Side) (c : Cluster) (a m : Nat) :
    scrNat (countPm e' w x s) e c a m = scrNat s e c a m := scrNat_addFld ..

@[simp] theorem scrNat_countScr (s : State) (e' : Side) (b w k : Nat) (e : Side) (c : Cluster) (a m : Nat) :
    scrNat (countScr e' b w k s) e c a m = scrNat s e c a m := scrNat_addFld ..

@[simp] theorem scrByte_countPm (s : State) (e' : Side) (w : Nat) (x : EngEcc) (e : Side) (c : Cluster) (a : Nat) :
    scrByte (countPm e' w x s) e c a = scrByte s e c a := scrByte_addFld ..

@[simp] theorem scrByte_countScr (s : State) (e' : Side) (b w k : Nat) (e : Side) (c : Cluster) (a : Nat) :
    scrByte (countScr e' b w k s) e c a = scrByte s e c a := scrByte_addFld ..

@[simp] theorem cluster_countScr (s : State) (e' : Side) (a n k : Nat) (e : Side) (c : Cluster) :
    (countScr e' a n k s).cluster e c = s.cluster e c := cluster_addFld ..

/-- The bytes at an address after a step are those the command left. -/
@[simp] theorem scrByte_finish (s : State) (e : Side) (c : Cluster) (a : Nat) :
    scrByte (settle (flushEvents s)) e c a = scrByte s e c a := by
  simp [scrByte]

/-- Ranges of which one ends before the other begins do not meet. -/
theorem meets_eq_false {a n b m : Nat} (h : b + m ≤ a ∨ a + n ≤ b) : meets a n b m = false := by
  simp only [meets, Bool.and_eq_false_iff, decide_eq_false_iff_not]
  omega

/-- A load that no tug entry writes under does not stall. -/
theorem loadStalls_eq_false {k : ClusterState} {a n : Nat} (h : ∀ t ∈ k.tugs, t.dst + t.len ≤ a ∨ a + n ≤ t.dst) :
    loadStalls k a n = false :=
  List.any_eq_false.mpr fun t ht => by rw [meets_eq_false (h t ht)]; exact Bool.false_ne_true

/-- A store that no tug entry writes or copies from under does not stall. -/
theorem storeStalls_eq_false {k : ClusterState} {a n : Nat}
    (h : ∀ t ∈ k.tugs, (t.dst + t.len ≤ a ∨ a + n ≤ t.dst) ∧ (t.berth = none → t.src + t.len ≤ a ∨ a + n ≤ t.src)) :
    storeStalls k a n = false := by
  refine List.any_eq_false.mpr fun t ht => ?_
  obtain ⟨hd, hs⟩ := h t ht
  rw [meets_eq_false hd]
  cases hb : t.berth with
  | none => simp [meets_eq_false (hs hb)]
  | some b => simp

/-- An aligned load inside scratch and the latch page under which no tug entry writes completes. -/
theorem loadAt_done {s : State} {e : Side} {c : Cluster} {a n al : Nat} (x : EngEcc) (f : State → State)
    (ha : a % al = 0) (hi : a + n ≤ 0x41000) (ht : ∀ t ∈ (s.cluster e c).tugs, t.dst + t.len ≤ a ∨ a + n ≤ t.dst) :
    loadAt s e c a n al x f = .done (f (countScr e a n x.scr s)) none := by
  simp [loadAt, readable, ha, hi, loadStalls_eq_false ht]

/-- An aligned store inside scratch under which no tug entry works completes. -/
theorem storeAt_done {s : State} {e : Side} {c : Cluster} {a n al : Nat} (x : EngEcc) (f : State → State)
    (ha : a % al = 0) (hi : a + n ≤ 0x40000)
    (ht : ∀ t ∈ (s.cluster e c).tugs,
      (t.dst + t.len ≤ a ∨ a + n ≤ t.dst) ∧ (t.berth = none → t.src + t.len ≤ a ∨ a + n ≤ t.src)) :
    storeAt s e c a n al x f = .done (f (countScr e a n x.scr s)) none := by
  simp [storeAt, writable, ha, hi, storeStalls_eq_false ht]

/-- Every load of R190 loads as many bytes as the table gives it. -/
theorem exec_scalarLoads : ∀ p ∈ scalarLoads, ∀ e c f s, exec (p.1 e c f) s = scalarLoad e c (p.1 e c f) f p.2 s := by
  simp only [scalarLoads, List.forall_mem_cons]
  exact ⟨fun _ _ _ _ => rfl, fun _ _ _ _ => rfl, fun _ _ _ _ => rfl, fun _ h => absurd h List.not_mem_nil⟩

/-- Every store of R190 stores as many bytes as the table gives it. -/
theorem exec_scalarStores :
    ∀ p ∈ scalarStores, ∀ e c f s, exec (p.1 e c f) s = scalarStore e c (p.1 e c f) f p.2 s := by
  simp only [scalarStores, List.forall_mem_cons]
  exact ⟨fun _ _ _ _ => rfl, fun _ _ _ _ => rfl, fun _ _ _ _ => rfl, fun _ h => absurd h List.not_mem_nil⟩

/-- The address that the model forms for format SM is R190's. -/
theorem addr_eq_scalarAddr (k : ClusterState) (f : FSM) : addr k f.sb (f.imm17.signExtend 32) = scalarAddr k f := rfl

/-- A load of `n` bytes puts them in S[sr], little-endian. -/
theorem runs_scalarLoad {e : Side} {c : Cluster} {i : Instr} {f : FSM} {n : Nat} {s : State}
    (hx : exec i s = scalarLoad e c i f n s) (hr : f.rsv = 0) (ha : scalarAddr (s.cluster e c) f % n = 0)
    (hi : scalarAddr (s.cluster e c) f + n ≤ 0x41000)
    (ht : ∀ t ∈ (s.cluster e c).tugs,
      t.dst + t.len ≤ scalarAddr (s.cluster e c) f ∨ scalarAddr (s.cluster e c) f + n ≤ t.dst) :
    Runs e c 1 i f.ecc s fun u => (countScr e (scalarAddr (s.cluster e c) f) n f.ecc.scr u).updCl e c fun k =>
      (k.setS f.sr (BitVec.ofNat 32 (scrNat s e c (scalarAddr (s.cluster e c) f) n))).after (k.pc + 1) := by
  refine runs_of_done hx (by simp [hr]) ?_ (by simp) rfl
    (g' := fun k => k.setS f.sr (BitVec.ofNat 32 (scrNat s e c (scalarAddr (s.cluster e c) f) n)))
  rw [cluster_countPm, addr_eq_scalarAddr, loadAt_done f.ecc _ ha hi (by simpa using ht), scrNat_countScr,
    scrNat_countPm]
  rfl

theorem scalarLoads_hold : ScalarLoads :=
  fun p hp e c f s hr ha hi ht => runs_scalarLoad (exec_scalarLoads p hp e c f s) hr ha hi ht

/-- Byte `i` of a number, counted from the lowest. -/
theorem getElem_toLe (n v i : Nat) (h : i < (toLe n v).length) : (toLe n v)[i] = BitVec.ofNat 8 (v / 256 ^ i) := by
  induction n generalizing v i with
  | zero => simp [toLe] at h
  | succ n ih =>
    cases i with
    | zero => simp [toLe]
    | succ i => simp [toLe, ih, Nat.div_div_eq_div_mul, Nat.pow_succ, Nat.mul_comm]

theorem ofNat_div_eq_extractLsb' (w : Word) (i : Nat) :
    BitVec.ofNat 8 (w.toNat / 256 ^ i) = w.extractLsb' (8 * i) 8 := by
  apply BitVec.eq_of_toNat_eq
  simp [BitVec.extractLsb'_toNat, Nat.shiftRight_eq_div_pow, Nat.pow_mul]

/-- A cluster after an instruction that stored the bytes `bs` from address `a` on and goes to index `n`. -/
def ClusterState.stored (a : Nat) (bs : List Byte) (n : Nat) (k : ClusterState) : ClusterState :=
  ({ k with scratch := putBytes k.scratch a bs }).after n

/-- The bytes stored read as stored. -/
theorem scrByte_stored_same (s : State) (e : Side) (c : Cluster) (a n : Nat) (bs : List Byte) {i : Nat}
    (h : i < bs.length) (hi : a + bs.length ≤ 0x40000) :
    scrByte (s.updCl e c (ClusterState.stored a bs n)) e c (a + i) = bs[i] := by
  unfold scrByte
  rw [if_pos (by omega), cluster_updCl_same]
  exact get_putBytes _ _ _ h

/-- Every other byte reads as before. -/
theorem scrByte_stored_ne (s : State) (e : Side) (c : Cluster) (a n : Nat) (bs : List Byte) {b : Nat}
    (h : b < a ∨ a + bs.length ≤ b) :
    scrByte (s.updCl e c (ClusterState.stored a bs n)) e c b = scrByte s e c b := by
  unfold scrByte
  rw [cluster_updCl_same, updCl_ffn]
  simp only [ClusterState.stored, ClusterState.after, getBytes_putBytes_ne _ _ _ h]

/-- The end of a step changes nothing but what it can change. -/
theorem only_finish (A : Nat → Prop) {s : State} (h : s.raised = []) : Only A s (settle (flushEvents s)) :=
  ⟨blank_finish s, fun _ _ ha => reg_finish s ha (by simp [raisesOk, h])⟩

/-- A store of `n` bytes writes the low bytes of S[sr], little-endian. -/
theorem exec_scalarStore {e : Side} {c : Cluster} {i : Instr} {f : FSM} {n a : Nat} {s : State}
    (hx : exec i s = scalarStore e c i f n s) (hm : MolReady e c 1 i s) (hr : f.rsv = 0)
    (he : scalarAddr (s.cluster e c) f = a) (ha : a % n = 0) (hi : a + n ≤ 0x40000)
    (ht : ∀ t ∈ (s.cluster e c).tugs,
      (t.dst + t.len ≤ a ∨ a + n ≤ t.dst) ∧ (t.berth = none → t.src + t.len ≤ a ∨ a + n ≤ t.src)) :
    exec i s = .next (settle (flushEvents ((countScr e a n f.ecc.scr (countPm e 1 f.ecc s)).updCl e c
      (.stored a (toLe n ((s.cluster e c).sreg f.sr).toNat) ((s.cluster e c).pc + 1))))) := by
  refine exec_of_done hx hm (by simp [hr]) ?_
    (g := fun k => { k with scratch := putBytes k.scratch a (toLe n ((s.cluster e c).sreg f.sr).toNat) })
  dsimp only
  rw [cluster_countPm, addr_eq_scalarAddr, he, storeAt_done f.ecc _ ha hi (by simpa using ht)]
  rfl

/-- What a store leaves unchanged, and the bytes it leaves, at the end of its step. -/
theorem stored_frame (s u : State) (e : Side) (c : Cluster) (a n m v : Nat) (hi : a + n ≤ 0x40000)
    (hq : u.raised = []) (hk : u.cluster e c = s.cluster e c) (hb : ∀ b, scrByte u e c b = scrByte s e c b) :
    let t := settle (flushEvents (u.updCl e c (.stored a (toLe n v) m)))
    (∀ i < n, scrByte t e c (a + i) = BitVec.ofNat 8 (v / 256 ^ i))
      ∧ (∀ b, b < a ∨ a + n ≤ b → scrByte t e c b = scrByte s e c b)
      ∧ t.cluster e c = ({ s.cluster e c with scratch := (t.cluster e c).scratch }).after m
      ∧ Only (fun _ => False) (u.updCl e c fun _ => t.cluster e c) t := by
  have hl : (toLe n v).length = n := toLe_length ..
  refine ⟨fun i h => ?_, fun b h => ?_, ?_, ?_⟩
  · rw [scrByte_finish, scrByte_stored_same _ _ _ _ _ _ (by omega) (by omega), getElem_toLe]
  · rw [scrByte_finish, scrByte_stored_ne _ _ _ _ _ _ (by omega), hb]
  · rw [cluster_finish, cluster_updCl_same, hk]
    rfl
  · have hu : (u.updCl e c fun _ => ClusterState.stored a (toLe n v) m (u.cluster e c))
        = u.updCl e c (.stored a (toLe n v) m) := updCl_congr _ _ _ rfl
    rw [cluster_finish, cluster_updCl_same, hu]
    exact only_finish _ (by rw [updCl_raised, hq])

theorem scalarStores_hold : ScalarStores := by
  intro p hp e c f s hr a ha hi ht hm hq
  obtain ⟨hin, hout, hcl, honly⟩ := stored_frame s (countScr e a p.2 f.ecc.scr (countPm e 1 f.ecc s)) e c a p.2
    ((s.cluster e c).pc + 1) ((s.cluster e c).sreg f.sr).toNat hi hq (by simp) (by simp)
  exact ⟨_, exec_scalarStore (exec_scalarStores p hp e c f s) hm hr rfl ha hi ht,
    fun i h => (hin i h).trans (ofNat_div_eq_extractLsb' _ i), hout, hcl, honly⟩

/-- Settles O11: a load puts the bytes it reads in S[sr]; a store writes the bytes of S[sr], and its frame is that of a
change of its own cluster's scratch. -/
theorem scalarMemory : Obligations.ScalarMemory := ⟨scalarLoads_hold, scalarStores_hold⟩

/-! ### Predication and predicate registers (R179, R192, R194) -/

/-- The number of which bit `l` is `f l`, for `l` below `n`. -/
def bitSum (f : Nat → Bool) (n : Nat) : Nat := (List.range n).foldl (fun m l => if f l then m + 2 ^ l else m) 0

theorem bitSum_succ (f : Nat → Bool) (n : Nat) : bitSum f (n + 1) = if f n then bitSum f n + 2 ^ n else bitSum f n := by
  simp [bitSum, List.range_succ]

theorem bitSum_lt (f : Nat → Bool) (n : Nat) : bitSum f n < 2 ^ n := by
  induction n with
  | zero => simp [bitSum]
  | succ n ih =>
    rw [bitSum_succ]
    split <;> omega

theorem testBit_bitSum (f : Nat → Bool) {l n : Nat} (h : l < n) : (bitSum f n).testBit l = f l := by
  induction n with
  | zero => omega
  | succ n ih =>
    rw [bitSum_succ]
    rcases Nat.lt_succ_iff_lt_or_eq.mp h with hl | rfl
    · split
      · rw [Nat.add_comm, Nat.testBit_two_pow_add_gt hl, ih hl]
      · exact ih hl
    · have hz : (bitSum f l).testBit l = false := Nat.testBit_lt_two_pow (bitSum_lt f l)
      cases hf : f l with
      | true => rw [if_pos rfl, Nat.add_comm, Nat.testBit_two_pow_add_eq, hz, Bool.not_false]
      | false => rw [if_neg Bool.false_ne_true, hz]

/-- A predicate register reads the bits it was made from. -/
theorem predOf_getLsbD (f : Nat → Bool) (l : Fin 64) : (predOf f).getLsbD l.val = f l.val := by
  have h : predOf f = BitVec.ofNat 64 (bitSum f 64) := rfl
  rw [h, BitVec.getLsbD_ofNat, testBit_bitSum f l.isLt]
  simp

/-- The model's active lanes are R179's. -/
theorem lane_eq_actLane (k : ClusterState) (f : BitVec 5) (l : Nat) : lane k f l = actLane k f l := rfl

theorem predOk_of_fields {p : BitVec 5} (h : p.getLsbD 4 = true ∨ p = 0) : predOk p = true := by
  rcases h with h | rfl
  · simp [predOk, h]
  · rfl

/-! ### Vector compares (R192) -/

/-- The model's operand b is R191's. -/
theorem operandB_eq_laneB (k : ClusterState) (f : FV) (l : Fin 64) : operandB k f l = laneB k f l := by
  cases h : f.bcast <;> simp [operandB, laneB, h]

theorem vWords_eq_vectorWords (f : FV) : vWords f = vectorWords f := by
  simp [vWords, vectorWords]

theorem bselOk_of_fields {f : FV}
    (h : f.bcast = true → f.vb.getLsbD 4 = true → f.vb = 16 ∧ f.ext.extractLsb' 16 16 = 0) :
    bselOk f = true := by
  cases hb : f.bcast with
  | false => simp [bselOk, hb]
  | true =>
    cases hv : f.vb.getLsbD 4 with
    | false => simp only [bselOk, hv, Bool.not_false, Bool.or_true, Bool.true_or]
    | true =>
      obtain ⟨h16, hx⟩ := h hb hv
      simp [bselOk, h16, hx]

/-- A destination below 8 names a predicate register. -/
theorem vd_high_zero {v : BitVec 5} (h : v.toNat < 8) : v.extractLsb' 3 2 = 0 := by
  apply BitVec.eq_of_toNat_eq
  simp [BitVec.extractLsb'_toNat, Nat.shiftRight_eq_div_pow, Nat.div_eq_of_lt h]

/-- The bits that a compare by `g` puts in a predicate register. -/
def compareBits (k : ClusterState) (f : FV) (g : Half → Half → Bool) : BitVec 64 :=
  predOf fun l => lane k f.pred l && g ((k.vreg f.va)[Fin.ofNat 64 l]) (operandB k f (Fin.ofNat 64 l))

/-- A lane's bit is set exactly where the lane is active and the condition holds. -/
theorem compareBits_getLsbD (k : ClusterState) (f : FV) (g : Half → Half → Bool) (l : Fin 64) :
    (compareBits k f g).getLsbD l.val = true
      ↔ actLane k f.pred l.val = true ∧ g (k.vreg f.va)[l] (laneB k f l) = true := by
  have hl : Fin.ofNat 64 l.val = l := Fin.ext (Nat.mod_eq_of_lt l.isLt)
  simp only [compareBits, predOf_getLsbD, hl, Bool.and_eq_true, operandB_eq_laneB, lane_eq_actLane]

/-- A compare of legal fields puts its bits in P[vd[2:0]]. -/
theorem runs_compareOp {e : Side} {c : Cluster} {i : Instr} {f : FV} {g : Half → Half → Bool} {s : State}
    (hx : exec i s = compareOp e c i f g s) (hf : vectorFields f) (hd : f.vd.toNat < 8) :
    Runs e c (vectorWords f) i f.ecc s fun u => u.updCl e c fun k =>
      (k.setP (f.vd.extractLsb' 0 3) (compareBits (s.cluster e c) f g)).after (k.pc + vectorWords f) := by
  obtain ⟨hp, hb⟩ := hf
  rw [compareOp, vWords_eq_vectorWords] at hx
  exact runs_of_local hx (by simp [vd_high_zero hd, predOk_of_fields hp, bselOk_of_fields hb]) rfl
    (by rw [cluster_countPm]; rfl)

/-- Every row of R192 compares by the condition that the table gives it. -/
theorem exec_compareTable : ∀ p ∈ compareTable, ∃ g : Half → Half → Bool, (∀ a b, g a b = true ↔ p.2 a b)
    ∧ ∀ e c f s, exec (p.1 e c f) s = compareOp e c (p.1 e c f) f g s := by
  simp only [compareTable, List.forall_mem_cons]
  exact ⟨
    ⟨fun a b => a == b, fun _ _ => beq_iff_eq, fun _ _ _ _ => rfl⟩,
    ⟨fun a b => a != b, fun _ _ => bne_iff_ne, fun _ _ _ _ => rfl⟩,
    ⟨fun a b => decide (a.toNat < b.toNat), fun _ _ => decide_eq_true_iff, fun _ _ _ _ => rfl⟩,
    ⟨fun a b => decide (a.toNat ≤ b.toNat), fun _ _ => decide_eq_true_iff, fun _ _ _ _ => rfl⟩,
    ⟨fun a b => decide (a.toInt < b.toInt), fun _ _ => decide_eq_true_iff, fun _ _ _ _ => rfl⟩,
    ⟨fun a b => decide (a.toInt ≤ b.toInt), fun _ _ => decide_eq_true_iff, fun _ _ _ _ => rfl⟩,
    fun _ h => absurd h List.not_mem_nil⟩

theorem vectorCompares_hold : VectorCompares := by
  intro p hp e c f s hf hd
  obtain ⟨g, hg, hx⟩ := exec_compareTable p hp
  exact ⟨compareBits (s.cluster e c) f g, fun l => by rw [compareBits_getLsbD, hg], runs_compareOp (hx e c f s) hf hd⟩

/-! ### Reductions (R193) -/

/-- The greatest element, 0 of no elements. -/
theorem foldl_max_spec (xs : List Nat) : (∀ x ∈ xs, x ≤ xs.foldl max 0) ∧ (xs.foldl max 0 ∈ xs ∨ xs = []) := by
  rw [List.foldl_max]
  cases h : xs.max? with
  | none => simp [List.max?_eq_none_iff.mp h]
  | some m =>
    obtain ⟨hm, hle⟩ := List.max?_eq_some_iff.mp h
    simpa using ⟨hle, Or.inl hm⟩

/-- The least element of elements up to `b`, `b` of no elements. -/
theorem foldl_min_spec {b : Nat} (xs : List Nat) (hb : ∀ x ∈ xs, x ≤ b) :
    (∀ x ∈ xs, xs.foldl min b ≤ x) ∧ (xs.foldl min b ∈ xs ∨ xs = []) := by
  rw [List.foldl_min]
  cases h : xs.min? with
  | none => simp [List.min?_eq_none_iff.mp h]
  | some m =>
    obtain ⟨hm, hle⟩ := List.min?_eq_some_iff.mp h
    rw [Option.getD_some, Nat.min_eq_right (hb m hm)]
    exact ⟨hle, Or.inl hm⟩

/-- Taking 0 where `b` fails adds up to the sum over those where `b` holds. -/
theorem sum_filter_eq_sum_ite {α : Type} (l : List α) (b : α → Bool) (x : α → Nat) :
    ((l.filter b).map x).sum = (l.map fun a => if b a then x a else 0).sum := by
  induction l with
  | nil => rfl
  | cons a l ih => cases h : b a <;> simp [h, ih]

/-- The values of the active lanes of `v`. -/
def activeValues (k : ClusterState) (pred : BitVec 5) (v : Vector Half 64) : List Nat :=
  ((List.finRange 64).filter fun l => lane k pred l.val).map fun l => (v[l]).toNat

theorem mem_activeValues {k : ClusterState} {pred : BitVec 5} {v : Vector Half 64} {m : Nat} :
    m ∈ activeValues k pred v ↔ ∃ l : Fin 64, actLane k pred l.val = true ∧ (v[l]).toNat = m := by
  simp [activeValues, lane_eq_actLane]

theorem activeValues_eq_nil {k : ClusterState} {pred : BitVec 5} {v : Vector Half 64} :
    activeValues k pred v = [] ↔ ∀ l : Fin 64, ¬ actLane k pred l.val = true := by
  simp [activeValues, lane_eq_actLane]

theorem activeValues_le {k : ClusterState} {pred : BitVec 5} {v : Vector Half 64} :
    ∀ m ∈ activeValues k pred v, m ≤ 65535 := by
  intro m hm
  obtain ⟨l, -, rfl⟩ := mem_activeValues.mp hm
  omega

/-- A reduction of legal fields puts its result over the active lanes in S[vd[3:0]]. -/
theorem runs_reduceOp {e : Side} {c : Cluster} {i : Instr} {f : FV} {g : List Nat → Nat} {s : State}
    (hx : exec i s = reduceOp e c i f g s) (hc : f.bcast = false) (hb : f.vb = 0) (hd : f.vd.toNat < 16)
    (hp : f.pred.getLsbD 4 = true ∨ f.pred = 0) :
    Runs e c 1 i f.ecc s fun u => u.updCl e c fun k =>
      (k.setS (f.vd.extractLsb' 0 4) (BitVec.ofNat 32
        (g (activeValues (s.cluster e c) f.pred ((s.cluster e c).vreg f.va))))).after (k.pc + 1) := by
  have hw : vWords f = 1 := by simp [vWords, hc]
  have hv : f.vd[4] = false := Nat.testBit_lt_two_pow hd
  rw [reduceOp, hw] at hx
  exact runs_of_local hx (by simp [hc, hb, hv, predOk_of_fields hp]) rfl (by rw [cluster_countPm]; rfl)

theorem vectorReductions_hold : VectorReductions := by
  intro e c f s hc hb hd hp k act x puts
  obtain ⟨hmax, hmaxIn⟩ := foldl_max_spec (activeValues k f.pred (k.vreg f.va))
  obtain ⟨hmin, hminIn⟩ := foldl_min_spec (activeValues k f.pred (k.vreg f.va)) activeValues_le
  refine ⟨⟨_, runs_reduceOp (g := fun xs => xs.foldl max 0) rfl hc hb hd hp,
      fun l hl => hmax _ (mem_activeValues.mpr ⟨l, hl, rfl⟩), ?_⟩,
    ⟨_, runs_reduceOp (g := fun xs => xs.foldl min 65535) rfl hc hb hd hp,
      fun l hl => hmin _ (mem_activeValues.mpr ⟨l, hl, rfl⟩), ?_⟩,
    ⟨_, runs_reduceOp (g := fun xs => xs.sum) rfl hc hb hd hp, fun b hbl => ?_⟩⟩
  · exact hmaxIn.imp mem_activeValues.mp fun h => ⟨congrArg (List.foldl max 0) h, activeValues_eq_nil.mp h⟩
  · exact hminIn.imp mem_activeValues.mp fun h => ⟨congrArg (List.foldl min 65535) h, activeValues_eq_nil.mp h⟩
  · have hbl' : (fun l : Fin 64 => lane k f.pred l.val) = b := funext fun l => Bool.eq_iff_iff.mpr (hbl l).symm
    rw [← sum_filter_eq_sum_ite, ← hbl']
    rfl

/-! ### Predicate instructions (R194) -/

/-- A predicate instruction of legal fields puts its function's bits in P[pd]. -/
theorem runs_predOp {e : Side} {c : Cluster} {i : Instr} {f : FP} {legal : Bool}
    {g : BitVec 64 → BitVec 64 → BitVec 64} {s : State} (hx : exec i s = predOp e c i f legal g s) (hr : f.rsv = 0)
    (hl : legal = true) :
    Runs e c 1 i f.ecc s fun u => u.updCl e c fun k =>
      (k.setP f.pd (g ((s.cluster e c).preg f.pa) ((s.cluster e c).preg f.pb))).after (k.pc + 1) :=
  runs_of_local hx (by simp [hr, hl]) rfl (by rw [cluster_countPm])

/-- The lanes from `lo` to below `hi`. -/
def rangeBits (lo hi : Int) : BitVec 64 := predOf fun l => decide (lo ≤ l) && decide ((l : Int) < hi)

theorem rangeBits_getLsbD (lo hi : Int) (l : Fin 64) :
    (rangeBits lo hi).getLsbD l.val = true ↔ lo ≤ l.val ∧ (l.val : Int) < hi := by
  rw [rangeBits, predOf_getLsbD, Bool.and_eq_true, decide_eq_true_iff, decide_eq_true_iff]

/-- PRANGE puts the lanes from S[sa] to below S[sb] in P[pd]. -/
theorem runs_prange {e : Side} {c : Cluster} {f : FPR} {s : State} (hr : f.rsv = 0) :
    Runs e c 1 (.prange e c f) f.ecc s fun u => u.updCl e c fun k =>
      (k.setP f.pd (rangeBits ((s.cluster e c).sreg f.sa).toInt ((s.cluster e c).sreg f.sb).toInt)).after (k.pc + 1) :=
  have hx : exec (.prange e c f) s = execPrange e c f s := rfl
  runs_of_local hx (by simp [hr]) rfl (by rw [cluster_countPm]; rfl)

theorem predicateOperations_hold : PredicateOperations := by
  refine ⟨fun e c f s hr => ?_, fun e c f s hr => ⟨_, rangeBits_getLsbD _ _, runs_prange hr⟩⟩
  exact ⟨runs_predOp (g := fun a b => a &&& b) rfl hr rfl, runs_predOp (g := fun a b => a ||| b) rfl hr rfl,
    runs_predOp (g := fun a b => a ^^^ b) rfl hr rfl, runs_predOp (g := fun a b => a &&& ~~~b) rfl hr rfl,
    fun hb => runs_predOp (g := fun a _ => ~~~a) rfl hr (by simp [hb]),
    fun ha hb => ⟨runs_predOp (g := fun _ _ => BitVec.allOnes 64) rfl hr (by simp [ha, hb]),
      runs_predOp (g := fun _ _ => 0) rfl hr (by simp [ha, hb])⟩⟩

/-- Settles O13: the compares by the bits of `predOf`, the reductions by the values of the active lanes, the predicate
instructions by their functions. -/
theorem comparesAndPredicates : Obligations.ComparesAndPredicates :=
  ⟨vectorCompares_hold, vectorReductions_hold, predicateOperations_hold⟩

end Sys2Proof.Machine
